-- ==== Sys2Proof/Word.lean ====
section
/-! DEFINITION. Word.lean: the byte of the order links and the two widest ranges of the spec. -/

namespace Sys2Proof

/-- One byte of an order-link frame (spec 11.1). -/
abbrev Byte := BitVec 8

/-- The greatest position and the greatest plan distance in centimetres (R18, R34): 16,777,215. -/
abbrev maxPosition : Nat := 16777215

/-- One bit time of the track loop is the model's unit of time: 4000 of them a second (R111). Log entry 1. -/
abbrev ticksPerSecond : Nat := 4000

/-- Ticks in one millisecond (R111: 4000 bit/s). -/
abbrev ticksPerMs : Nat := 4

end Sys2Proof
end

