-- ==== Sys2Proof/Syntax.lean ====
section
/-! DEFINITION. Syntax.lean: the commands of the TC-2, one constructor for each row of spec/opcode_table.json, and
the names their operands use. An order's operand bytes stand as its frame carries them (spec 11.2), so that a byte
out of range can be commanded and is answered as R202 says. -/

namespace Sys2Proof

/-- End 1 or End 2 of the tram (00_scope, "End"). -/
inductive CabEnd where
  | one | two
  deriving DecidableEq, Repr

/-- The three order links as ORD sees them (00_scope, "Port"). -/
inductive Port where
  | end1 | end2 | vehicle
  deriving DecidableEq, Repr

/-- The four sensed axles; bogie 1 carries axles 1 and 2, bogie 2 carries axles 3 and 4 (chapter 3). -/
inductive Axle where
  | a1 | a2 | a3 | a4
  deriving DecidableEq, Repr

/-- The three sounder channels (R145). -/
inductive Channel where
  | bell | horn | chime
  deriving DecidableEq, Repr

/-- What the inbound decoder sees at one event of the two lines (R114, R116): a change of the data line, a change of
the strobe line, or a change of both within an eighth of a bit time, which is a coding error. -/
inductive LineChange where
  | data | strobe | both
  deriving DecidableEq, Repr

/-- The waypoint payload of PLAN_PUT in byte order (spec 11.5). -/
structure WaypointPayload where
  index : Byte
  kind : Byte
  id : BitVec 16
  distance : BitVec 24
  first : Byte
  second : BitVec 16
  third : BitVec 16
  deriving DecidableEq, Repr

/-- An order with the operand bytes of its payload (spec 11.2). A master sends it in a frame; it waits in a port's
queue (R181, R182) until its taking. -/
inductive Order where
  | key (state : Byte)
  | claim
  | lever (l grip selector : Byte)
  | ack
  | doors (sides ramp : Byte)
  | close
  | bell (operand : Byte)
  | horn (operand : Byte)
  | retry (junction : BitVec 16)
  | override (junction : BitVec 16)
  | shift (correction : BitVec 16)
  | config (parameter : Byte) (value : BitVec 16)
  | configDone
  | planClear
  | planPut (waypoint : WaypointPayload)
  | planSeal (count : Byte) (check : BitVec 16)
  | planSwitch
  | planWithdraw
  | doorState (locked : Byte)
  | sound (program : Byte)
  | soundBreak (channel : Byte)
  | level (level : Byte)
  | faultTake
  | forceRelease
  | restart
  | cut (target number action : Byte)
  | preface (code first second third : Byte)
  | settle
  | readFault (position : Byte)
  | ident
  deriving DecidableEq, Repr

/-- The commands: one constructor per row of spec/opcode_table.json. An order command is the TAKING of that order on
its port (R182); `tag` is the tag its frame bore. A timer, step or completion command is the event at which its time
has come. -/
inductive Instr where
  /-- COLD_RESET (R200). -/
  | coldReset
  /-- AXLE_PULSE (R43): a rising edge on the axle's pulse input; `active` is its direction input's level. -/
  | axlePulse (axle : Axle) (active : Bool)
  /-- COUNT_CLOSE (R52). -/
  | countClose
  /-- EMERGENCY_INPUT (R66): the emergency input of an end changes to active or to inactive. -/
  | emergencyInput (cab : CabEnd) (active : Bool)
  /-- BUTTON_SAMPLE (R122): the levels of the 26 button inputs in the order of their numbers; true is pressed. -/
  | buttonSample (levels : List Bool)
  /-- BUTTON_STUCK (R123): button 1..26 has been PRESSED for 20 s. -/
  | buttonStuck (button : Nat)
  /-- RAMP_STOWED_CHANGE (R140): the ramp-stowed input changes to this level. -/
  | rampStowedChange (stowed : Bool)
  /-- HANDOVER_TIMER_EXPIRY (R10). -/
  | handoverTimerExpiry
  /-- SILENCE_TIMER_EXPIRY (R13). -/
  | silenceTimerExpiry
  /-- VIGILANCE_TIMER_EXPIRY (R15). -/
  | vigilanceTimerExpiry
  /-- EXCHANGE_TIMER_EXPIRY (R94): the exchange timer of the live plan's entry with this junction id. -/
  | exchangeTimerExpiry (junction : Nat)
  /-- STEP_EXPIRY (R148). -/
  | stepExpiry (channel : Channel)
  /-- BELL_STROKE_END (R152). -/
  | bellStrokeEnd
  /-- HORN_MINIMUM (R153). -/
  | hornMinimum
  /-- GAP_END (R111). -/
  | gapEnd
  /-- TRANSMISSION_COMPLETION (R113). -/
  | transmissionCompletion
  /-- INBOUND_FRAME_CUT_OFF (R116): 2 bit times without a change. -/
  | inboundFrameCutOff
  /-- INBOUND_GAP_END (R116): 8 bit times without a change. -/
  | inboundGapEnd
  /-- ACCEPT (R93), with the fields of its field block (spec 11.7). -/
  | accept (tram : BitVec 14) (junction : BitVec 12) (number : BitVec 4)
  /-- SET (R93). -/
  | setLocked (tram : BitVec 14) (junction : BitVec 12) (number : BitVec 4)
  /-- REFUSE (R93); `reason` is the qualifier field. -/
  | refuse (tram : BitVec 14) (junction : BitVec 12) (number : BitVec 4) (reason : BitVec 3)
  /-- LOCK_LOST (R95). -/
  | lockLost (tram : BitVec 14) (junction : BitVec 12) (number : BitVec 4)
  /-- FIX (R39). -/
  | fix (junction : BitVec 12)
  /-- FRAME_ARRIVAL (R181): the frame's bytes after its start byte (length, body, frame check). -/
  | frameArrival (port : Port) (frame : List Byte)
  /-- ORDER_FRAME_CUT_OFF (R201): more than 1 ms without a byte. -/
  | orderFrameCutOff (port : Port)
  /-- KEY (R3). -/
  | key (port : Port) (tag state : Byte)
  /-- CLAIM (R7). -/
  | claim (port : Port) (tag : Byte)
  /-- LEVER (R59). -/
  | lever (port : Port) (tag l grip selector : Byte)
  /-- ACK (R173). -/
  | ack (port : Port) (tag : Byte)
  /-- DOORS (R133). -/
  | doors (port : Port) (tag sides ramp : Byte)
  /-- CLOSE (R137). -/
  | close (port : Port) (tag : Byte)
  /-- BELL (R150). -/
  | bell (port : Port) (tag operand : Byte)
  /-- HORN (R150). -/
  | horn (port : Port) (tag operand : Byte)
  /-- RETRY (R96). -/
  | retry (port : Port) (tag : Byte) (junction : BitVec 16)
  /-- OVERRIDE (R97). -/
  | override (port : Port) (tag : Byte) (junction : BitVec 16)
  /-- SHIFT (R40). -/
  | shift (port : Port) (tag : Byte) (correction : BitVec 16)
  /-- CONFIG (R192). -/
  | config (port : Port) (tag parameter : Byte) (value : BitVec 16)
  /-- CONFIG_DONE (R194). -/
  | configDone (port : Port) (tag : Byte)
  /-- PLAN_CLEAR (R20). -/
  | planClear (port : Port) (tag : Byte)
  /-- PLAN_CLEAR_COMPLETION (R21). -/
  | planClearCompletion
  /-- PLAN_PUT (R22). -/
  | planPut (port : Port) (tag : Byte) (waypoint : WaypointPayload)
  /-- PLAN_SEAL (R23). -/
  | planSeal (port : Port) (tag count : Byte) (check : BitVec 16)
  /-- PLAN_SEAL_COMPLETION (R24). -/
  | planSealCompletion
  /-- PLAN_SWITCH (R26). -/
  | planSwitch (port : Port) (tag : Byte)
  /-- PLAN_WITHDRAW (R31). -/
  | planWithdraw (port : Port) (tag : Byte)
  /-- DOOR_STATE (R139). -/
  | doorState (port : Port) (tag locked : Byte)
  /-- SOUND (R156). -/
  | sound (port : Port) (tag program : Byte)
  /-- SOUND_BREAK (R157). -/
  | soundBreak (port : Port) (tag channel : Byte)
  /-- LEVEL (R158). -/
  | level (port : Port) (tag level : Byte)
  /-- FAULT_TAKE (R170). -/
  | faultTake (port : Port) (tag : Byte)
  /-- READ_FAULT (R171). -/
  | readFault (port : Port) (tag position : Byte)
  /-- FORCE_RELEASE (R11). -/
  | forceRelease (port : Port) (tag : Byte)
  /-- CUT (R48). -/
  | cut (port : Port) (tag target number action : Byte)
  /-- PREFACE (R190): the code and the three payload bytes (spec 11.2). -/
  | preface (port : Port) (tag code first second third : Byte)
  /-- SETTLE (R102). -/
  | settle (port : Port) (tag : Byte)
  /-- IDENT (R195). -/
  | ident (port : Port) (tag : Byte)
  /-- RESTART (R198). -/
  | restart (port : Port) (tag : Byte)
  /-- INBOUND_LINE_CHANGE (R116). -/
  | inboundLineChange (change : LineChange)
  /-- OUTBOUND_BIT_TIME (R114). -/
  | outboundBitTime
  /-- ORDER_LINK_BYTE_ARRIVAL (R201). -/
  | orderLinkByteArrival (port : Port) (byte : Byte)
  /-- OUTBOUND_FRAME_SENT (R183). -/
  | outboundFrameSent (port : Port)
  deriving DecidableEq, Repr

end Sys2Proof
end

