-- ==== Sys2Proof/WellFormed.lean ====
section
/-! DEFINITION. WellFormed.lean: which commands the part's inputs can carry. The operand types already bound the
fields of telegrams and orders; what is left is checked here. A meaning never stops on an ill-formed command: it acts
on the operands that name something and leaves the rest. -/

namespace Sys2Proof

/-- A command that the inputs can carry: 26 button levels at a sample (R122), a button number 1..26 (chapter 7), a
junction id 1..4095 (R18), and a frame of at least its length byte and at most 255 bytes after it (spec 11.1). -/
def Instr.wellFormed : Instr → Bool
  | .buttonSample levels => levels.length == 26
  | .buttonStuck button => 1 ≤ button && button ≤ 26
  | .exchangeTimerExpiry junction => 1 ≤ junction && junction ≤ 4095
  | .frameArrival _ frame => 1 ≤ frame.length && frame.length ≤ 256
  | _ => true

end Sys2Proof
end

