-- ==== Sys2Proof/Decode.lean ====
section
/-! DEFINITION. Decode.lean: the table of this part gives no row any bits (every row's "fields" is empty and none has
"fixed"), so no word spells a command. The wire forms of orders and telegrams are read by Machine/Frames.lean. -/

namespace Sys2Proof

/-- The command a word spells by the table's bits: no row gives bits, so none. -/
def decodeTableWord (_nbits _w : Nat) : Option Instr :=
  none

end Sys2Proof
end

