-- ==== Sys2Proof/Config.lean ====
section
/-! DEFINITION. Config.lean: what the part fixes, and the free values: delays that the spec bounds and does not
state. -/

namespace Sys2Proof.Config

/-- Places in a port's order queue (R181, R195). -/
abbrev orderQueueSize : Nat := 8

/-- Places in the fault queue (R168, R195). -/
abbrev faultQueueSize : Nat := 16

/-- Places in the loop's outbound queue (R109). -/
abbrev loopQueueSize : Nat := 8

/-- Entries of a plan bank (R18, R195). -/
abbrev bankSize : Nat := 64

/-- Ids in a settle list (R101). -/
abbrev settleListSize : Nat := 8

/-- Passenger buttons (R122, R195). -/
abbrev buttonCount : Nat := 26

/-- FREE VALUE: whether a clear in progress completes at tick `n`. R21 bounds the clear by 40 ms and states no
duration; the tick applies the bound. Log entry 14. -/
opaque clearDone : Nat → Bool

/-- FREE VALUE: whether a seal in progress completes at tick `n`. R24 bounds the seal by 10 ms and states no duration;
the tick applies the bound. Log entry 14. -/
opaque sealDone : Nat → Bool

/-- FREE VALUE: whether the head order of a port is taken at tick `n`; the port is 0, 1 or 2. R182 bounds the wait at
the head by 2 ms and states no duration; the tick applies the bound. Log entry 14. -/
opaque orderTaken : Nat → Nat → Bool

/-- FREE VALUE: whether the outbound frame being sent on a port ends at tick `n`; the port is 0, 1 or 2. The spec gives
the order links no bit rate. Log entry 15. -/
opaque frameSent : Nat → Nat → Bool

end Sys2Proof.Config
end

