-- ==== Sys2Proof/Machine/State.lean ====
section
/-! DEFINITION. State.lean: everything the ten blocks of the TC-2 hold, as plain data, and the values after a cold
reset. Each record cites the rule that names what it holds. Times are counted in ticks of one loop bit time, 250 µs
(log entry 1). -/

namespace Sys2Proof.Machine

/-- There is no event at which the part stops: HALT (R176) is a state in which it goes on taking orders, telegrams and
count closes. So no meaning faults, and this type has no constructor. -/
inductive Fault where
  deriving DecidableEq, Repr

/-- The refusals. -/
inductive Refusal where
  /-- Raised by an arm of exec whose command has no meaning yet; no arm raises it in this model. It would be safe. -/
  | notModelled (mnemonic : String)
  deriving DecidableEq, Repr

/-! ### Names and small records -/

/-- One value for each end. -/
structure PerEnd (α : Type) where
  one : α
  two : α
  deriving DecidableEq, Repr

/-- One value for each port. -/
structure PerPort (α : Type) where
  end1 : α
  end2 : α
  vehicle : α
  deriving DecidableEq, Repr

/-- One value for each axle. -/
structure PerAxle (α : Type) where
  a1 : α
  a2 : α
  a3 : α
  a4 : α
  deriving DecidableEq, Repr

/-- A timer: stopped, or running toward a limit; both in ticks. -/
inductive Timer where
  | stopped
  | running (limit elapsed : Nat)
  deriving DecidableEq, Repr

/-- Bogie 1 (axles 1 and 2) and bogie 2 (axles 3 and 4). -/
inductive Bogie where
  | b1 | b2
  deriving DecidableEq, Repr

/-! ### AUT (chapter 1) -/

/-- The authority state (R1). -/
inductive Authority where
  | vacant
  | live (cab : CabEnd)
  | offered (cab : CabEnd)
  deriving DecidableEq, Repr

/-- The vigilance timer (R14, R15): after its expiry it stays expired until it is stopped and cleared. -/
inductive Vigilance where
  | stopped
  | running (elapsed : Nat)
  | expired
  deriving DecidableEq, Repr

/-- What AUT holds (chapter 1). The suspension of the vigilance timer is read from FLT (R15, R178). -/
structure Aut where
  /-- R1 -/
  authority : Authority
  /-- key states, true is ON (R3) -/
  keys : PerEnd Bool
  /-- R1 -/
  keyLost : Bool
  /-- R1 -/
  lastLive : Option CabEnd
  /-- grip seen, true is HELD (R14) -/
  gripHeld : Bool
  /-- R10 -/
  handover : Timer
  /-- R12 -/
  silence : Timer
  /-- R14 -/
  vigilance : Vigilance
  deriving DecidableEq, Repr

/-! ### AXL (chapter 3) -/

/-- The axle mark (R46). -/
inductive AxleMark where
  | valid | cut | faulty
  deriving DecidableEq, Repr

/-- The last five period counts, oldest first (R44). -/
structure Window where
  c0 : Int
  c1 : Int
  c2 : Int
  c3 : Int
  c4 : Int
  deriving DecidableEq, Repr

/-- What AXL holds for one axle. -/
structure AxleState where
  /-- net count of the count period in progress (R43) -/
  net : Int
  /-- R44 -/
  window : Window
  /-- s_i, mm/s, positive forward (R45) -/
  speed : Int
  /-- R46 -/
  mark : AxleMark
  /-- implausibility run counter (R49) -/
  run : Nat
  deriving DecidableEq, Repr

/-- The slip result of the latest count close (R53): under the UNKNOWN condition no test is made. -/
inductive SlipResult where
  | notSlipping | slipping | untested
  deriving DecidableEq, Repr

/-- What AXL holds for one bogie. -/
structure BogieState where
  /-- bogie mark, true is CUT (R47) -/
  cut : Bool
  /-- adhesion factor A_b, 250..1000 (R55) -/
  adhesion : Nat
  /-- R53 -/
  slip : SlipResult
  deriving DecidableEq, Repr

/-- The reference speed record (R52). -/
structure SpeedRecord where
  v : Nat
  vDir : Int
  standstill : Bool
  /-- also the UNKNOWN condition (R51), which changes only with the record -/
  unknown : Bool
  axle : Option Axle
  nRef : Int
  deriving DecidableEq, Repr

/-- What AXL holds (chapter 3). -/
structure Axl where
  axles : PerAxle AxleState
  bogie1 : BogieState
  bogie2 : BogieState
  record : SpeedRecord
  /-- the previous reference speed magnitude (R52, R54) -/
  prev : Nat
  /-- the sand output (R56) -/
  sand : Bool
  /-- ticks since the last count close (R43: 20 ms are 80 ticks) -/
  periodTicks : Nat
  deriving DecidableEq, Repr

/-! ### The loop's telegrams (R108), and JCT's part of a waypoint -/

/-- The leg asked of the wayside (R18). -/
inductive Leg where
  | straight | left | right
  deriving DecidableEq, Repr

/-- The reason of a REFUSE (R108). -/
inductive Reason where
  | occupied | conflict | failed | badLeg
  deriving DecidableEq, Repr

/-- The kinds of outbound telegram (R108). -/
inductive TelegramKind where
  | request (leg : Leg)
  | cancel
  | release
  deriving DecidableEq, Repr

/-- An outbound telegram with the fields it was made with (R108). -/
structure Telegram where
  kind : TelegramKind
  tram : Nat
  junction : Nat
  number : BitVec 4
  deriving DecidableEq, Repr

/-- The state of a junction entry (R87). -/
inductive JunctionState where
  | waiting
  | asked
  | moving
  | locked
  | refused (reason : Reason)
  | lost
  | onSight
  | passed
  deriving DecidableEq, Repr

/-- A junction's static fields beyond id and distance (R18), its dynamic part (R87) and its fired flags (R35). -/
structure Junction where
  leg : Leg
  lead : Nat
  limit : Nat
  state : JunctionState
  /-- exchange number (R87) -/
  number : BitVec 4
  /-- exchange timer (R87) -/
  timer : Timer
  /-- due list, at most two telegrams (R90) -/
  due : List Telegram
  firedRequest : Bool
  firedApproach : Bool
  firedStand : Bool
  firedClearance : Bool
  deriving DecidableEq, Repr

/-! ### STP's part of a waypoint, and STP (chapter 7) -/

/-- Whether the tram stops on request, always, or never (R18). -/
inductive StopMode where
  | request | always | pass
  deriving DecidableEq, Repr

/-- Platform side and permit sides (R18, R132). -/
inductive Side where
  | left | right | both
  deriving DecidableEq, Repr

/-- The side of a ramp permit (R132). -/
inductive RampSide where
  | left | right
  deriving DecidableEq, Repr

/-- The stop state (R124). -/
inductive StopState where
  | ahead | served | missed | passed
  deriving DecidableEq, Repr

/-- A stop's static fields beyond id and distance (R18), its stop state (R124) and its fired flag (R35). -/
structure Stop where
  mode : StopMode
  side : Side
  state : StopState
  firedWindow : Bool
  deriving DecidableEq, Repr

/-- The part of a waypoint entry that depends on its kind (R18). -/
inductive Waypoint where
  | junction (j : Junction)
  | stop (s : Stop)
  deriving DecidableEq, Repr

/-- A waypoint entry (R18). -/
structure Entry where
  id : Nat
  distance : Nat
  point : Waypoint
  deriving DecidableEq, Repr

/-- A passenger button's debouncer (R122, R123). -/
structure Debouncer where
  pressed : Bool
  run : Nat
  /-- pressed time, in samples of 10 ms -/
  time : Nat
  stuck : Bool
  deriving DecidableEq, Repr

/-- A set of zones and access sides (R126). -/
structure Zones where
  z1 : Bool
  z2 : Bool
  z3 : Bool
  z4 : Bool
  aL : Bool
  aR : Bool
  deriving DecidableEq, Repr

/-- The request record (R126); it exists only with requested = yes. -/
structure RequestRecord where
  ordinary : Bool
  access : Bool
  zones : Zones
  firstP : Nat
  count : Nat
  deriving DecidableEq, Repr

/-- The dwell state (chapter 7.5). -/
inductive Dwell where
  | running | dwell | closing | unsecured
  deriving DecidableEq, Repr

/-- The access wish of a dwell (R132): the access sides pressed for the served stop; both false is "absent". -/
structure Wish where
  aL : Bool
  aR : Bool
  deriving DecidableEq, Repr

/-- The dwell record (R132). CLOSE withdraws the permits and leaves the served stop. -/
structure DwellRecord where
  sides : Option Side
  ramp : Option RampSide
  served : Option (Nat × Side)
  wish : Wish
  deriving DecidableEq, Repr

/-- What STP holds (chapter 7) beside the stop states of the banks. -/
structure Stp where
  /-- 26 debouncers in the order of the buttons' numbers (R122) -/
  buttons : List Debouncer
  /-- the 26 button inputs as last sampled: wired inputs, held between samples (log entry 2) -/
  levels : List Bool
  /-- the target stop's request record (R126) -/
  request : Option RequestRecord
  dwell : Dwell
  dwellRecord : Option DwellRecord
  /-- the door report, true is CLOSED_LOCKED (R132) -/
  doorsLocked : Bool
  /-- the ramp-stowed level as last read (R132) -/
  rampStowed : Bool
  /-- ticks since the last button sample (R122: 10 ms are 40 ticks) -/
  sampleTicks : Nat
  deriving DecidableEq, Repr

/-! ### PTH (chapter 2) -/

/-- The two plan banks (R19). -/
inductive BankName where
  | bankA | bankB
  deriving DecidableEq, Repr

/-- Why a seal failed (R24). -/
inductive BadReason where
  | gap | order | duplicate | check
  deriving DecidableEq, Repr

/-- The bank state (R19). A bank in SEALING holds the count and check of its PLAN_SEAL (R23). -/
inductive BankState where
  | empty
  | clearing
  | filling
  | sealing (count : Nat) (check : Nat)
  | ready
  | bad (reason : BadReason)
  | live
  | stale
  deriving DecidableEq, Repr

/-- A plan bank: its state and its 64 entries; an index holds an entry exactly when its written mark is set (R18). -/
structure Bank where
  state : BankState
  slots : List (Option Entry)
  deriving DecidableEq, Repr

/-- What PTH holds (chapter 2). -/
structure Pth where
  bankA : Bank
  bankB : Bank
  /-- standby pointer (R19) -/
  standby : BankName
  /-- p in centimetres (R34) -/
  p : Nat
  /-- remainder in µm, 0..9999 (R34) -/
  rem : Nat
  /-- fired flag of the plan end (R35) -/
  firedEnd : Bool
  /-- plan-end condition (R38) -/
  planEnd : Bool
  /-- pending-switch record (R26) -/
  pendingSwitch : Bool
  /-- ticks since the clear or seal in progress began (R21, R24) -/
  opTicks : Nat
  deriving DecidableEq, Repr

/-! ### EFF (chapter 4) -/

/-- The selector (R59). -/
inductive Selector where
  | forward | neutral | reverse
  deriving DecidableEq, Repr

/-- The direction taken (R60). -/
inductive Direction where
  | forward | reverse
  deriving DecidableEq, Repr

/-- The settle reason (R73). -/
inductive SettleReason where
  | none | authority | direction | doors | latch | emergency | restart
  deriving DecidableEq, Repr

/-- One emergency input: its level (a wired input) and its capture (R66). -/
structure EmergencyInput where
  active : Bool
  capture : Bool
  deriving DecidableEq, Repr

/-- What EFF holds (chapter 4). -/
structure Eff where
  /-- lever position L, −127..+127 (R59) -/
  l : Int
  selector : Selector
  /-- direction taken (R60) -/
  taken : Direction
  /-- lever demand D (R61) -/
  d : Int
  /-- limited demand E (R76) -/
  e : Int
  settleCount : Nat
  settleReason : SettleReason
  /-- hold state, true is APPLIED (R81) -/
  held : Bool
  /-- standstill run counter, 0..10 (R81) -/
  runCounter : Nat
  /-- rollback mark (R82) -/
  rollback : Bool
  /-- emergency latch (R67) -/
  latch : Bool
  inputs : PerEnd EmergencyInput
  /-- overspeed-noted flag (R75) -/
  overspeed : Bool
  /-- cap in force, mm/s (R74) -/
  cap : Int
  /-- code words (R79) -/
  c1 : Nat
  c2 : Nat
  /-- travel sense: the end whose front it points to (R80) -/
  sense : CabEnd
  /-- emergency brake output with the track brakes (R69) -/
  emergencyBrake : Bool
  deriving DecidableEq, Repr

/-! ### JCT (chapter 5) -/

/-- A port's settle list and MORE flag (R101). -/
structure SettleList where
  ids : List Nat
  more : Bool
  deriving DecidableEq, Repr

/-- What JCT holds beside the junction entries (chapter 5). -/
structure Jct where
  lists : PerPort SettleList
  deriving DecidableEq, Repr

/-! ### LOOP (chapter 6) -/

/-- A telegram in the outbound queue with the bank and index of the entry that made it (R109), and whether that entry
has stood uncleared since (R105 asks it; log entry 9). -/
structure QueuedTelegram where
  telegram : Telegram
  bank : BankName
  index : Nat
  entryStands : Bool
  deriving DecidableEq, Repr

/-- The transmitter state (R111). `sent` is the bit position: how many of the 80 bits have gone out. -/
inductive Transmitter where
  | idle
  | sending (sent : Nat)
  | gap (elapsed : Nat)
  deriving DecidableEq, Repr

/-- The inbound decoder state (R116); RECEIVING holds the bits taken so far, in order. -/
inductive Decoder where
  | quiet
  | receiving (bits : List Bool)
  | skip
  deriving DecidableEq, Repr

/-- What LOOP holds (chapter 6). -/
structure Loop where
  queue : List QueuedTelegram
  transmitter : Transmitter
  /-- data level last driven outbound (R114) -/
  data : Bool
  /-- strobe level last driven outbound (R114) -/
  strobe : Bool
  decoder : Decoder
  /-- data level last seen inbound (R114) -/
  inboundData : Bool
  /-- bit times since the last inbound change, stopping at 8 (R116) -/
  still : Nat
  deriving DecidableEq, Repr

/-! ### SND (chapter 8) -/

/-- A sounder's tone (R145). -/
inductive Tone where
  | off | low | high
  deriving DecidableEq, Repr

/-- A channel's state with the fields that are present in it (R145): in PROGRAM the running program, its step (from
1), the time left in the step and the break mark; in MANUAL the bell's stroke step and time left, or the horn's
sounded time, with the let-go mark. Times are in ticks. -/
inductive ChannelState where
  | idle
  | program (number step left : Nat) (breakMark : Bool)
  | stroke (step left : Nat) (letGo : Bool)
  | blast (sounded : Nat) (letGo : Bool)
  deriving DecidableEq, Repr

/-- A channel record (R145). -/
structure ChannelRecord where
  state : ChannelState
  /-- automatic queue, oldest first (R147) -/
  queue : List Nat
  tone : Tone
  /-- drive in force, true is FULL (R158) -/
  full : Bool
  deriving DecidableEq, Repr

/-- What SND holds (chapter 8). -/
structure Snd where
  bell : ChannelRecord
  horn : ChannelRecord
  chime : ChannelRecord
  /-- sound level, true is NIGHT (R158) -/
  night : Bool
  deriving DecidableEq, Repr

/-! ### FLT (chapter 9) -/

/-- The kinds of fault, in the order of the table of R163. -/
inductive FaultKind where
  | deskSilent | vigilance | keyOffMoving | doorOpenMoving | lockLost | lockout
  | junctionLost | speedUnknown | axleImplausible | planEnd
  | emergencyBrake | junctionRefused | passedUnlocked | overspeed | rollback
  | buttonStuck | stopMissed | requestDropped | fixRejected | protect
  deriving DecidableEq, Repr

/-- The fault class (R163). -/
inductive FaultClass where
  | notice | restrict | stop
  deriving DecidableEq, Repr

/-- The source block of a fault (R162). -/
inductive Block where
  | ord | aut | axl | pth | eff | jct | stp | flt
  deriving DecidableEq, Repr

/-- The key of a fault (R162). -/
inductive FaultKey where
  | none
  | cab (cab : CabEnd)
  | junction (id : Nat)
  | stop (id : Nat)
  | axle (axle : Axle)
  | button (number : Nat)
  deriving DecidableEq, Repr

/-- A fault record (R162). `acked` is present in STOP records alone. -/
structure FaultRecord where
  serial : Nat
  kind : FaultKind
  cls : FaultClass
  source : Block
  key : FaultKey
  p : Nat
  tag : Option Byte
  count : Nat
  acked : Option Bool
  deriving DecidableEq, Repr

/-- What FLT holds (chapter 9). -/
structure Flt where
  queue : List FaultRecord
  /-- brake latch (R172) -/
  latch : Bool
  /-- lockout state, true is HALT (R176) -/
  halt : Bool
  /-- serial counter (R164) -/
  serial : Nat
  deriving DecidableEq, Repr

/-! ### ORD (chapters 10 and 11) -/

/-- The configuration parameters, in the order of the table of R192. -/
inductive Param where
  | pulseDist | tramLen | tramId | trim | jerkUp | jerkDown | lineSpeed | crawl | approachLen | standLen | stopWindow
  | handoverTime
  deriving DecidableEq, Repr

/-- One value for each parameter (R192). -/
structure Table (α : Type) where
  pulseDist : α
  tramLen : α
  tramId : α
  trim : α
  jerkUp : α
  jerkDown : α
  lineSpeed : α
  crawl : α
  approachLen : α
  standLen : α
  stopWindow : α
  handoverTime : α
  deriving DecidableEq, Repr

/-- Reply statuses, in the order of their codes (spec 11.3). -/
inductive Status where
  | done | full | unknown | wrongPort | unconfigured | lockedOut | protect | notLive | busy | refused | clamped | bad
  | withdrawn | interrupted
  deriving DecidableEq, Repr

/-- The stage of a reply (R183). -/
inductive Stage where
  | final | accepted
  deriving DecidableEq, Repr

/-- The outcome of a program request (R147). -/
inductive SoundOutcome where
  | started | queued | merged | discarded
  deriving DecidableEq, Repr

/-- The results a reply carries (R183, spec 11.3). -/
inductive Results where
  | none
  | plan (bank : BankName) (state : BankState)
  | shift (p : Nat)
  | config (parameter : Byte) (value : Int)
  | sound (channel : Channel) (outcome : SoundOutcome)
  | ack (records : Nat)
  | doors (sides : Option Side) (ramp : Option RampSide) (served : Option (Nat × Option RequestRecord))
  | settle (ids : List Nat) (more : Bool)
  | fault (record : Option FaultRecord) (count : Nat)
  | ident
  deriving DecidableEq, Repr

/-- A reply (R183): the order's tag and code, a status, a stage and results. -/
structure Reply where
  tag : Byte
  code : Byte
  status : Status
  stage : Stage
  results : Results
  deriving DecidableEq, Repr

/-- What a picture shows of the next junction (R41). -/
structure NextJunction where
  id : Nat
  state : JunctionState
  ahead : Int
  deriving DecidableEq, Repr

/-- What a picture shows of the target stop (R125). -/
structure TargetStop where
  id : Nat
  requested : Bool
  ahead : Int
  deriving DecidableEq, Repr

/-- What a picture shows of a sounder channel (R159). -/
inductive SounderView where
  | idle
  | program (number : Nat)
  | manual
  deriving DecidableEq, Repr

/-- A picture (R197). -/
structure Picture where
  run : Bool
  halt : Bool
  brakeLatch : Bool
  emergencyLatch : Bool
  authority : Authority
  e : Int
  c1 : Nat
  c2 : Nat
  v : Nat
  cap : Int
  settleCount : Nat
  settleReason : SettleReason
  p : Nat
  junction : Option NextJunction
  target : Option TargetStop
  dwell : Dwell
  sides : Option Side
  ramp : Option RampSide
  bell : SounderView
  horn : SounderView
  chime : SounderView
  faults : Nat
  deriving DecidableEq, Repr

/-- An outbound frame (R183). -/
inductive OutFrame where
  | reply (r : Reply)
  | picture (p : Picture)
  deriving DecidableEq, Repr

/-- The inbound frame receiver of a port (R201): hunting, after the start byte, or collecting the bytes after the
length byte. -/
inductive Receiver where
  | hunting
  | started
  | collecting (length : Byte) (bytes : List Byte)
  deriving DecidableEq, Repr

/-- An order waiting in a port's queue (R182). -/
structure QueuedOrder where
  tag : Byte
  order : Order
  deriving DecidableEq, Repr

/-- The deferred orders (R188). -/
inductive Deferred where
  | planClear | planSeal | planSwitch | settle
  deriving DecidableEq, Repr

/-- A deferred-order slot's order (R188), with the standby bank as it was when the order was taken (R19). -/
structure Slot where
  tag : Byte
  order : Deferred
  bank : BankName
  deriving DecidableEq, Repr

/-- A preface record (R190, R202): a protected order's code and the payload bytes that code has. -/
structure Preface where
  code : Byte
  payload : List Byte
  deriving DecidableEq, Repr

/-- A port context (chapter 10). -/
structure PortContext where
  receiver : Receiver
  /-- ticks since the last byte of a frame being received (R201) -/
  pause : Nat
  /-- order queue, oldest first (R182) -/
  queue : List QueuedOrder
  /-- ticks that the head order has waited at the head (R182) -/
  headTicks : Nat
  slot : Option Slot
  preface : Option Preface
  /-- outbound frames not yet sent, in the order made; the first is being sent (R183) -/
  outbound : List OutFrame
  deriving DecidableEq, Repr

/-- What ORD holds (chapter 10). -/
structure Ord where
  /-- operating state, true is RUN (R186) -/
  run : Bool
  /-- configuration in force (R192) -/
  config : Table Int
  /-- pending values (R193) -/
  waiting : Table (Option Int)
  ports : PerPort PortContext
  /-- picture count, 0..4 (R196) -/
  pictureCount : Nat
  deriving DecidableEq, Repr

/-! ### The machine -/

/-- The state of the TC-2: what its ten blocks hold, the queue of commands waiting to be taken (the model's own), and
the number of the current tick (the model's own, log entry 14). -/
structure State where
  aut : Aut
  axl : Axl
  pth : Pth
  eff : Eff
  jct : Jct
  loop : Loop
  stp : Stp
  snd : Snd
  flt : Flt
  ord : Ord
  /-- the commands waiting, first in, first out -/
  pending : List Instr
  /-- ticks since the model began; only Config's free values are applied to it -/
  clock : Nat
  deriving DecidableEq, Repr

/-! ### Values after a cold reset -/

/-- R17 -/
def Aut.reset : Aut :=
  { authority := .vacant, keys := ⟨false, false⟩, keyLost := false, lastLive := none, gripHeld := false,
    handover := .stopped, silence := .stopped, vigilance := .stopped }

/-- R57 -/
def AxleState.reset : AxleState :=
  { net := 0, window := ⟨0, 0, 0, 0, 0⟩, speed := 0, mark := .valid, run := 0 }

/-- R57 -/
def BogieState.reset : BogieState :=
  { cut := false, adhesion := 1000, slip := .notSlipping }

/-- R57 -/
def Axl.reset : Axl :=
  { axles := ⟨.reset, .reset, .reset, .reset⟩, bogie1 := .reset, bogie2 := .reset,
    record := { v := 0, vDir := 0, standstill := true, unknown := false, axle := none, nRef := 0 },
    prev := 0, sand := false, periodTicks := 0 }

/-- A bank without entries (R42). -/
def Bank.reset : Bank :=
  { state := .empty, slots := List.replicate Config.bankSize none }

/-- R42 -/
def Pth.reset : Pth :=
  { bankA := .reset, bankB := .reset, standby := .bankA, p := 0, rem := 0, firedEnd := false, planEnd := false,
    pendingSwitch := false, opTicks := 0 }

/-- R85; the input levels are the wires', read inactive at power-on (log entry 2). -/
def Eff.reset : Eff :=
  { l := 0, selector := .neutral, taken := .forward, d := 0, e := 0, settleCount := 0, settleReason := .none,
    held := true, runCounter := 0, rollback := false, latch := false,
    inputs := ⟨⟨false, false⟩, ⟨false, false⟩⟩, overspeed := false, cap := 1400, c1 := 0, c2 := 0, sense := .one,
    emergencyBrake := false }

/-- R106 -/
def Jct.reset : Jct :=
  { lists := ⟨⟨[], false⟩, ⟨[], false⟩, ⟨[], false⟩⟩ }

/-- R120; the inbound data level is the wire's, low at power-on (log entry 2). -/
def Loop.reset : Loop :=
  { queue := [], transmitter := .idle, data := false, strobe := false, decoder := .skip, inboundData := false,
    still := 0 }

/-- R144; the button and ramp inputs are the wires', released and stowed at power-on (log entry 2). -/
def Stp.reset : Stp :=
  { buttons := List.replicate Config.buttonCount { pressed := false, run := 0, time := 0, stuck := false },
    levels := List.replicate Config.buttonCount false, request := none, dwell := .running, dwellRecord := none,
    doorsLocked := true, rampStowed := true, sampleTicks := 0 }

/-- R160 -/
def ChannelRecord.reset : ChannelRecord :=
  { state := .idle, queue := [], tone := .off, full := true }

/-- R160 -/
def Snd.reset : Snd :=
  { bell := .reset, horn := .reset, chime := .reset, night := false }

/-- R179 -/
def Flt.reset : Flt :=
  { queue := [], latch := false, halt := false, serial := 1 }

/-- The cold-reset values of the configuration table (R192). -/
def Table.reset : Table Int :=
  { pulseDist := 5000, tramLen := 3200, tramId := 0, trim := 0, jerkUp := 25, jerkDown := 50, lineSpeed := 19400,
    crawl := 1400, approachLen := 6000, standLen := 800, stopWindow := 500, handoverTime := 120 }

/-- No pending value (R200). -/
def Table.noneWaiting : Table (Option Int) :=
  ⟨none, none, none, none, none, none, none, none, none, none, none, none⟩

/-- R200 -/
def PortContext.reset : PortContext :=
  { receiver := .hunting, pause := 0, queue := [], headTicks := 0, slot := none, preface := none, outbound := [] }

/-- R200 -/
def Ord.reset : Ord :=
  { run := false, config := .reset, waiting := .noneWaiting, ports := ⟨.reset, .reset, .reset⟩, pictureCount := 0 }

/-- The part right after a cold reset with every wired input at rest (R17, R42, R57, R85, R106, R120, R144, R160, R179,
R200), and no command waiting. -/
def State.reset : State :=
  { aut := .reset, axl := .reset, pth := .reset, eff := .reset, jct := .reset, loop := .reset, stp := .reset,
    snd := .reset, flt := .reset, ord := .reset, pending := [], clock := 0 }

end Sys2Proof.Machine
end

