-- ==== Sys2Proof/Machine/Ops.lean ====
section
/-! DEFINITION. Ops.lean: the named reads and writes of what State holds: values per end, port, axle, bogie, channel and
bank, the entries of a plan bank, the configuration in force, timers, and the integer arithmetic of the spec's
Conventions. -/

namespace Sys2Proof.Machine

/-! ### Arithmetic (00_scope, Conventions) -/

/-- round(n / d): to the nearest integer, halves away from zero. -/
def roundDiv (n : Int) (d : Nat) : Int :=
  if n < 0 then -(((2 * n.natAbs + d) / (2 * d) : Nat) : Int) else (((2 * n.natAbs + d) / (2 * d) : Nat) : Int)

/-- trunc(n / d): the fraction removed, toward zero. -/
def truncDiv (n : Int) (d : Nat) : Int :=
  Int.tdiv n d

/-- A value held within a range (Conventions, "saturate"). -/
def clampInt (lo hi n : Int) : Int :=
  max lo (min hi n)

/-- A two's complement number of 16 bits (chapter 11). -/
def signed16 (w : BitVec 16) : Int :=
  w.toInt

/-- A two's complement number of 8 bits (chapter 11). -/
def signed8 (b : Byte) : Int :=
  b.toInt

/-! ### Ends, ports, axles, bogies, channels -/

/-- The other end. -/
def otherEnd : CabEnd → CabEnd
  | .one => .two
  | .two => .one

/-- The end a desk port belongs to; the vehicle link belongs to none (R185). -/
def deskEnd : Port → Option CabEnd
  | .end1 => some .one
  | .end2 => some .two
  | .vehicle => none

/-- The value of an end. -/
def PerEnd.get {α : Type} (t : PerEnd α) : CabEnd → α
  | .one => t.one
  | .two => t.two

/-- The values with one end's replaced. -/
def PerEnd.set {α : Type} (t : PerEnd α) (c : CabEnd) (x : α) : PerEnd α :=
  match c with
  | .one => { t with one := x }
  | .two => { t with two := x }

/-- The value of a port. -/
def PerPort.get {α : Type} (t : PerPort α) : Port → α
  | .end1 => t.end1
  | .end2 => t.end2
  | .vehicle => t.vehicle

/-- The values with one port's replaced. -/
def PerPort.set {α : Type} (t : PerPort α) (p : Port) (x : α) : PerPort α :=
  match p with
  | .end1 => { t with end1 := x }
  | .end2 => { t with end2 := x }
  | .vehicle => { t with vehicle := x }

/-- The value of an axle. -/
def PerAxle.get {α : Type} (t : PerAxle α) : Axle → α
  | .a1 => t.a1
  | .a2 => t.a2
  | .a3 => t.a3
  | .a4 => t.a4

/-- The values with one axle's replaced. -/
def PerAxle.set {α : Type} (t : PerAxle α) (a : Axle) (x : α) : PerAxle α :=
  match a with
  | .a1 => { t with a1 := x }
  | .a2 => { t with a2 := x }
  | .a3 => { t with a3 := x }
  | .a4 => { t with a4 := x }

/-- Each axle's value through `f`. -/
def PerAxle.map {α β : Type} (f : α → β) (t : PerAxle α) : PerAxle β :=
  ⟨f t.a1, f t.a2, f t.a3, f t.a4⟩

/-- The axles with their values, lowest number first. -/
def PerAxle.list {α : Type} (t : PerAxle α) : List (Axle × α) :=
  [(.a1, t.a1), (.a2, t.a2), (.a3, t.a3), (.a4, t.a4)]

/-- The axle of a number 1..4. -/
def axleOf : Nat → Option Axle
  | 1 => some .a1
  | 2 => some .a2
  | 3 => some .a3
  | 4 => some .a4
  | _ => none

/-- An axle's number. -/
def axleNumber : Axle → Nat
  | .a1 => 1
  | .a2 => 2
  | .a3 => 3
  | .a4 => 4

/-- The bogie of a number 1..2. -/
def bogieOf : Nat → Option Bogie
  | 1 => some .b1
  | 2 => some .b2
  | _ => none

/-- The bogie that carries an axle (chapter 3). -/
def bogieOfAxle : Axle → Bogie
  | .a1 => .b1
  | .a2 => .b1
  | .a3 => .b2
  | .a4 => .b2

/-- A bogie's state. -/
def Axl.bogie (x : Axl) : Bogie → BogieState
  | .b1 => x.bogie1
  | .b2 => x.bogie2

/-- AXL with one bogie's state replaced. -/
def Axl.setBogie (x : Axl) (b : Bogie) (y : BogieState) : Axl :=
  match b with
  | .b1 => { x with bogie1 := y }
  | .b2 => { x with bogie2 := y }

/-- A channel's record. -/
def Snd.channel (x : Snd) : Channel → ChannelRecord
  | .bell => x.bell
  | .horn => x.horn
  | .chime => x.chime

/-- SND with one channel's record replaced. -/
def Snd.setChannel (x : Snd) (c : Channel) (y : ChannelRecord) : Snd :=
  match c with
  | .bell => { x with bell := y }
  | .horn => { x with horn := y }
  | .chime => { x with chime := y }

/-- A port's context. -/
def State.port (s : State) (p : Port) : PortContext :=
  s.ord.ports.get p

/-- The state with one port's context replaced. -/
def State.setPort (s : State) (p : Port) (c : PortContext) : State :=
  { s with ord.ports := s.ord.ports.set p c }

/-- The three ports, the desks first. -/
def allPorts : List Port :=
  [.end1, .end2, .vehicle]

/-! ### Configuration (R192) -/

/-- A parameter's value in a table. -/
def Table.get {α : Type} (t : Table α) : Param → α
  | .pulseDist => t.pulseDist
  | .tramLen => t.tramLen
  | .tramId => t.tramId
  | .trim => t.trim
  | .jerkUp => t.jerkUp
  | .jerkDown => t.jerkDown
  | .lineSpeed => t.lineSpeed
  | .crawl => t.crawl
  | .approachLen => t.approachLen
  | .standLen => t.standLen
  | .stopWindow => t.stopWindow
  | .handoverTime => t.handoverTime

/-- The table with one parameter's value replaced. -/
def Table.set {α : Type} (t : Table α) (q : Param) (x : α) : Table α :=
  match q with
  | .pulseDist => { t with pulseDist := x }
  | .tramLen => { t with tramLen := x }
  | .tramId => { t with tramId := x }
  | .trim => { t with trim := x }
  | .jerkUp => { t with jerkUp := x }
  | .jerkDown => { t with jerkDown := x }
  | .lineSpeed => { t with lineSpeed := x }
  | .crawl => { t with crawl := x }
  | .approachLen => { t with approachLen := x }
  | .standLen => { t with standLen := x }
  | .stopWindow => { t with stopWindow := x }
  | .handoverTime => { t with handoverTime := x }

/-- The table in force once every pending value has come into force (R193). -/
def Table.overlay (t : Table Int) (waiting : Table (Option Int)) : Table Int :=
  { pulseDist := waiting.pulseDist.getD t.pulseDist
    tramLen := waiting.tramLen.getD t.tramLen
    tramId := waiting.tramId.getD t.tramId
    trim := waiting.trim.getD t.trim
    jerkUp := waiting.jerkUp.getD t.jerkUp
    jerkDown := waiting.jerkDown.getD t.jerkDown
    lineSpeed := waiting.lineSpeed.getD t.lineSpeed
    crawl := waiting.crawl.getD t.crawl
    approachLen := waiting.approachLen.getD t.approachLen
    standLen := waiting.standLen.getD t.standLen
    stopWindow := waiting.stopWindow.getD t.stopWindow
    handoverTime := waiting.handoverTime.getD t.handoverTime }

/-- A parameter's value in force. -/
def State.cfg (s : State) (q : Param) : Int :=
  s.ord.config.get q

/-- A parameter in force that is never negative, as a natural number (every range of R192 but TRIM's). -/
def State.cfgNat (s : State) (q : Param) : Nat :=
  (s.cfg q).toNat

/-! ### Plan banks (R18, R19) -/

/-- The other bank. -/
def otherBank : BankName → BankName
  | .bankA => .bankB
  | .bankB => .bankA

/-- A bank. -/
def State.bank (s : State) : BankName → Bank
  | .bankA => s.pth.bankA
  | .bankB => s.pth.bankB

/-- The state with one bank replaced. -/
def State.setBank (s : State) (b : BankName) (x : Bank) : State :=
  match b with
  | .bankA => { s with pth.bankA := x }
  | .bankB => { s with pth.bankB := x }

/-- The live plan's bank, if there is one: the bank that the standby pointer does not name, when its state is LIVE
(R19). -/
def State.liveBank (s : State) : Option BankName :=
  if (s.bank (otherBank s.pth.standby)).state = .live then some (otherBank s.pth.standby) else none

/-- Entries with their indices, from index `i` on, in index order. -/
def entriesFrom : Nat → List (Option Entry) → List (Nat × Entry)
  | _, [] => []
  | i, some e :: rest => (i, e) :: entriesFrom (i + 1) rest
  | i, none :: rest => entriesFrom (i + 1) rest

/-- A bank's entries in index order. -/
def Bank.entries (x : Bank) : List (Nat × Entry) :=
  entriesFrom 0 x.slots

/-- The live plan's entries in index order; none without a live plan. -/
def State.liveEntries (s : State) : List (Nat × Entry) :=
  match s.liveBank with
  | some b => (s.bank b).entries
  | none => []

/-- The entry at an index of a bank. -/
def State.entryAt (s : State) (b : BankName) (i : Nat) : Option Entry :=
  ((s.bank b).slots[i]?).join

/-- The state with the entry at an index changed, if there is one. -/
def State.modEntry (s : State) (b : BankName) (i : Nat) (f : Entry → Entry) : State :=
  s.setBank b { s.bank b with slots := (s.bank b).slots.modify i (Option.map f) }

/-- The junction part of an entry. -/
def Entry.junction? (e : Entry) : Option Junction :=
  match e.point with
  | .junction j => some j
  | .stop _ => none

/-- The stop part of an entry. -/
def Entry.stop? (e : Entry) : Option Stop :=
  match e.point with
  | .junction _ => none
  | .stop t => some t

/-- An entry with its junction part changed; a stop entry is left. -/
def Entry.modJunction (f : Junction → Junction) (e : Entry) : Entry :=
  match e.point with
  | .junction j => { e with point := .junction (f j) }
  | .stop _ => e

/-- An entry with its stop part changed; a junction entry is left. -/
def Entry.modStop (f : Stop → Stop) (e : Entry) : Entry :=
  match e.point with
  | .junction _ => e
  | .stop t => { e with point := .stop (f t) }

/-- The junction part at an index of a bank. -/
def State.junctionAt (s : State) (b : BankName) (i : Nat) : Option Junction :=
  (s.entryAt b i).bind Entry.junction?

/-- The state with the junction part at an index changed. -/
def State.modJunction (s : State) (b : BankName) (i : Nat) (f : Junction → Junction) : State :=
  s.modEntry b i (Entry.modJunction f)

/-- The state with the stop part at an index changed. -/
def State.modStop (s : State) (b : BankName) (i : Nat) (f : Stop → Stop) : State :=
  s.modEntry b i (Entry.modStop f)

/-- Whether an entry is the junction with this id. -/
def isJunction (id : Nat) (e : Entry) : Bool :=
  e.junction?.isSome && e.id == id

/-- The bank, index and entry of the live plan's junction with this id (R39, R92, R96). -/
def State.liveJunction (s : State) (id : Nat) : Option (BankName × Nat × Entry) :=
  match s.liveBank with
  | none => none
  | some b => ((s.bank b).entries.find? fun x => isJunction id x.2).map fun x => (b, x.1, x.2)

/-- Whether a junction entry's state is ASKED or MOVING, an exchange in progress (R102). -/
def inExchange : JunctionState → Bool
  | .asked => true
  | .moving => true
  | _ => false

/-- Whether a junction entry's state is ASKED, MOVING or LOCKED (R27, R107). -/
def isActive : JunctionState → Bool
  | .asked => true
  | .moving => true
  | .locked => true
  | _ => false

/-- The junction states of the live plan, in index order. -/
def State.liveJunctionStates (s : State) : List JunctionState :=
  s.liveEntries.filterMap fun x => x.2.junction?.map Junction.state

/-! ### Timers -/

/-- A timer that starts, or starts again, toward a limit. -/
def Timer.start (limit : Nat) : Timer :=
  .running limit 0

/-- Whether a timer runs. -/
def Timer.isRunning : Timer → Bool
  | .stopped => false
  | .running _ _ => true

/-- 300 ms (R13). -/
def silenceLimit : Nat := 300 * ticksPerMs

/-- 2.5 s (R15). -/
def vigilanceLimit : Nat := 2500 * ticksPerMs

/-- 2.0 s (R91). -/
def answerLimit : Nat := 2000 * ticksPerMs

/-- 6.0 s (R93). -/
def movingLimit : Nat := 6000 * ticksPerMs

/-- 20 s of samples of 10 ms (R123). -/
def stuckSamples : Nat := 2000

/-- 300 ms (R153). -/
def hornMinimumTicks : Nat := 300 * ticksPerMs

/-- 8 bit times (R111, R116). -/
def gapTicks : Nat := 8

/-- 80 bits of a loop frame (R115). -/
def frameBitCount : Nat := 80

end Sys2Proof.Machine
end

