-- ==== Sys2Proof/Machine/Operands.lean ====
section
/-! DEFINITION. Operands.lean: the orders' codes and payload bytes (spec 11.2), which command takes an order, and what
each operand byte stands for; `none` is a byte out of range (R202). -/

namespace Sys2Proof.Machine

/-! ### Codes and payloads (spec 11.2) -/

/-- An order's code. -/
def orderCode : Order → Nat
  | .key _ => 1
  | .claim => 2
  | .lever _ _ _ => 3
  | .ack => 4
  | .doors _ _ => 5
  | .close => 6
  | .bell _ => 7
  | .horn _ => 8
  | .retry _ => 9
  | .override _ => 10
  | .shift _ => 11
  | .config _ _ => 12
  | .configDone => 13
  | .planClear => 14
  | .planPut _ => 15
  | .planSeal _ _ => 16
  | .planSwitch => 17
  | .planWithdraw => 18
  | .doorState _ => 19
  | .sound _ => 20
  | .soundBreak _ => 21
  | .level _ => 22
  | .faultTake => 23
  | .forceRelease => 24
  | .restart => 25
  | .cut _ _ _ => 26
  | .preface _ _ _ _ => 27
  | .settle => 28
  | .readFault _ => 29
  | .ident => 30

/-- An order's code byte. -/
def codeByte (o : Order) : Byte :=
  BitVec.ofNat 8 (orderCode o)

/-- The least significant `k` bytes of a number, least significant first (chapter 11). -/
def leBytes : Nat → Nat → List Byte
  | 0, _ => []
  | k + 1, n => BitVec.ofNat 8 n :: leBytes k (n / 256)

/-- A two's complement number in `k` bytes, least significant first (chapter 11). -/
def leSigned (k : Nat) (n : Int) : List Byte :=
  leBytes k (n % (256 ^ k : Nat)).toNat

/-- Two bytes, least significant first, as one number. -/
def word16 (lo hi : Byte) : BitVec 16 :=
  BitVec.ofNat 16 (lo.toNat + 256 * hi.toNat)

/-- Three bytes, least significant first, as one number. -/
def word24 (b0 b1 b2 : Byte) : BitVec 24 :=
  BitVec.ofNat 24 (b0.toNat + 256 * b1.toNat + 65536 * b2.toNat)

/-- An order's payload bytes, in byte order. -/
def orderPayload : Order → List Byte
  | .key k => [k]
  | .claim => []
  | .lever l g x => [l, g, x]
  | .ack => []
  | .doors x r => [x, r]
  | .close => []
  | .bell x => [x]
  | .horn x => [x]
  | .retry j => leBytes 2 j.toNat
  | .override j => leBytes 2 j.toNat
  | .shift x => leBytes 2 x.toNat
  | .config q v => q :: leBytes 2 v.toNat
  | .configDone => []
  | .planClear => []
  | .planPut w =>
    [w.index, w.kind] ++ leBytes 2 w.id.toNat ++ leBytes 3 w.distance.toNat ++ [w.first] ++ leBytes 2 w.second.toNat
      ++ leBytes 2 w.third.toNat
  | .planSeal c k => c :: leBytes 2 k.toNat
  | .planSwitch => []
  | .planWithdraw => []
  | .doorState x => [x]
  | .sound n => [n]
  | .soundBreak c => [c]
  | .level x => [x]
  | .faultTake => []
  | .forceRelease => []
  | .restart => []
  | .cut t n x => [t, n, x]
  | .preface c x y z => [c, x, y, z]
  | .settle => []
  | .readFault n => [n]
  | .ident => []

/-- The order that a code byte and payload bytes spell; none where the code is unknown or the payload's length is not
the code's (R181, R201). -/
def readOrder (code : Nat) (payload : List Byte) : Option Order :=
  match code, payload with
  | 1, [k] => some (.key k)
  | 2, [] => some .claim
  | 3, [l, g, x] => some (.lever l g x)
  | 4, [] => some .ack
  | 5, [x, r] => some (.doors x r)
  | 6, [] => some .close
  | 7, [x] => some (.bell x)
  | 8, [x] => some (.horn x)
  | 9, [lo, hi] => some (.retry (word16 lo hi))
  | 10, [lo, hi] => some (.override (word16 lo hi))
  | 11, [lo, hi] => some (.shift (word16 lo hi))
  | 12, [q, lo, hi] => some (.config q (word16 lo hi))
  | 13, [] => some .configDone
  | 14, [] => some .planClear
  | 15, [i, k, id0, id1, d0, d1, d2, f, s0, s1, t0, t1] =>
    some (.planPut ⟨i, k, word16 id0 id1, word24 d0 d1 d2, f, word16 s0 s1, word16 t0 t1⟩)
  | 16, [c, lo, hi] => some (.planSeal c (word16 lo hi))
  | 17, [] => some .planSwitch
  | 18, [] => some .planWithdraw
  | 19, [x] => some (.doorState x)
  | 20, [n] => some (.sound n)
  | 21, [c] => some (.soundBreak c)
  | 22, [x] => some (.level x)
  | 23, [] => some .faultTake
  | 24, [] => some .forceRelease
  | 25, [] => some .restart
  | 26, [t, n, x] => some (.cut t n x)
  | 27, [c, x, y, z] => some (.preface c x y z)
  | 28, [] => some .settle
  | 29, [n] => some (.readFault n)
  | 30, [] => some .ident
  | _, _ => none

/-- The command that takes an order on a port (R182). -/
def takingCommand (p : Port) (q : QueuedOrder) : Instr :=
  match q.order with
  | .key k => .key p q.tag k
  | .claim => .claim p q.tag
  | .lever l g x => .lever p q.tag l g x
  | .ack => .ack p q.tag
  | .doors x r => .doors p q.tag x r
  | .close => .close p q.tag
  | .bell x => .bell p q.tag x
  | .horn x => .horn p q.tag x
  | .retry j => .retry p q.tag j
  | .override j => .override p q.tag j
  | .shift x => .shift p q.tag x
  | .config x v => .config p q.tag x v
  | .configDone => .configDone p q.tag
  | .planClear => .planClear p q.tag
  | .planPut w => .planPut p q.tag w
  | .planSeal c k => .planSeal p q.tag c k
  | .planSwitch => .planSwitch p q.tag
  | .planWithdraw => .planWithdraw p q.tag
  | .doorState x => .doorState p q.tag x
  | .sound n => .sound p q.tag n
  | .soundBreak c => .soundBreak p q.tag c
  | .level x => .level p q.tag x
  | .faultTake => .faultTake p q.tag
  | .forceRelease => .forceRelease p q.tag
  | .restart => .restart p q.tag
  | .cut t n x => .cut p q.tag t n x
  | .preface c x y z => .preface p q.tag c x y z
  | .settle => .settle p q.tag
  | .readFault n => .readFault p q.tag n
  | .ident => .ident p q.tag

/-! ### Kinds of order -/

/-- The protected orders (R190). -/
def isProtected : Order → Bool
  | .override _ => true
  | .cut _ _ _ => true
  | .forceRelease => true
  | _ => false

/-- The plan orders, whose replies carry the standby bank with every status (R19, R183). -/
def isPlanOrder : Order → Bool
  | .planClear => true
  | .planPut _ => true
  | .planSeal _ _ => true
  | .planSwitch => true
  | .planWithdraw => true
  | _ => false

/-- The orders of R16 that need the live end when a desk sends them. -/
def needsLiveEnd : Order → Bool
  | .lever _ _ _ => true
  | .ack => true
  | .doors _ _ => true
  | .close => true
  | .bell _ => true
  | .horn _ => true
  | .retry _ => true
  | .override _ => true
  | .shift _ => true
  | .cut _ _ _ => true
  | _ => false

/-- The orders allowed on every port (R185). -/
def anyPortOrder : Order → Bool
  | .cut _ _ _ => true
  | .preface _ _ _ _ => true
  | .settle => true
  | .readFault _ => true
  | .ident => true
  | _ => false

/-- The orders allowed on the two desk ports alone (R185). -/
def deskOrder : Order → Bool
  | .key _ => true
  | .claim => true
  | .lever _ _ _ => true
  | .ack => true
  | .doors _ _ => true
  | .close => true
  | .bell _ => true
  | .horn _ => true
  | .retry _ => true
  | .override _ => true
  | .shift _ => true
  | _ => false

/-- The port rights table (R185). -/
def portAllows (p : Port) (o : Order) : Bool :=
  anyPortOrder o || (if (deskEnd p).isSome then deskOrder o else !deskOrder o)

/-- The orders admitted in UNCONFIGURED (R186). -/
def admittedUnconfigured : Order → Bool
  | .config _ _ => true
  | .configDone => true
  | .ident => true
  | .readFault _ => true
  | .key _ => true
  | _ => false

/-- The orders admitted in HALT (R187). -/
def admittedInHalt : Order → Bool
  | .ident => true
  | .readFault _ => true
  | .faultTake => true
  | .doors _ _ => true
  | .close => true
  | .doorState _ => true
  | .bell _ => true
  | .horn _ => true
  | .key _ => true
  | .lever _ _ _ => true
  | _ => false

/-! ### Operand bytes (spec 11.2, R202) -/

/-- KEY: OFF 0, ON 1. -/
def readKey (b : Byte) : Option Bool :=
  if b = 0 then some false else if b = 1 then some true else none

/-- LEVER's grip: HELD 1, any other value RELEASED. -/
def readGrip (b : Byte) : Bool :=
  b == 1

/-- LEVER's L: −128 is taken as −127 (R59). -/
def readL (b : Byte) : Int :=
  max (-127) (signed8 b)

/-- LEVER's selector: FORWARD 0, NEUTRAL 1, REVERSE 2. -/
def readSelector (b : Byte) : Option Selector :=
  if b = 0 then some .forward else if b = 1 then some .neutral else if b = 2 then some .reverse else none

/-- DOORS' sides: LEFT 1, RIGHT 2, BOTH 3. -/
def readSides (b : Byte) : Option Side :=
  if b = 1 then some .left else if b = 2 then some .right else if b = 3 then some .both else none

/-- DOORS' ramp: 0 no, any other value yes. -/
def readRamp (b : Byte) : Bool :=
  b != 0

/-- BELL and HORN: LET_GO 0 (false), HOLD 1 (true). -/
def readHold (b : Byte) : Option Bool :=
  if b = 0 then some false else if b = 1 then some true else none

/-- DOOR_STATE: 1 yes, any other value no. -/
def readLocked (b : Byte) : Bool :=
  b == 1

/-- SOUND_BREAK's channel: BELL 0, HORN 1, CHIME 2. -/
def readChannel (b : Byte) : Option Channel :=
  if b = 0 then some .bell else if b = 1 then some .horn else if b = 2 then some .chime else none

/-- LEVEL: DAY 0 (false), NIGHT 1 (true). -/
def readLevel (b : Byte) : Option Bool :=
  if b = 0 then some false else if b = 1 then some true else none

/-- CONFIG's parameter: 1..12 in the order of the table of R192. -/
def readParam (b : Byte) : Option Param :=
  match b.toNat with
  | 1 => some .pulseDist
  | 2 => some .tramLen
  | 3 => some .tramId
  | 4 => some .trim
  | 5 => some .jerkUp
  | 6 => some .jerkDown
  | 7 => some .lineSpeed
  | 8 => some .crawl
  | 9 => some .approachLen
  | 10 => some .standLen
  | 11 => some .stopWindow
  | 12 => some .handoverTime
  | _ => none

/-- The range of a parameter (R192). -/
def paramRange : Param → Int × Int
  | .pulseDist => (1000, 20000)
  | .tramLen => (1000, 6000)
  | .tramId => (0, 9999)
  | .trim => (-16, 15)
  | .jerkUp => (5, 200)
  | .jerkDown => (5, 200)
  | .lineSpeed => (2000, 22000)
  | .crawl => (500, 2800)
  | .approachLen => (1000, 20000)
  | .standLen => (200, 3000)
  | .stopWindow => (100, 2000)
  | .handoverTime => (30, 300)

/-- CUT's target and number: an axle 1..4 or a bogie 1..2. -/
inductive CutTarget where
  | axle (a : Axle)
  | bogie (b : Bogie)
  deriving DecidableEq, Repr

/-- CUT's target (axle 0, bogie 1) with its number; none where either is out of range (R48, R202). -/
def readCutTarget (target number : Byte) : Option CutTarget :=
  if target = 0 then (axleOf number.toNat).map .axle
  else if target = 1 then (bogieOf number.toNat).map .bogie
  else none

/-- CUT's action: OUT 0 (false), IN 1 (true). -/
def readCutAction (b : Byte) : Option Bool :=
  if b = 0 then some false else if b = 1 then some true else none

/-- The preface record that PREFACE's bytes make: 2 payload bytes for OVERRIDE, 3 for CUT, none for FORCE_RELEASE;
none for any other code (R190, R202). -/
def readPreface (code first second third : Byte) : Option Preface :=
  if code = 10 then some ⟨code, [first, second]⟩
  else if code = 26 then some ⟨code, [first, second, third]⟩
  else if code = 24 then some ⟨code, []⟩
  else none

/-- A leg: STRAIGHT 0, LEFT 1, RIGHT 2 (spec 11.5). -/
def readLeg : Nat → Option Leg
  | 0 => some .straight
  | 1 => some .left
  | 2 => some .right
  | _ => none

/-- A stop's mode: REQUEST 0, ALWAYS 1, PASS 2 (spec 11.5). -/
def readMode : Nat → Option StopMode
  | 0 => some .request
  | 1 => some .always
  | 2 => some .pass
  | _ => none

/-- A stop's side: LEFT 0, RIGHT 1, BOTH 2 (spec 11.5). -/
def readSide : Nat → Option Side
  | 0 => some .left
  | 1 => some .right
  | 2 => some .both
  | _ => none

/-- A REFUSE's reason: OCCUPIED 1, CONFLICT 2, FAILED 3, BAD_LEG 4 (spec 11.7). -/
def readReason : Nat → Option Reason
  | 1 => some .occupied
  | 2 => some .conflict
  | 3 => some .failed
  | 4 => some .badLeg
  | _ => none

/-- The junction entry a record writes: its dynamic part and fired flags cleared (R18; log entry 8). -/
def newJunction (leg : Leg) (lead limit : Nat) : Junction :=
  { leg, lead, limit, state := .waiting, number := 0, timer := .stopped, due := [],
    firedRequest := false, firedApproach := false, firedStand := false, firedClearance := false }

/-- The stop entry a record writes: its dynamic part and fired flags cleared (R18; log entry 8). -/
def newStop (mode : StopMode) (side : Side) : Stop :=
  { mode, side, state := .ahead, firedWindow := false }

/-- The entry that a waypoint payload spells; none where its kind is neither JUNCTION nor STOP or a field of its kind
is out of range (R18, R22, spec 11.5). -/
def readWaypoint (w : WaypointPayload) : Option Entry :=
  let id := w.id.toNat
  if 1 ≤ id ∧ id ≤ 4095 then
    match w.kind.toNat with
    | 1 =>
      match readLeg w.first.toNat with
      | some leg =>
        if 100 ≤ w.second.toNat ∧ w.second.toNat ≤ 20000 ∧ 1000 ≤ w.third.toNat ∧ w.third.toNat ≤ 8400 then
          some { id, distance := w.distance.toNat, point := .junction (newJunction leg w.second.toNat w.third.toNat) }
        else none
      | none => none
    | 2 =>
      match readMode w.first.toNat, readSide (w.second.toNat % 256) with
      | some mode, some side => some { id, distance := w.distance.toNat, point := .stop (newStop mode side) }
      | _, _ => none
    | _ => none
  else none

end Sys2Proof.Machine
end

