-- ==== Sys2Proof/Machine/Frames.lean ====
section
/-! DEFINITION. Frames.lean: the frame check, the loop frame and its field block (R114, R115, spec 11.7, R203), and the
order-link envelope with the layouts of replies, pictures and fault records (spec 11.1, 11.3, 11.4, 11.6). -/

namespace Sys2Proof.Machine

/-! ### The frame check (R115) -/

/-- One bit into the frame check register: the most significant bit is compared with the bit; where they differ the
shifted register is combined with 4129 (R115). -/
def checkBit (r : BitVec 16) (bit : Bool) : BitVec 16 :=
  if r.msb = bit then r <<< 1 else (r <<< 1) ^^^ 4129#16

/-- The frame check over bits in the order they are sent; the register starts at all ones (R115). -/
def frameCheck (bits : List Bool) : BitVec 16 :=
  bits.foldl checkBit 65535#16

/-- The `k` least significant bits of a number, least significant first (R114). -/
def lowBits : Nat → Nat → List Bool
  | 0, _ => []
  | k + 1, n => (n % 2 == 1) :: lowBits k (n / 2)

/-- The number whose bits, least significant first, these are. -/
def ofBits : List Bool → Nat
  | [] => 0
  | b :: rest => (if b then 1 else 0) + 2 * ofBits rest

/-! ### The loop frame (R115, spec 11.7) -/

/-- The start pattern, in the order sent (R115). -/
def startPattern : List Bool :=
  [true, false, true, true, false, false, false, true, true, true, true, false, true, false, false, false]

/-- A leg's code (spec 11.5, 11.7). -/
def legCode : Leg → Nat
  | .straight => 0
  | .left => 1
  | .right => 2

/-- An outbound kind's code (spec 11.7). -/
def kindCode : TelegramKind → Nat
  | .request _ => 1
  | .cancel => 2
  | .release => 3

/-- An outbound telegram's qualifier: the leg of a REQUEST, 0 in CANCEL and RELEASE (R203). -/
def qualifierCode : TelegramKind → Nat
  | .request leg => legCode leg
  | .cancel => 0
  | .release => 0

/-- The 48 bits of an outbound telegram's field block, in the order sent (spec 11.7, R203). -/
def fieldBlock (t : Telegram) : List Bool :=
  lowBits 4 (kindCode t.kind) ++ lowBits 14 t.tram ++ lowBits 12 t.junction ++ lowBits 4 t.number.toNat
    ++ lowBits 3 (qualifierCode t.kind) ++ lowBits 11 0

/-- The 80 bits of an outbound telegram's frame, in the order sent (R115). -/
def frameBits (t : Telegram) : List Bool :=
  startPattern ++ fieldBlock t ++ lowBits 16 (frameCheck (fieldBlock t)).toNat

/-- The `k` bits from bit `i` of a frame, as a number. -/
def fieldAt (i k : Nat) (bits : List Bool) : Nat :=
  ofBits ((bits.drop i).take k)

/-- An inbound telegram's fields as the decoder reads them from a field block (spec 11.7, R203). -/
structure InboundFields where
  kind : Nat
  tram : BitVec 14
  junction : BitVec 12
  number : BitVec 4
  qualifier : BitVec 3
  deriving DecidableEq, Repr

/-- The fields of a field block of 48 bits; the filler is not examined (R203). -/
def readBlock (block : List Bool) : InboundFields :=
  { kind := fieldAt 0 4 block
    tram := BitVec.ofNat 14 (fieldAt 4 14 block)
    junction := BitVec.ofNat 12 (fieldAt 18 12 block)
    number := BitVec.ofNat 4 (fieldAt 30 4 block)
    qualifier := BitVec.ofNat 3 (fieldAt 34 3 block) }

/-- The fields of an 80-bit frame; none where its frame check does not hold (R117). -/
def readFrame (bits : List Bool) : Option InboundFields :=
  let block := (bits.drop 16).take 48
  if ofBits (bits.drop 64) = (frameCheck block).toNat then some (readBlock block) else none

/-! ### The order-link envelope (spec 11.1, R201) -/

/-- The bits of bytes in frame order, each byte least significant bit first (R201). -/
def byteBits (bytes : List Byte) : List Bool :=
  bytes.flatMap fun b => lowBits 8 b.toNat

/-- The frame check over a length byte and body, least significant byte first (R201). -/
def envelopeCheck (bytes : List Byte) : List Byte :=
  leBytes 2 (frameCheck (byteBits bytes)).toNat

/-- A whole order-link frame around a body (spec 11.1). -/
def envelope (body : List Byte) : List Byte :=
  let counted := BitVec.ofNat 8 (body.length + 2) :: body
  165#8 :: counted ++ envelopeCheck counted

/-- The body of a frame's bytes after the start byte; none where the frame is cut off or its check is wrong (R181,
R201). -/
def frameBody (frame : List Byte) : Option (List Byte) :=
  match frame with
  | [] => none
  | length :: rest =>
    if rest.length = length.toNat ∧ 4 ≤ length.toNat then
      let body := rest.take (length.toNat - 2)
      if rest.drop (length.toNat - 2) = envelopeCheck (length :: body) then some body else none
    else none

/-! ### Codes of replies and pictures (spec 11.3, 11.4, 11.6) -/

/-- A flag's byte: 0 or 1. -/
def flagByte (b : Bool) : Byte :=
  if b then 1 else 0

/-- A number's byte. -/
def numberByte (n : Nat) : Byte :=
  BitVec.ofNat 8 n

/-- A reply status's code (spec 11.3). -/
def statusCode : Status → Nat
  | .done => 0
  | .full => 1
  | .unknown => 2
  | .wrongPort => 3
  | .unconfigured => 4
  | .lockedOut => 5
  | .protect => 6
  | .notLive => 7
  | .busy => 8
  | .refused => 9
  | .clamped => 10
  | .bad => 11
  | .withdrawn => 12
  | .interrupted => 13

/-- A stage's code (spec 11.3). -/
def stageCode : Stage → Nat
  | .final => 0
  | .accepted => 1

/-- A bank's code (spec 11.3). -/
def bankCode : BankName → Nat
  | .bankA => 0
  | .bankB => 1

/-- A bank state's code (spec 11.3). -/
def bankStateCode : BankState → Nat
  | .empty => 0
  | .clearing => 1
  | .filling => 2
  | .sealing _ _ => 3
  | .ready => 4
  | .bad _ => 5
  | .live => 6
  | .stale => 7

/-- The code of a bank state's reason (spec 11.3). -/
def badReasonCode : BankState → Nat
  | .bad .gap => 1
  | .bad .order => 2
  | .bad .duplicate => 3
  | .bad .check => 4
  | _ => 0

/-- A channel's code (spec 11.2, 11.3). -/
def channelCode : Channel → Nat
  | .bell => 0
  | .horn => 1
  | .chime => 2

/-- A program request's outcome code (spec 11.3). -/
def outcomeCode : SoundOutcome → Nat
  | .started => 0
  | .queued => 1
  | .merged => 2
  | .discarded => 3

/-- Permit sides: none 0, LEFT 1, RIGHT 2, BOTH 3 (spec 11.3, 11.4). -/
def sidesCode : Option Side → Nat
  | none => 0
  | some .left => 1
  | some .right => 2
  | some .both => 3

/-- Ramp permit: none 0, LEFT 1, RIGHT 2 (spec 11.3, 11.4). -/
def rampCode : Option RampSide → Nat
  | none => 0
  | some .left => 1
  | some .right => 2

/-- The sum of the zones' codes (spec 11.3). -/
def zonesCode (z : Zones) : Nat :=
  z.z1.toNat + 2 * z.z2.toNat + 4 * z.z3.toNat + 8 * z.z4.toNat + 16 * z.aL.toNat + 32 * z.aR.toNat

/-- The sum of the kinds' codes (spec 11.3). -/
def kindsCode (r : RequestRecord) : Nat :=
  r.ordinary.toNat + 2 * r.access.toNat

/-- A fault kind's code, in the order of the table of R163 (spec 11.6). -/
def faultKindCode : FaultKind → Nat
  | .deskSilent => 1
  | .vigilance => 2
  | .keyOffMoving => 3
  | .doorOpenMoving => 4
  | .lockLost => 5
  | .lockout => 6
  | .junctionLost => 7
  | .speedUnknown => 8
  | .axleImplausible => 9
  | .planEnd => 10
  | .emergencyBrake => 11
  | .junctionRefused => 12
  | .passedUnlocked => 13
  | .overspeed => 14
  | .rollback => 15
  | .buttonStuck => 16
  | .stopMissed => 17
  | .requestDropped => 18
  | .fixRejected => 19
  | .protect => 20

/-- A fault class's code (spec 11.6). -/
def classCode : FaultClass → Nat
  | .notice => 0
  | .restrict => 1
  | .stop => 2

/-- A source block's code (spec 11.6). -/
def blockCode : Block → Nat
  | .ord => 0
  | .aut => 1
  | .axl => 2
  | .pth => 3
  | .eff => 4
  | .jct => 5
  | .stp => 6
  | .flt => 7

/-- An end's number. -/
def endNumber : CabEnd → Nat
  | .one => 1
  | .two => 2

/-- A key's type and value (spec 11.6). -/
def keyCode : FaultKey → Nat × Nat
  | .none => (0, 0)
  | .cab c => (1, endNumber c)
  | .junction id => (2, id)
  | .stop id => (3, id)
  | .axle a => (4, axleNumber a)
  | .button n => (5, n)

/-- The acknowledged field: absent 0, no 1, yes 2 (spec 11.6). -/
def ackedCode : Option Bool → Nat
  | none => 0
  | some false => 1
  | some true => 2

/-- A fault record's 15 bytes (spec 11.6). -/
def faultBytes (r : FaultRecord) : List Byte :=
  leBytes 2 r.serial
    ++ [numberByte (faultKindCode r.kind), numberByte (classCode r.cls), numberByte (blockCode r.source),
        numberByte (keyCode r.key).1]
    ++ leBytes 2 (keyCode r.key).2 ++ leBytes 3 r.p
    ++ [flagByte r.tag.isSome, r.tag.getD 0, numberByte r.count, numberByte (ackedCode r.acked)]

/-- The record a DOORS reply carries: requested, kinds, zones, first-press p and press count (spec 11.3). -/
def requestBytes : Option RequestRecord → List Byte
  | some r => [1, numberByte (kindsCode r), numberByte (zonesCode r.zones)] ++ leBytes 3 r.firstP ++ [numberByte r.count]
  | none => List.replicate 7 0

/-- IDENT's items (R195, spec 11.3). -/
def identBytes : List Byte :=
  leBytes 2 1402 ++ [2, 3, numberByte Config.bankSize, numberByte Config.faultQueueSize,
    numberByte Config.orderQueueSize, 4, numberByte Config.buttonCount, 10]

/-- The results of a reply, in byte order (spec 11.3). -/
def resultBytes : Results → List Byte
  | .none => []
  | .plan bank state => [numberByte (bankCode bank), numberByte (bankStateCode state), numberByte (badReasonCode state)]
  | .shift p => leBytes 3 p
  | .config q v => q :: leSigned 2 v
  | .sound c o => [numberByte (channelCode c), numberByte (outcomeCode o)]
  | .ack n => [numberByte n]
  | .doors sides ramp served =>
    [numberByte (sidesCode sides), numberByte (rampCode ramp)]
      ++ match served with
         | some (id, record) => 1 :: leBytes 2 id ++ requestBytes record
         | none => List.replicate 10 0
  | .settle ids more => numberByte ids.length :: flagByte more :: ids.flatMap (leBytes 2)
  | .fault record n =>
    flagByte record.isSome :: ((record.map faultBytes).getD (List.replicate 15 0)) ++ [numberByte n]
  | .ident => identBytes

/-- A reply's body (spec 11.3). -/
def replyBody (r : Reply) : List Byte :=
  [1, r.tag, r.code, numberByte (statusCode r.status), numberByte (stageCode r.stage)] ++ resultBytes r.results

/-- An authority state's code (spec 11.4). -/
def authorityCode : Authority → Nat
  | .vacant => 0
  | .live .one => 1
  | .live .two => 2
  | .offered .one => 3
  | .offered .two => 4

/-- A settle reason's code (spec 11.4). -/
def settleReasonCode : SettleReason → Nat
  | .none => 0
  | .authority => 1
  | .direction => 2
  | .doors => 3
  | .latch => 4
  | .emergency => 5
  | .restart => 6

/-- A junction state's code (spec 11.4). -/
def junctionStateCode : JunctionState → Nat
  | .waiting => 0
  | .asked => 1
  | .moving => 2
  | .locked => 3
  | .refused _ => 4
  | .lost => 5
  | .onSight => 6
  | .passed => 7

/-- The code of a junction state's refusal reason (spec 11.4). -/
def reasonCode : JunctionState → Nat
  | .refused .occupied => 1
  | .refused .conflict => 2
  | .refused .failed => 3
  | .refused .badLeg => 4
  | _ => 0

/-- A dwell state's code (spec 11.4). -/
def dwellCode : Dwell → Nat
  | .running => 0
  | .dwell => 1
  | .closing => 2
  | .unsecured => 3

/-- A sounder channel's two bytes (spec 11.4). -/
def sounderBytes : SounderView → List Byte
  | .idle => [0, 0]
  | .program n => [1, numberByte n]
  | .manual => [2, 0]

/-- The picture's nine bytes of the next junction (spec 11.4). -/
def junctionBytes : Option NextJunction → List Byte
  | some j =>
    1 :: leBytes 2 j.id ++ [numberByte (junctionStateCode j.state), numberByte (reasonCode j.state)] ++ leSigned 4 j.ahead
  | none => List.replicate 9 0

/-- The picture's eight bytes of the target stop (spec 11.4). -/
def targetBytes : Option TargetStop → List Byte
  | some t => 1 :: leBytes 2 t.id ++ [flagByte t.requested] ++ leSigned 4 t.ahead
  | none => List.replicate 8 0

/-- A picture's body of 49 bytes (spec 11.4). -/
def pictureBody (x : Picture) : List Byte :=
  [2, flagByte x.run, flagByte x.halt, flagByte x.brakeLatch, flagByte x.emergencyLatch,
    numberByte (authorityCode x.authority)]
    ++ leSigned 2 x.e ++ leBytes 2 x.c1 ++ leBytes 2 x.c2 ++ leBytes 3 x.v ++ leSigned 2 x.cap
    ++ [numberByte x.settleCount, numberByte (settleReasonCode x.settleReason)] ++ leBytes 3 x.p
    ++ junctionBytes x.junction ++ targetBytes x.target
    ++ [numberByte (dwellCode x.dwell), numberByte (sidesCode x.sides), numberByte (rampCode x.ramp)]
    ++ sounderBytes x.bell ++ sounderBytes x.horn ++ sounderBytes x.chime ++ [numberByte x.faults]

/-- The bytes of an outbound frame on the order link (spec 11.1). -/
def wireBytes : OutFrame → List Byte
  | .reply r => envelope (replyBody r)
  | .picture p => envelope (pictureBody p)

end Sys2Proof.Machine
end

