-- ==== Sys2Proof/Machine/Flags.lean ====
section
/-! DEFINITION. Flags.lean: the conditions the blocks read from each other's state, the caps, the passage marks'
distances, and the outputs that follow from state. -/

namespace Sys2Proof.Machine

/-! ### Authority and speed -/

/-- The live end (R1). -/
def State.liveEnd (s : State) : Option CabEnd :=
  match s.aut.authority with
  | .live c => some c
  | .offered _ => none
  | .vacant => none

/-- The direction end (R2). -/
def State.directionEnd (s : State) : CabEnd :=
  match s.aut.authority with
  | .live c => c
  | .offered c => c
  | .vacant => s.aut.lastLive.getD .one

/-- A number re-signed from End 1's front to a direction end (R45, R50). -/
def resign (c : CabEnd) (n : Int) : Int :=
  match c with
  | .one => n
  | .two => -n

/-- Standstill, from the reference speed record (R52). -/
def State.standstill (s : State) : Bool :=
  s.axl.record.standstill

/-- Whether a record is an unacknowledged STOP record of a kind (R166). -/
def isOpenStop (k : FaultKind) (r : FaultRecord) : Bool :=
  r.kind == k && r.acked == some false

/-- Whether the vigilance timer is suspended: FLT holds an unacknowledged DESK_SILENT record (R15, R178). -/
def State.suspended (s : State) : Bool :=
  s.flt.queue.any (isOpenStop .deskSilent)

/-- The conditions under which the vigilance timer runs (R14). -/
def State.vigilanceHolds (s : State) : Bool :=
  s.liveEnd.isSome && !s.aut.gripHeld && decide (500 ≤ s.axl.record.v) && !s.suspended

/-! ### Passage marks (R35) -/

/-- The request point: distance − lead, floored at 0 (R18). -/
def requestPoint (e : Entry) (j : Junction) : Nat :=
  e.distance - j.lead

/-- The approach start (R35). -/
def State.approachStart (s : State) (e : Entry) : Nat :=
  e.distance - s.cfgNat .approachLen

/-- The stand start (R35). -/
def State.standStart (s : State) (e : Entry) : Nat :=
  e.distance - s.cfgNat .standLen

/-- The clearance (R35). -/
def State.clearance (s : State) (e : Entry) : Nat :=
  min maxPosition (e.distance + s.cfgNat .tramLen)

/-- The window end (R35). -/
def State.windowEnd (s : State) (e : Entry) : Nat :=
  min maxPosition (e.distance + s.cfgNat .stopWindow)

/-- The plan end, of a plan whose last entry this is (R35). -/
def State.planEndMark (s : State) (e : Entry) : Nat :=
  min maxPosition (e.distance + s.cfgNat .tramLen)

/-! ### Caps (R33, R74, R100) -/

/-- The plan-crawl condition (R33). -/
def State.planCrawl (s : State) : Bool :=
  s.liveBank.isNone || s.pth.planEnd

/-- What a junction entry contributes to the zone cap at the position p (R100). -/
def State.zoneContribution (s : State) (e : Entry) (j : Junction) : Option Int :=
  if j.state = .passed then none
  else if min (s.approachStart e) (s.standStart e) ≤ s.pth.p ∧ s.pth.p ≤ s.clearance e then
    match j.state with
    | .locked => some j.limit
    | .onSight => some (s.cfg .crawl)
    | _ => if s.pth.p < s.standStart e then some (s.cfg .crawl) else some 0
  else none

/-- The contributions of the live plan's junction entries (R100). -/
def State.zoneContributions (s : State) : List Int :=
  s.liveEntries.filterMap fun x => x.2.junction?.bind fun j => s.zoneContribution x.2 j

/-- The minimum of a list over a value. -/
def minOver : Int → List Int → Int
  | m, [] => m
  | m, x :: rest => minOver (min m x) rest

/-- The zone cap (R100): the minimum of the contributions, or LINE_SPEED without one. -/
def State.zoneCap (s : State) : Int :=
  match s.zoneContributions with
  | [] => s.cfg .lineSpeed
  | x :: rest => minOver x rest

/-- v_sel: v_dir, or −v_dir under REVERSE (R60). -/
def State.vSel (s : State) : Int :=
  match s.eff.selector with
  | .reverse => -s.axl.record.vDir
  | .forward => s.axl.record.vDir
  | .neutral => s.axl.record.vDir

/-- The values whose minimum is the cap in force (R74). -/
def State.capValues (s : State) : List Int :=
  (match s.eff.selector with
    | .reverse => [s.cfg .crawl]
    | .forward => [s.zoneCap]
    | .neutral => [s.zoneCap])
  ++ (if s.axl.record.unknown then [s.cfg .crawl] else [])
  ++ (if s.planCrawl then [s.cfg .crawl] else [])

/-- The cap in force as it is formed at a count close (R74). -/
def State.formedCap (s : State) : Int :=
  minOver (s.cfg .lineSpeed) s.capValues

/-! ### Stops (R125, R129) -/

/-- Whether an entry may be the target: a stop that is AHEAD and whose mode is REQUEST or ALWAYS (R125). -/
def isTarget (e : Entry) : Bool :=
  match e.point with
  | .junction _ => false
  | .stop t => t.state == .ahead && t.mode != .pass

/-- The target stop with its index (R125). -/
def State.target (s : State) : Option (Nat × Entry) :=
  s.liveEntries.find? fun x => isTarget x.2

/-- Whether p lies within a stop's window as the serving test reads it (R134). -/
def State.inWindow (s : State) (e : Entry) : Bool :=
  decide (e.distance ≤ s.pth.p + s.cfgNat .stopWindow ∧ s.pth.p < e.distance + s.cfgNat .stopWindow)

/-! ### Outputs that follow from state -/

/-- The sand condition (R56): an IN bogie below 700, or the emergency latch. -/
def State.sandCondition (s : State) : Bool :=
  (!s.axl.bogie1.cut && decide (s.axl.bogie1.adhesion < 700))
    || (!s.axl.bogie2.cut && decide (s.axl.bogie2.adhesion < 700)) || s.eff.latch

/-- The hold brake output (R83). -/
def State.holdBrakeOutput (s : State) : Bool :=
  s.eff.held

/-- The emergency brake output with the track brakes (R69). -/
def State.emergencyBrakeOutput (s : State) : Bool :=
  s.eff.emergencyBrake

/-- The stop-request lamp (R128). -/
def State.lampOutput (s : State) : Bool :=
  s.stp.request.isSome

/-- The permit sides in force: those of the dwell record while the dwell state is DWELL (R136). -/
def State.permitSides (s : State) : Option Side :=
  if s.stp.dwell = .dwell then s.stp.dwellRecord.bind DwellRecord.sides else none

/-- The ramp permit in force (R136). -/
def State.rampPermit (s : State) : Option RampSide :=
  if s.stp.dwell = .dwell then s.stp.dwellRecord.bind DwellRecord.ramp else none

/-- The left door release permit output (R136). -/
def State.leftDoorOutput (s : State) : Bool :=
  s.permitSides == some .left || s.permitSides == some .both

/-- The right door release permit output (R136). -/
def State.rightDoorOutput (s : State) : Bool :=
  s.permitSides == some .right || s.permitSides == some .both

/-- The ramp permit output (R136). -/
def State.rampOutput (s : State) : Bool :=
  s.rampPermit.isSome

/-- What a sounder output carries: the channel's tone, and whether it is driven at full level (R145). -/
def State.sounderOutput (s : State) (c : Channel) : Tone × Bool :=
  ((s.snd.channel c).tone, (s.snd.channel c).full)

/-- What a bogie's output code link carries: its code word, and the end the travel sense points to (R80). -/
def State.codeLinkOutput (s : State) : Bogie → Nat × CabEnd
  | .b1 => (s.eff.c1, s.eff.sense)
  | .b2 => (s.eff.c2, s.eff.sense)

/-- The bytes being sent on a port's order link, if any (R183). -/
def State.portWire (s : State) (p : Port) : Option (List Byte) :=
  (s.port p).outbound.head?.map wireBytes

end Sys2Proof.Machine
end

