-- ==== Sys2Proof/Machine/Faults.lean ====
section
/-! DEFINITION. Faults.lean: FLT (chapter 9): storing and raising faults, the brake latch, the entry into HALT, and
acknowledgement. -/

namespace Sys2Proof.Machine

/-- The source block of a kind (R163). -/
def faultSource : FaultKind → Block
  | .deskSilent => .aut
  | .vigilance => .aut
  | .keyOffMoving => .aut
  | .doorOpenMoving => .stp
  | .lockLost => .jct
  | .lockout => .flt
  | .junctionLost => .jct
  | .speedUnknown => .axl
  | .axleImplausible => .axl
  | .planEnd => .pth
  | .emergencyBrake => .eff
  | .junctionRefused => .jct
  | .passedUnlocked => .jct
  | .overspeed => .eff
  | .rollback => .eff
  | .buttonStuck => .stp
  | .stopMissed => .stp
  | .requestDropped => .stp
  | .fixRejected => .pth
  | .protect => .ord

/-- Whether a record may be removed: it is no unacknowledged STOP record (R168, R170). -/
def mayRemove (r : FaultRecord) : Bool :=
  r.acked != some false

/-- The queue with room for one record: a full queue gives up its oldest NOTICE, else its oldest RESTRICT, else its
oldest acknowledged STOP record (R169). -/
def makeRoom (q : List FaultRecord) : List FaultRecord :=
  if q.length < Config.faultQueueSize then q
  else if q.any (fun r => r.cls == .notice) then q.eraseP fun r => r.cls == .notice
  else if q.any (fun r => r.cls == .restrict) then q.eraseP fun r => r.cls == .restrict
  else q.eraseP fun r => r.cls == .stop && mayRemove r

/-- The serial after a serial (R164): 65535 is followed by 1. -/
def nextSerial (n : Nat) : Nat :=
  if n = 65535 then 1 else n + 1

/-- The record that a raising stores (R162). -/
def newRecord (k : FaultKind) (c : FaultClass) (key : FaultKey) (tag : Option Byte) (s : State) : FaultRecord :=
  { serial := s.flt.serial, kind := k, cls := c, source := faultSource k, key, p := s.pth.p, tag, count := 1,
    acked := if c = .stop then some false else none }

/-- A record stored at the tail (R164, R165, R169). -/
def storeFault (k : FaultKind) (c : FaultClass) (key : FaultKey) (tag : Option Byte) (s : State) : State :=
  { s with
    flt.queue := makeRoom s.flt.queue ++ [newRecord k c key tag s]
    flt.serial := nextSerial s.flt.serial }

/-- A NOTICE fault raised (R165). -/
def raiseNotice (k : FaultKind) (key : FaultKey) (s : State) : State :=
  storeFault k .notice key none s

/-- A RESTRICT fault raised (R165). -/
def raiseRestrict (k : FaultKind) (key : FaultKey) (s : State) : State :=
  storeFault k .restrict key none s

/-- What EFF does at the entry into HALT, whatever the event is (R65). -/
def effEnterHalt (s : State) : State :=
  { s with eff.e := 0, eff.c1 := 0, eff.c2 := 0, eff.held := true, eff.emergencyBrake := true }

/-- The entry into HALT, after its fault has been stored: the LOCKOUT record, the lockout state, EFF's part (R166,
R176). -/
def enterHalt (s : State) : State :=
  let s := storeFault .lockout .stop .none none s
  effEnterHalt { s with flt.halt := true }

/-- A raising merged into the unacknowledged record of its kind: the repeat count rises, saturating at 255 (R166). -/
def mergeFault (k : FaultKind) (s : State) : State :=
  { s with flt.queue := s.flt.queue.map fun r => if isOpenStop k r then { r with count := min 255 (r.count + 1) } else r }

/-- A STOP fault raised (R166): the first row that holds. -/
def raiseStop (k : FaultKind) (key : FaultKey) (s : State) : State :=
  if s.flt.queue.any (isOpenStop k) then mergeFault k s
  else if !s.flt.latch then
    let s := storeFault k .stop key none s
    { s with flt.latch := true }
  else if !s.flt.halt then enterHalt (storeFault k .stop key none s)
  else storeFault k .stop key none s

/-- The record with its acknowledged flag yes, where it is an unacknowledged STOP record (R174). -/
def acknowledged (r : FaultRecord) : FaultRecord :=
  if r.acked = some false then { r with acked := some true } else r

/-- The records an ACK acknowledges (R173, R174). -/
def State.openStops (s : State) : Nat :=
  s.flt.queue.countP fun r => r.acked == some false

/-- A settle offer (R73): taken when its count is larger than the count remaining. -/
def offerSettle (reason : SettleReason) (count : Nat) (s : State) : State :=
  if s.eff.settleCount < count then { s with eff.settleCount := count, eff.settleReason := reason } else s

/-- The vigilance timer started, stopped and cleared, or left, as its conditions now hold or not (R14, R15). -/
def reviseVigilance (s : State) : State :=
  if s.vigilanceHolds then
    match s.aut.vigilance with
    | .stopped => { s with aut.vigilance := .running 0 }
    | .running _ => s
    | .expired => s
  else { s with aut.vigilance := .stopped }

/-- The acknowledgement (R174): every unacknowledged STOP record acknowledged, the latch cleared, settle LATCH 10
offered, and the vigilance timer started afresh if a suspension ends and its conditions hold. -/
def acknowledge (s : State) : State :=
  let s := { s with flt.queue := s.flt.queue.map acknowledged, flt.latch := false }
  reviseVigilance (offerSettle .latch 10 s)

end Sys2Proof.Machine
end

