-- ==== Sys2Proof/Machine/Links.lean ====
section
/-! DEFINITION. Links.lean: ORD (chapter 10): replies and outbound frames, the taking of an order with its checks,
completions of deferred orders, and the arrival of frames and bytes (R181, R201). -/

namespace Sys2Proof.Machine

/-! ### Outbound frames and replies (R183) -/

/-- The state with a port's context changed. -/
def modPort (p : Port) (f : PortContext → PortContext) (s : State) : State :=
  s.setPort p (f (s.port p))

/-- A frame made for a port: it goes out behind every frame made for that port before it (R183). -/
def pushFrame (p : Port) (f : OutFrame) (s : State) : State :=
  modPort p (fun c => { c with outbound := c.outbound ++ [f] }) s

/-- A reply made for a port (R183). -/
def pushReply (p : Port) (r : Reply) (s : State) : State :=
  pushFrame p (.reply r) s

/-- What an order's handling answers (R183). -/
structure Answer where
  status : Status
  stage : Stage
  results : Results
  deriving DecidableEq, Repr

/-- A final answer without results. -/
def plain (status : Status) : Answer :=
  { status, stage := .final, results := .none }

/-- A final DONE with results. -/
def doneWith (results : Results) : Answer :=
  { status := .done, stage := .final, results }

/-- The acceptance of a deferred order (R183). -/
def acceptedWith (results : Results) : Answer :=
  { status := .done, stage := .accepted, results }

/-- The results of a plan order's reply: a bank and its state (R19). -/
def State.planResults (s : State) (b : BankName) : Results :=
  .plan b (s.bank b).state

/-- A final answer of a plan order: its status with the standby bank (R19). -/
def planAnswer (status : Status) (s : State) : Answer :=
  { status, stage := .final, results := s.planResults s.pth.standby }

/-- The results that a reply carries when a check of R184 fails or RESTART removes the order: a plan order's replies
carry the standby bank with every status (R19, R183). -/
def State.uncheckedResults (s : State) (o : Order) : Results :=
  if isPlanOrder o then s.planResults s.pth.standby else .none

/-- The reply that answers an order. -/
def replyTo (tag : Byte) (o : Order) (a : Answer) : Reply :=
  { tag, code := codeByte o, status := a.status, stage := a.stage, results := a.results }

/-! ### The taking of an order (R182, R184, R190) -/

/-- The state once the order has left its port's queue; none where it is not at the head (R182). With an empty queue the
order arrives and is taken at once (log entry 3). -/
def leaveQueue (p : Port) (tag : Byte) (o : Order) (s : State) : Option State :=
  match (s.port p).queue with
  | [] => some s
  | q :: rest =>
    if q = { tag, order := o } then some (modPort p (fun c => { c with queue := rest, headTicks := 0 }) s) else none

/-- Whether a preface record matches a protected order (R191). -/
def prefaceMatches (r : Option Preface) (o : Order) : Bool :=
  r == some { code := codeByte o, payload := orderPayload o }

/-- Check 5 (R16): the order's port is a desk whose end is not live, and the order needs the live end. -/
def State.lacksLiveEnd (s : State) (p : Port) (o : Order) : Bool :=
  needsLiveEnd o && (deskEnd p).isSome && s.liveEnd != deskEnd p

/-- The first of the checks 1 to 5 that fails, as the status it is answered with (R184). -/
def State.failedCheck (s : State) (p : Port) (o : Order) (r : Option Preface) : Option Status :=
  if !portAllows p o then some .wrongPort
  else if !s.ord.run && !admittedUnconfigured o then some .unconfigured
  else if s.flt.halt && !admittedInHalt o then some .lockedOut
  else if isProtected o && !prefaceMatches r o then some .protect
  else if s.lacksLiveEnd p o then some .notLive
  else none

/-- The order has left the queue and consumed the port's preface record (R182, R190). -/
def consumed (p : Port) (tag : Byte) (o : Order) (s : State) : Option State :=
  (leaveQueue p tag o s).map (modPort p fun c => { c with preface := none })

/-- The order has failed a check of R184: it is answered so, and PROTECT raises its fault with the order's tag
(R191). -/
def failOrder (p : Port) (tag : Byte) (o : Order) (status : Status) (s : State) : State :=
  let s := if status = .protect then storeFault .protect .notice .none (some tag) s else s
  pushReply p (replyTo tag o { status, stage := .final, results := s.uncheckedResults o }) s

/-- An order taken whole (R182, R184): checks, handling, reply. A command for an order that is not at its port's head
changes nothing. -/
def takeOrder (p : Port) (tag : Byte) (o : Order) (handle : State → State × Answer) (s : State) : State :=
  match consumed p tag o s with
  | none => s
  | some t =>
    match t.failedCheck p o (s.port p).preface with
    | some status => failOrder p tag o status t
    | none =>
      let r := handle t
      pushReply p (replyTo tag o r.2) r.1

/-! ### Deferred orders (R188, R189) -/

/-- A deferred order's code (spec 11.2). -/
def deferredCode : Deferred → Byte
  | .planClear => 14
  | .planSeal => 16
  | .planSwitch => 17
  | .settle => 28

/-- Whether a port's deferred-order slot is occupied (R188). -/
def State.slotBusy (s : State) (p : Port) : Bool :=
  (s.port p).slot.isSome

/-- A deferred order enters its port's slot (R188). -/
def enterSlot (p : Port) (tag : Byte) (order : Deferred) (s : State) : State :=
  modPort p (fun c => { c with slot := some { tag, order, bank := s.pth.standby } }) s

/-- The completion of the deferred order in a port's slot, where it is `order` (R189): its reply is made and the slot
emptied. -/
def completeSlot (p : Port) (order : Deferred) (status : Status) (results : Slot → Results) (s : State) : State :=
  match (s.port p).slot with
  | none => s
  | some x =>
    if x.order = order then
      pushReply p { tag := x.tag, code := deferredCode order, status, stage := .final, results := results x }
        (modPort p (fun c => { c with slot := none }) s)
    else s

/-- The completion of a plan operation on the vehicle link: the bank as it was named at the taking, with its state now
(R19). -/
def completePlan (order : Deferred) (status : Status) (s : State) : State :=
  completeSlot .vehicle order status (fun x => s.planResults x.bank) s

/-! ### Frames and bytes arriving (R181, R201) -/

/-- A frame answered at its arrival, echoing the tag and code bytes as received (R181, R201). -/
def answerAtArrival (p : Port) (tag code : Byte) (status : Status) (s : State) : State :=
  pushReply p { tag, code, status, stage := .final, results := .none } s

/-- A frame at its arrival (R181): discarded, answered UNKNOWN or FULL, or its order joins the queue. -/
def frameArrives (p : Port) (frame : List Byte) (s : State) : State :=
  match frameBody frame with
  | none => s
  | some (tag :: code :: payload) =>
    match readOrder code.toNat payload with
    | none => answerAtArrival p tag code .unknown s
    | some o =>
      if Config.orderQueueSize ≤ (s.port p).queue.length then answerAtArrival p tag code .full s
      else modPort p (fun c => { c with queue := c.queue ++ [{ tag, order := o }] }) s
  | some _ => s

/-- FRAME_ARRIVAL (R181). -/
def execFrameArrival (p : Port) (frame : List Byte) (s : State) : Host.Outcome State Fault Refusal :=
  .next (frameArrives p frame s)

/-- A frame being received is cut off: the receiver hunts again (R201). -/
def cutOffReceiver (c : PortContext) : PortContext :=
  { c with receiver := .hunting, pause := 0 }

/-- ORDER_FRAME_CUT_OFF (R201): the frame is discarded with no reply. -/
def execOrderFrameCutOff (p : Port) (s : State) : Host.Outcome State Fault Refusal :=
  .next (modPort p cutOffReceiver s)

/-- A byte at a port's receiver (R201). -/
def byteArrives (p : Port) (b : Byte) (s : State) : State :=
  match (s.port p).receiver with
  | .hunting =>
    if b = 165 then modPort p (fun c => { c with receiver := .started, pause := 0 }) s else s
  | .started =>
    if b.toNat < 4 then modPort p cutOffReceiver s
    else modPort p (fun c => { c with receiver := .collecting b [], pause := 0 }) s
  | .collecting length bytes =>
    if bytes.length + 1 < length.toNat then
      modPort p (fun c => { c with receiver := .collecting length (bytes ++ [b]), pause := 0 }) s
    else frameArrives p (length :: (bytes ++ [b])) (modPort p cutOffReceiver s)

/-- ORDER_LINK_BYTE_ARRIVAL (R201): the last byte of a frame brings its arrival. -/
def execOrderLinkByteArrival (p : Port) (b : Byte) (s : State) : Host.Outcome State Fault Refusal :=
  .next (byteArrives p b s)

/-- OUTBOUND_FRAME_SENT (R183): the frame being sent ends and the next waiting one of that port starts. -/
def execOutboundFrameSent (p : Port) (s : State) : Host.Outcome State Fault Refusal :=
  .next (modPort p (fun c => { c with outbound := c.outbound.tail }) s)

end Sys2Proof.Machine
end

