-- ==== Sys2Proof/Machine/Sounder.lean ====
section
/-! DEFINITION. Sounder.lean: SND (chapter 8): the ten programs, the automatic queues, manual sounding, and the events of
steps. -/

namespace Sys2Proof.Machine

/-- A duration in milliseconds, in ticks. -/
def ms (n : Nat) : Nat :=
  n * ticksPerMs

/-- The steps of a program, each a tone and a duration (R146). -/
def programSteps : Nat → List (Tone × Nat)
  | 1 => [(.high, ms 150), (.off, ms 350)]
  | 2 => [(.high, ms 150), (.off, ms 150), (.high, ms 150), (.off, ms 400)]
  | 3 => [(.high, ms 120), (.off, ms 120), (.high, ms 120), (.off, ms 120), (.high, ms 120), (.off, ms 300)]
  | 4 => [(.high, ms 150), (.off, ms 150)]
  | 5 => [(.high, ms 500), (.off, ms 200)]
  | 6 => [(.low, ms 1500), (.off, ms 300)]
  | 7 => [(.high, ms 400), (.low, ms 400), (.off, ms 200)]
  | 8 => [(.high, ms 300), (.low, ms 500), (.off, ms 200)]
  | 9 => [(.low, ms 300), (.high, ms 300), (.low, ms 300), (.off, ms 200)]
  | 10 => [(.high, ms 200), (.off, ms 200)]
  | _ => []

/-- The channel a program belongs to (R146). -/
def programChannel (n : Nat) : Channel :=
  if n ≤ 4 then .bell else if n ≤ 7 then .horn else .chime

/-- Whether a step of this channel is driven at full level under the sound level (R158): the HORN always is. -/
def driveFull (c : Channel) (night : Bool) : Bool :=
  match c with
  | .horn => true
  | .bell => !night
  | .chime => !night

/-- A program's step started: its tone, its duration, the drive from the sound level (R148, R158). Steps count from
1. -/
def startProgramStep (c : Channel) (night : Bool) (n step : Nat) (breakMark : Bool) (x : ChannelRecord) :
    ChannelRecord :=
  match (programSteps n)[step - 1]? with
  | some (tone, time) =>
    { x with state := .program n step time breakMark, tone, full := driveFull c night }
  | none => { x with state := .idle, tone := .off }

/-- The channel takes up its queue (R148): its oldest program starts at step 1, or the channel becomes IDLE. -/
def takeUp (c : Channel) (night : Bool) (x : ChannelRecord) : ChannelRecord :=
  match x.queue with
  | [] => { x with state := .idle, tone := .off }
  | n :: rest => startProgramStep c night n 1 false { x with queue := rest }

/-- A step of the manual bell stroke started: step 1 HIGH, step 2 OFF, 150 ms each (R152). -/
def startStroke (night : Bool) (step : Nat) (letGo : Bool) (x : ChannelRecord) : ChannelRecord :=
  { x with
    state := .stroke step (ms 150) letGo
    tone := if step = 1 then .high else .off
    full := driveFull .bell night }

/-- A program request on its channel (R147). -/
def requestOn (c : Channel) (night : Bool) (n : Nat) (x : ChannelRecord) : ChannelRecord × SoundOutcome :=
  match x.state with
  | .program m _ _ breakMark =>
    if m = n ∧ breakMark = false then (x, .merged)
    else if n ∈ x.queue then (x, .merged)
    else if 4 ≤ x.queue.length then (x, .discarded)
    else ({ x with queue := x.queue ++ [n] }, .queued)
  | .idle =>
    if n ∈ x.queue then (x, .merged)
    else if 4 ≤ x.queue.length then (x, .discarded)
    else (takeUp c night { x with queue := x.queue ++ [n] }, .started)
  | .stroke _ _ _ =>
    if n ∈ x.queue then (x, .merged)
    else if 4 ≤ x.queue.length then (x, .discarded)
    else ({ x with queue := x.queue ++ [n] }, .queued)
  | .blast _ _ =>
    if n ∈ x.queue then (x, .merged)
    else if 4 ≤ x.queue.length then (x, .discarded)
    else ({ x with queue := x.queue ++ [n] }, .queued)

/-- The state with one channel changed. -/
def modChannel (c : Channel) (f : ChannelRecord → ChannelRecord) (s : State) : State :=
  { s with snd := s.snd.setChannel c (f (s.snd.channel c)) }

/-- A program request at SND (R147), with its outcome. -/
def requestProgram (n : Nat) (s : State) : State × SoundOutcome :=
  let c := programChannel n
  let r := requestOn c s.snd.night n (s.snd.channel c)
  ({ s with snd := s.snd.setChannel c r.1 }, r.2)

/-- An automatic request (R149): its source is not told the outcome. -/
def askSound (n : Nat) (s : State) : State :=
  (requestProgram n s).1

/-! ### Manual sounding (R150 to R154) -/

/-- HOLD on a channel (R150): IDLE and PROGRAM enter MANUAL, a let-go mark is withdrawn, a held sounding goes on. -/
def holdChannel (c : Channel) (night : Bool) (x : ChannelRecord) : ChannelRecord :=
  match x.state with
  | .stroke step left _ => { x with state := .stroke step left false }
  | .blast sounded _ => { x with state := .blast sounded false }
  | .idle =>
    if c = .horn then { x with state := .blast 0 false, tone := .high, full := true } else startStroke night 1 false x
  | .program _ _ _ _ =>
    if c = .horn then { x with state := .blast 0 false, tone := .high, full := true } else startStroke night 1 false x

/-- LET_GO on a channel (R150): the bell's mark waits for the stroke's end (R152); the horn ends at once when its
sounded time is 300 ms, and else waits (R153). -/
def letGoChannel (c : Channel) (night : Bool) (x : ChannelRecord) : ChannelRecord :=
  match x.state with
  | .stroke step left _ => { x with state := .stroke step left true }
  | .blast sounded _ =>
    if hornMinimumTicks ≤ sounded then takeUp c night x else { x with state := .blast sounded true }
  | .idle => x
  | .program _ _ _ _ => x

/-- Every manual sounding let go, as if a LET_GO had been taken (R154). -/
def forceLetGo (s : State) : State :=
  modChannel .horn (letGoChannel .horn s.snd.night) (modChannel .bell (letGoChannel .bell s.snd.night) s)

/-- The end of a bell stroke, step 2 (R152). -/
def strokeEnd (night : Bool) (letGo : Bool) (x : ChannelRecord) : ChannelRecord :=
  if letGo then takeUp .bell night x else startStroke night 1 false x

/-- The expiry of the current step of a channel (R148, R152). -/
def stepExpired (c : Channel) (night : Bool) (x : ChannelRecord) : ChannelRecord :=
  match x.state with
  | .program n step _ breakMark =>
    if breakMark = false ∧ step < (programSteps n).length then startProgramStep c night n (step + 1) false x
    else takeUp c night x
  | .stroke step _ letGo => if step = 1 then startStroke night 2 letGo x else strokeEnd night letGo x
  | .idle => x
  | .blast _ _ => x

/-- The end of the stroke in progress (R152). Taken in step 1, the event stands for the passing of step 2 as well (log
entry 4). -/
def strokeEnded (night : Bool) (x : ChannelRecord) : ChannelRecord :=
  match x.state with
  | .stroke step _ letGo =>
    if step = 1 then strokeEnd night letGo (startStroke night 2 letGo x) else strokeEnd night letGo x
  | .idle => x
  | .program _ _ _ _ => x
  | .blast _ _ => x

/-- The horn's sounded time reaches 300 ms (R153). -/
def minimumReached (night : Bool) (x : ChannelRecord) : ChannelRecord :=
  match x.state with
  | .blast _ letGo =>
    if letGo then takeUp .horn night x else { x with state := .blast hornMinimumTicks false }
  | .idle => x
  | .program _ _ _ _ => x
  | .stroke _ _ _ => x

/-- SOUND_BREAK on a channel (R157). -/
def breakChannel (x : ChannelRecord) : ChannelRecord :=
  match x.state with
  | .program n step left _ => { x with queue := [], state := .program n step left true }
  | .idle => { x with queue := [] }
  | .stroke _ _ _ => { x with queue := [] }
  | .blast _ _ => { x with queue := [] }

/-- A channel at RESTART (R161): IDLE, its queue empty, its tone OFF, its drive kept. -/
def stopChannel (x : ChannelRecord) : ChannelRecord :=
  { x with state := .idle, queue := [], tone := .off }

/-- SND at RESTART (R161). -/
def sndRestart (s : State) : State :=
  { s with
    snd.bell := stopChannel s.snd.bell
    snd.horn := stopChannel s.snd.horn
    snd.chime := stopChannel s.snd.chime }

/-- What a picture shows of a channel (R159). -/
def sounderView (x : ChannelRecord) : SounderView :=
  match x.state with
  | .idle => .idle
  | .program n _ _ _ => .program n
  | .stroke _ _ _ => .manual
  | .blast _ _ => .manual

/-! ### The events of SND -/

/-- STEP_EXPIRY (R148): the expiry of a channel's current step. -/
def execStepExpiry (c : Channel) (s : State) : Host.Outcome State Fault Refusal :=
  .next (modChannel c (stepExpired c s.snd.night) s)

/-- BELL_STROKE_END (R152). -/
def execBellStrokeEnd (s : State) : Host.Outcome State Fault Refusal :=
  .next (modChannel .bell (strokeEnded s.snd.night) s)

/-- HORN_MINIMUM (R153). -/
def execHornMinimum (s : State) : Host.Outcome State Fault Refusal :=
  .next (modChannel .horn (minimumReached s.snd.night) s)

end Sys2Proof.Machine
end

