-- ==== Sys2Proof/Machine/Effort.lean ====
section
/-! DEFINITION. Effort.lean: EFF (chapter 4): the lever sample record, the emergency latch, the stages of a count close's
computation, the code words and the hold brake. -/

namespace Sys2Proof.Machine

/-! ### The lever (R59 to R62) -/

/-- The lever demand D of a lever position under a selector (R61). -/
def formD (l : Int) (selector : Selector) : Int :=
  let d : Int :=
    if l.natAbs ≤ 4 then 0 else l.sign * ((((l.natAbs - 4) * 1000 + 61) / 123 : Nat) : Int)
  if selector = .neutral then min d 0 else d

/-- The lever sample record set, and D formed anew (R59, R61). -/
def setLever (l : Int) (selector : Selector) (taken : Direction) (s : State) : State :=
  { s with eff.l := l, eff.selector := selector, eff.taken := taken, eff.d := formD l selector }

/-- The lever sample record reset (R62). -/
def resetLever (s : State) : State :=
  setLever 0 .neutral .forward s

/-- The direction that a selector operand would change the direction taken to, if it is a direction change (R60). -/
def directionChange (taken : Direction) (x : Selector) : Option Direction :=
  match taken, x with
  | .forward, .reverse => some .reverse
  | .reverse, .forward => some .forward
  | _, _ => none

/-- EFF's part of a LEVER (R59): the first row that holds. -/
def takeLever (l : Int) (selector : Option Selector) (s : State) : State × Status :=
  match selector with
  | none => (setLever l s.eff.selector s.eff.taken s, .refused)
  | some x =>
    match directionChange s.eff.taken x with
    | some direction =>
      if s.standstill then (offerSettle .direction 25 (setLever l x direction s), .done)
      else (setLever l s.eff.selector s.eff.taken s, .refused)
    | none => (setLever l x s.eff.taken s, .done)

/-- LEVER after its checks (R12, R14, R59): AUT takes the grip and restarts the silence timer, whatever the reply. -/
def handleLever (l grip selector : Byte) (s : State) : State × Answer :=
  let s := { s with aut.gripHeld := readGrip grip, aut.silence := .start silenceLimit }
  let r := takeLever (readL l) (readSelector selector) s
  (reviseVigilance r.1, plain r.2)

/-- LEVER (R59). -/
def execLever (p : Port) (tag l grip selector : Byte) (s : State) : Host.Outcome State Fault Refusal :=
  .next (takeOrder p tag (.lever l grip selector) (handleLever l grip selector) s)

/-! ### Emergency inputs and the emergency latch (R66 to R69) -/

/-- An emergency input's change (R66): becoming active sets the capture. -/
def emergencyChange (cab : CabEnd) (active : Bool) (s : State) : State :=
  let x := s.eff.inputs.get cab
  { s with eff.inputs := s.eff.inputs.set cab { active, capture := x.capture || (active && !x.active) } }

/-- EMERGENCY_INPUT (R66). -/
def execEmergencyInput (cab : CabEnd) (active : Bool) (s : State) : Host.Outcome State Fault Refusal :=
  .next (emergencyChange cab active s)

/-- Whether an emergency input is seen active at a count close (R66). -/
def State.seenActive (s : State) (cab : CabEnd) : Bool :=
  (s.eff.inputs.get cab).active || (s.eff.inputs.get cab).capture

/-- Both captures cleared once the count close has read them (R66). -/
def clearCaptures (s : State) : State :=
  { s with eff.inputs := ⟨{ s.eff.inputs.one with capture := false }, { s.eff.inputs.two with capture := false }⟩ }

/-- The latch set (R67): EMERGENCY_BRAKE for each end whose input is seen, End 1 first, and HORN program 6. -/
def setEmergency (seen1 seen2 : Bool) (s : State) : State :=
  let s := { s with eff.latch := true }
  let s := if seen1 then raiseNotice .emergencyBrake (.cab .one) s else s
  let s := if seen2 then raiseNotice .emergencyBrake (.cab .two) s else s
  askSound 6 s

/-- Whether the latch can be cleared (R68): standstill, neither input seen, and no live end or full brake. -/
def State.emergencyMayClear (s : State) (seen1 seen2 : Bool) : Bool :=
  s.standstill && !seen1 && !seen2 && (s.liveEnd.isNone || s.eff.d == -1000)

/-- The latch cleared, with its settle offer (R68). -/
def clearEmergency (s : State) : State :=
  offerSettle .emergency 25 { s with eff.latch := false }

/-! ### Stages 2 to 8 (R70 to R76) -/

/-- Stages 2 to 4 (R70). -/
def State.requestTarget (s : State) : Int :=
  if s.flt.latch then -1000 else if s.liveEnd.isNone then -200 else s.eff.d

/-- Stage 5 (R71). -/
def dwellLimit (x : Dwell) (t : Int) : Int :=
  if x = .running then t else min t (-200)

/-- Stage 6 on the target (R72). -/
def settleLimit (count : Nat) (t : Int) : Int :=
  if 0 < count then min t 0 else t

/-- Stage 6 on the settle count: down by 1; at 0 the reason becomes none (R72). -/
def countSettle (s : State) : State :=
  if s.eff.settleCount = 0 then s
  else
    { s with
      eff.settleCount := s.eff.settleCount - 1
      eff.settleReason := if s.eff.settleCount = 1 then .none else s.eff.settleReason }

/-- Stage 7 on the target (R75). -/
def capLimit (vSel cap t : Int) : Int :=
  if cap + 1400 < vSel then min t (-300) else if cap < vSel then min t 0 else t

/-- Stage 7 on the overspeed-noted flag (R75). -/
def noteOverspeed (s : State) : State :=
  if s.eff.cap + 1400 < s.vSel ∧ s.eff.overspeed = false then
    raiseNotice .overspeed .none { s with eff.overspeed := true }
  else s

/-- Stage 8 (R76): E moved from `e` toward `t` by at most one step, stopping at 0. -/
def jerkLimit (up down e t : Int) : Int :=
  if t = e then e
  else if 0 ≤ e ∧ e < t then min (e + up) t
  else if 0 < e ∧ t < e then max (max (e - down) t) 0
  else if e ≤ 0 ∧ t < e then max (e - up) t
  else min (min (e + down) t) 0

/-- The target after stages 2 to 7, with the cap in force as formed (R70 to R75). -/
def State.effortTarget (s : State) : Int :=
  capLimit s.vSel s.eff.cap (settleLimit s.eff.settleCount (dwellLimit s.stp.dwell s.requestTarget))

/-- Stages 2 to 8 from a held E (R63). -/
def limitEffort (ePrev : Int) (s : State) : State :=
  let e := jerkLimit (s.cfg .jerkUp) (s.cfg .jerkDown) ePrev s.effortTarget
  let s := noteOverspeed (countSettle s)
  { s with eff.e := e }

/-! ### Stages 9 and 10 (R78, R79) -/

/-- A bogie's share of E (R78). -/
def bogieShare (e : Int) (adhesion : Nat) : Int :=
  truncDiv (e * adhesion) 1000

/-- An IN bogie's code word (R79). -/
def codeWord (trim share : Int) : Nat :=
  (clampInt 1 4095 (2048 + trim + roundDiv (share * 2047) 1000)).toNat

/-- A bogie's code word: 0 when it is CUT (R79). -/
def bogieCode (trim e : Int) (x : BogieState) : Nat :=
  if x.cut then 0 else codeWord trim (bogieShare e x.adhesion)

/-- Both code words formed from E (R78, R79). -/
def setCodes (s : State) : State :=
  { s with
    eff.c1 := bogieCode (s.cfg .trim) s.eff.e s.axl.bogie1
    eff.c2 := bogieCode (s.cfg .trim) s.eff.e s.axl.bogie2 }

/-! ### The hold brake (R81, R82) -/

/-- The standstill run counter revised (R81). -/
def countStandstill (s : State) : State :=
  { s with eff.runCounter := if s.standstill = true ∧ s.eff.e ≤ 0 then min 10 (s.eff.runCounter + 1) else 0 }

/-- The hold state revised after the counter (R82). -/
def reviseHold (s : State) : State :=
  if s.eff.held then
    if 150 ≤ s.eff.e ∧ s.eff.selector ≠ .neutral ∧ (s.eff.rollback = false ∨ s.standstill = true) then
      { s with eff.held := false, eff.rollback := false }
    else s
  else if s.vSel < -150 ∧ 0 ≤ s.eff.d then
    raiseNotice .rollback .none { s with eff.held := true, eff.rollback := true }
  else if s.eff.runCounter = 10 then { s with eff.held := true }
  else s

/-! ### The count close (R63 to R65) -/

/-- The end the travel sense points to (R80). -/
def State.travelSense (s : State) : CabEnd :=
  match s.eff.selector with
  | .reverse => otherEnd s.directionEnd
  | .forward => s.directionEnd
  | .neutral => s.directionEnd

/-- The cap in force formed, the travel sense set, and the overspeed-noted flag cleared when v_sel is not above the cap
(R74, R75, R80). -/
def formCap (s : State) : State :=
  let cap := s.formedCap
  { s with
    eff.cap := cap
    eff.sense := s.travelSense
    eff.overspeed := s.eff.overspeed && decide (cap < s.vSel) }

/-- EFF at a count close in UNCONFIGURED (R64). -/
def unconfiguredClose (seen : Bool) (s : State) : State :=
  countStandstill { s with eff.e := 0, eff.c1 := 0, eff.c2 := 0, eff.held := true, eff.emergencyBrake := seen }

/-- Stage 1 in HALT (R65, R67, R68): the latch set or cleared; E stays 0. -/
def haltEmergency (seen1 seen2 : Bool) (s : State) : State :=
  if s.eff.latch then if s.emergencyMayClear seen1 seen2 then clearEmergency s else s
  else if seen1 || seen2 then setEmergency seen1 seen2 s
  else s

/-- EFF at a count close in HALT (R65). -/
def haltClose (seen1 seen2 : Bool) (s : State) : State :=
  let s := haltEmergency seen1 seen2 s
  countStandstill { s with eff.e := 0, eff.c1 := 0, eff.c2 := 0, eff.held := true, eff.emergencyBrake := true }

/-- Stages 1 to 8 in RUN (R63, R67, R68). -/
def runEffort (seen1 seen2 : Bool) (s : State) : State :=
  if s.eff.latch then
    if s.emergencyMayClear seen1 seen2 then limitEffort (-1000) (clearEmergency s)
    else { s with eff.e := -1000 }
  else if seen1 || seen2 then
    let s := setEmergency seen1 seen2 s
    { s with eff.e := -1000 }
  else limitEffort s.eff.e s

/-- EFF at a count close in RUN (R63): stages 1 to 10, then the hold state; the emergency brake follows the latch
(R69). -/
def runClose (seen1 seen2 : Bool) (s : State) : State :=
  let s := setCodes (runEffort seen1 seen2 s)
  let s := { s with eff.emergencyBrake := s.eff.latch }
  reviseHold (countStandstill s)

/-- EFF at a count close (R63, R64, R65). -/
def effClose (s : State) : State :=
  let seen1 := s.seenActive .one
  let seen2 := s.seenActive .two
  let s := formCap (clearCaptures s)
  if !s.ord.run then unconfiguredClose (seen1 || seen2) s
  else if s.flt.halt then haltClose seen1 seen2 s
  else runClose seen1 seen2 s

/-- EFF at RESTART, AUT being VACANT already (R86). -/
def effRestart (s : State) : State :=
  resetLever (offerSettle .restart 10 { s with eff.held := true, eff.rollback := false })

end Sys2Proof.Machine
end

