-- ==== Sys2Proof/Machine/Loop.lean ====
section
/-! DEFINITION. Loop.lean: the outbound side of LOOP (chapter 6): the queue, the offer, the transmitter and its two
lines. -/

namespace Sys2Proof.Machine

/-- Whether a telegram is a REQUEST. -/
def isRequest (t : Telegram) : Bool :=
  match t.kind with
  | .request _ => true
  | .cancel => false
  | .release => false

/-- Whether the head of the queue is in transmission (R109, R111). -/
def Loop.isSending (x : Loop) : Bool :=
  match x.transmitter with
  | .sending _ => true
  | .idle => false
  | .gap _ => false

/-- One bit on the outbound lines (R114): the data line changes when the bit differs from the one before it, the strobe
line when it equals it. -/
def driveBit (bit : Bool) (x : Loop) : Loop :=
  if bit = x.data then { x with strobe := !x.strobe } else { x with data := bit }

/-- The bit at a position of a telegram's frame. -/
def frameBit (t : Telegram) (i : Nat) : Bool :=
  ((frameBits t)[i]?).getD false

/-- The transmitter begins with the head telegram, whose first bit goes out at once; with an empty queue it is IDLE
(R111). -/
def beginSending (x : Loop) : Loop :=
  match x.queue with
  | [] => { x with transmitter := .idle }
  | q :: _ => driveBit (frameBit q.telegram 0) { x with transmitter := .sending 1 }

/-- The next bit of the telegram in transmission (R114): the line changes and the bit position advances, up to the 80th
bit. -/
def sendNextBit (x : Loop) : Loop :=
  match x.transmitter, x.queue with
  | .sending k, q :: _ =>
    if k < frameBitCount then driveBit (frameBit q.telegram k) { x with transmitter := .sending (k + 1) } else x
  | _, _ => x

/-- The bits of the telegram in transmission that have not gone out yet, `n` of them at most. -/
def sendBits : Nat → Loop → Loop
  | 0, x => x
  | n + 1, x => sendBits n (sendNextBit x)

/-- What LOOP answers to an offer (R110). -/
inductive OfferAnswer where
  | taken | merged | notTaken
  deriving DecidableEq, Repr

/-- Whether a queued telegram is a REQUEST for this junction. -/
def isRequestFor (junction : Nat) (q : QueuedTelegram) : Bool :=
  isRequest q.telegram && q.telegram.junction == junction

/-- The part of the queue that a merge may take from: all of it but a head in transmission (R110, R112). -/
def Loop.mergeable (x : Loop) : List QueuedTelegram :=
  if x.isSending then x.queue.tail else x.queue

/-- The queue with the REQUEST for a junction removed, a head in transmission left (R110). -/
def Loop.withoutRequest (x : Loop) (junction : Nat) : List QueuedTelegram :=
  if x.isSending then x.queue.take 1 ++ x.queue.tail.eraseP (isRequestFor junction)
  else x.queue.eraseP (isRequestFor junction)

/-- A telegram taken at the tail (R110). -/
def joinQueue (q : QueuedTelegram) (x : Loop) : Loop :=
  { x with queue := x.queue ++ [q] }

/-- The transmitter once the handling of an event is over that found the queue as `before`: in IDLE it begins with the head
telegram if the queue has ceased to be empty (R111). DEDUCED (log entry 27): it begins after the last offer of the event, so
that a REQUEST made by the same event is still not in transmission and can be merged (R99). -/
def startSending (before : List QueuedTelegram) (x : Loop) : Loop :=
  match before, x.transmitter with
  | [], .idle => beginSending x
  | _, _ => x

/-- The state `t` at the end of an event's handling that began with `s`, its transmitter begun if the event filled the queue
(R111). -/
def startTransmitter (s t : State) : State :=
  { t with loop := startSending s.loop.queue t.loop }

/-- An offer to LOOP from the entry at an index of a bank (R110): the first row that holds. -/
def offerTelegram (t : Telegram) (bank : BankName) (index : Nat) (x : Loop) : OfferAnswer × Loop :=
  if t.kind = .cancel ∧ x.mergeable.any (isRequestFor t.junction) = true then
    (.merged, { x with queue := x.withoutRequest t.junction })
  else if x.queue.any (fun q => q.telegram.junction == t.junction) then (.notTaken, x)
  else if Config.loopQueueSize ≤ x.queue.length then (.notTaken, x)
  else (.taken, joinQueue { telegram := t, bank, index, entryStands := true } x)

/-- The entry at an index of a bank has been cleared: telegrams of it still queued belong to no entry (R105; log entry
9). -/
def forgetEntry (bank : BankName) (index : Nat) (s : State) : State :=
  { s with loop.queue := s.loop.queue.map fun q =>
      if q.bank = bank ∧ q.index = index then { q with entryStands := false } else q }

/-- The entries of a bank from an index on have been cleared (R18, R21, R24). -/
def forgetEntriesFrom (bank : BankName) (index : Nat) (s : State) : State :=
  { s with loop.queue := s.loop.queue.map fun q =>
      if q.bank = bank ∧ index ≤ q.index then { q with entryStands := false } else q }

/-- LOOP at RESTART (R119): the queue empty, the transmitter in GAP afresh, the lines and the decoder kept. -/
def loopRestart (s : State) : State :=
  { s with loop.queue := [], loop.transmitter := .gap 0 }

/-! ### The events of the outbound side, but for the completion (Junction.lean) -/

/-- GAP_END (R111): at the end of the gap the head telegram is sent, or the transmitter is IDLE. -/
def gapEnded (x : Loop) : Loop :=
  match x.transmitter with
  | .gap _ => beginSending x
  | .idle => x
  | .sending _ => x

/-- GAP_END (R111). -/
def execGapEnd (s : State) : Host.Outcome State Fault Refusal :=
  .next { s with loop := gapEnded s.loop }

/-- OUTBOUND_BIT_TIME (R114). -/
def execOutboundBitTime (s : State) : Host.Outcome State Fault Refusal :=
  .next { s with loop := sendNextBit s.loop }

end Sys2Proof.Machine
end

