-- ==== Sys2Proof/Machine/Junction.lean ====
section
/-! DEFINITION. Junction.lean: JCT (chapter 5): making, offering and re-offering telegrams, the wayside's answers, the
passage marks of a junction, the settle lists, retirement and restart. -/

namespace Sys2Proof.Machine

/-! ### Telegrams (R89, R90) -/

/-- A telegram made for a junction, bearing TRAM_ID in force (R108). -/
def makeTelegram (kind : TelegramKind) (junction : Nat) (number : BitVec 4) (s : State) : Telegram :=
  { kind, tram := s.cfgNat .tramId, junction, number }

/-- An entry whose REQUEST LOOP has taken (R89): the number is the REQUEST's, the state ASKED, the timer stopped. -/
def askedWith (number : BitVec 4) (j : Junction) : Junction :=
  { j with number, state := .asked, timer := .stopped }

/-- The entry after LOOP has taken a telegram of its (R89, R90). -/
def afterTaken (t : Telegram) (bank : BankName) (index : Nat) (s : State) : State :=
  if isRequest t then s.modJunction bank index (askedWith t.number) else s

/-- The head of the due list at an index of a bank. -/
def State.dueHead (s : State) (bank : BankName) (index : Nat) : Option Telegram :=
  (s.junctionAt bank index).bind fun j => j.due.head?

/-- The indices of a bank whose due heads are REQUESTs (`true`), or CANCELs and RELEASEs (`false`), in index order. -/
def State.headIndices (s : State) (bank : BankName) (requests : Bool) : List (BankName × Nat) :=
  (s.bank bank).entries.filterMap fun x =>
    (x.2.junction?.bind fun j => j.due.head?).bind fun t =>
      if isRequest t = requests then some (bank, x.1) else none

/-- The due heads in the order of R90: give-ups of banks that are not live (the standby bank's first), give-ups of the
live plan, REQUESTs of the live plan. -/
def State.offeringOrder (s : State) : List (BankName × Nat) :=
  match s.liveBank with
  | some b => s.headIndices (otherBank b) false ++ s.headIndices b false ++ s.headIndices b true
  | none => s.headIndices s.pth.standby false ++ s.headIndices (otherBank s.pth.standby) false

/-- One offering of due heads (R90): it stops when LOOP has no free place; `true` when a merge has ended it. -/
def offerHeads : List (BankName × Nat) → State → State × Bool
  | [], s => (s, false)
  | (b, i) :: rest, s =>
    if Config.loopQueueSize ≤ s.loop.queue.length then (s, false)
    else
      match s.dueHead b i with
      | none => offerHeads rest s
      | some t =>
        let popped := fun s : State => s.modJunction b i fun j => { j with due := j.due.tail }
        match offerTelegram t b i s.loop with
        | (.notTaken, _) => offerHeads rest s
        | (.taken, x) => offerHeads rest (afterTaken t b i (popped { s with loop := x }))
        | (.merged, x) => (popped { s with loop := x }, true)

/-- How many merges one re-offering can meet at most; each removes a telegram of the queue. -/
def offeringFuel : Nat := 16

/-- Due heads offered at an event at which the queue has lost a telegram (R90); a merge among them is such an event
again (R110; log entry 10). -/
def reofferWith : Nat → State → State
  | 0, s => s
  | n + 1, s =>
    match offerHeads s.offeringOrder s with
    | (s', true) => reofferWith n s'
    | (s', false) => s'

/-- Due heads offered (R90). -/
def reoffer (s : State) : State :=
  reofferWith offeringFuel s

/-- A telegram made for the entry at an index of a bank and offered at once (R90): one that LOOP does not take joins the
due list, and a merge frees a place (R110). -/
def makeOffer (t : Telegram) (bank : BankName) (index : Nat) (s : State) : State :=
  match offerTelegram t bank index s.loop with
  | (.taken, x) => afterTaken t bank index { s with loop := x }
  | (.merged, x) => reoffer { s with loop := x }
  | (.notTaken, x) => { s with loop := x }.modJunction bank index fun j => { j with due := j.due ++ [t] }

/-- The REQUEST of an entry, bearing the next exchange number (R87, R89). -/
def makeRequest (id : Nat) (j : Junction) (s : State) : Telegram :=
  makeTelegram (.request j.leg) id (j.number + 1) s

/-! ### Passages (R89, R98, R99) -/

/-- A request point delivered (R89): a WAITING entry with an empty due list makes its REQUEST. -/
def passRequestPoint (bank : BankName) (index : Nat) (s : State) : State :=
  match s.entryAt bank index with
  | none => s
  | some e =>
    match e.junction? with
    | none => s
    | some j =>
      if j.state = .waiting ∧ j.due = [] then makeOffer (makeRequest e.id j s) bank index s else s

/-- An approach start delivered (R98). -/
def passApproach (bank : BankName) (index : Nat) (s : State) : State :=
  match s.junctionAt bank index with
  | none => s
  | some j => if j.leg = .straight then s else askSound 3 s

/-- The entry made PASSED with its timer stopped (R99, R104). -/
def passedJunction (j : Junction) : Junction :=
  { j with state := .passed, timer := .stopped }

/-- An entry's due list without its REQUEST (R99, R104). -/
def withoutDueRequest (j : Junction) : Junction :=
  { j with due := j.due.filter fun t => !isRequest t }

/-- A clearance delivered (R99). -/
def passClearance (bank : BankName) (index : Nat) (s : State) : State :=
  match s.entryAt bank index with
  | none => s
  | some e =>
    match e.junction? with
    | none => s
    | some j =>
      let s' := s.modJunction bank index passedJunction
      let unlocked := raiseNotice .passedUnlocked (.junction e.id)
      match j.state with
      | .locked => makeOffer (makeTelegram .release e.id j.number s) bank index s'
      | .asked => unlocked (makeOffer (makeTelegram .cancel e.id j.number s) bank index s')
      | .moving => unlocked (makeOffer (makeTelegram .cancel e.id j.number s) bank index s')
      | .waiting => unlocked (s'.modJunction bank index withoutDueRequest)
      | .refused _ => unlocked s'
      | .lost => unlocked s'
      | .onSight => s'
      | .passed => s'

/-! ### Settle lists (R101, R102) -/

/-- An id offered to one settle list (R101). -/
def offerId (id : Nat) (x : SettleList) : SettleList :=
  if id ∈ x.ids then x
  else if x.ids.length < Config.settleListSize then { x with ids := x.ids ++ [id] }
  else { x with more := true }

/-- An id offered to each port's settle list (R101). -/
def offerToLists (id : Nat) (s : State) : State :=
  { s with jct.lists := ⟨offerId id s.jct.lists.end1, offerId id s.jct.lists.end2, offerId id s.jct.lists.vehicle⟩ }

/-- Whether an exchange is in progress: an entry of the live plan in ASKED or MOVING (R102). -/
def State.exchangeInProgress (s : State) : Bool :=
  s.liveJunctionStates.any inExchange

/-- Whether a junction entry of the live plan is in ASKED, MOVING or LOCKED (R27, R107). -/
def State.junctionActive (s : State) : Bool :=
  s.liveJunctionStates.any isActive

/-! ### Answers (R91 to R95) -/

/-- A REQUEST reported transmitted (R91). -/
def transmissionReport (junction : Nat) (number : BitVec 4) (s : State) : State :=
  match s.liveJunction junction with
  | none => s
  | some (b, i, e) =>
    match e.junction? with
    | none => s
    | some j =>
      if j.state = .asked ∧ j.number = number ∧ j.timer = .stopped then
        s.modJunction b i fun j => { j with timer := .start answerLimit }
      else s

/-- An entry made LOST with its timer stopped (R94, R95). -/
def lostJunction (j : Junction) : Junction :=
  { j with state := .lost, timer := .stopped }

/-- An ACCEPT delivered (R92, R93). -/
def takeAccept (junction : Nat) (number : BitVec 4) (s : State) : State :=
  match s.liveJunction junction with
  | none => s
  | some (b, i, e) =>
    match e.junction? with
    | none => s
    | some j =>
      if j.number = number ∧ j.state = .asked then
        s.modJunction b i fun j => { j with state := .moving, timer := .start movingLimit }
      else s

/-- A SET delivered (R92, R93). -/
def takeSet (junction : Nat) (number : BitVec 4) (s : State) : State :=
  match s.liveJunction junction with
  | none => s
  | some (b, i, e) =>
    match e.junction? with
    | none => s
    | some j =>
      if j.number = number ∧ inExchange j.state = true then
        s.modJunction b i fun j => { j with state := .locked, timer := .stopped }
      else s

/-- A REFUSE delivered (R92, R93). -/
def takeRefuse (junction : Nat) (number : BitVec 4) (reason : Reason) (s : State) : State :=
  match s.liveJunction junction with
  | none => s
  | some (b, i, e) =>
    match e.junction? with
    | none => s
    | some j =>
      if j.number = number ∧ inExchange j.state = true then
        let s := s.modJunction b i fun j => { j with state := .refused reason, timer := .stopped }
        offerToLists junction (raiseNotice .junctionRefused (.junction junction) s)
      else s

/-- The LOCK_LOST fault, of STOP class at or above the stand start (R95). -/
def raiseLockLost (e : Entry) (s : State) : State :=
  if s.standStart e ≤ s.pth.p then raiseStop .lockLost (.junction e.id) s
  else raiseRestrict .lockLost (.junction e.id) s

/-- A LOCK_LOST delivered (R92, R95). -/
def takeLockLost (junction : Nat) (number : BitVec 4) (s : State) : State :=
  match s.liveJunction junction with
  | none => s
  | some (b, i, e) =>
    match e.junction? with
    | none => s
    | some j =>
      if j.number = number ∧ j.state = .locked then
        raiseLockLost e (offerToLists junction (s.modJunction b i lostJunction))
      else s

/-- The expiry of an exchange timer (R94); a stopped timer cannot expire. -/
def exchangeExpired (junction : Nat) (s : State) : State :=
  match s.liveJunction junction with
  | none => s
  | some (b, i, e) =>
    match e.junction? with
    | none => s
    | some j =>
      if inExchange j.state = true ∧ j.timer.isRunning = true then
        offerToLists junction
          (raiseRestrict .junctionLost (.junction junction) (s.modJunction b i lostJunction))
      else s

/-! ### Completion of a transmission (R113) -/

/-- The telegram in transmission leaves the queue and the gap starts (R113), its remaining bits gone out (log entry
4). -/
def endTransmission (x : Loop) : Loop :=
  { sendBits frameBitCount x with queue := x.queue.tail, transmitter := .gap 0 }

/-- A transmission's completion (R113): the telegram leaves, the gap starts, a REQUEST is reported, and due heads are
offered. Outside SENDING nothing completes. -/
def completeTransmission (s : State) : State :=
  match s.loop.transmitter, s.loop.queue with
  | .sending _, q :: _ =>
    let s' := { s with loop := endTransmission s.loop }
    reoffer (if isRequest q.telegram then transmissionReport q.telegram.junction q.telegram.number s' else s')
  | _, _ => s

/-- TRANSMISSION_COMPLETION (R113). -/
def execTransmissionCompletion (s : State) : Host.Outcome State Fault Refusal :=
  .next (completeTransmission s)

/-! ### Switch-in, retirement, restart (R88, R104, R105) -/

/-- A junction's dynamic part at a switch-in (R88): PASSED for an entry passed silently, else WAITING. -/
def switchedJunction (passed : Bool) (j : Junction) : Junction :=
  { j with state := if passed then .passed else .waiting, number := 0, timer := .stopped, due := [] }

/-- One junction entry of a retired bank (R104). -/
def retireJunction (bank : BankName) (index : Nat) (s : State) : State :=
  match s.entryAt bank index with
  | none => s
  | some e =>
    match e.junction? with
    | none => s
    | some j =>
      match j.state with
      | .asked => makeOffer (makeTelegram .cancel e.id j.number s) bank index (s.modJunction bank index passedJunction)
      | .moving => makeOffer (makeTelegram .cancel e.id j.number s) bank index (s.modJunction bank index passedJunction)
      | .locked => makeOffer (makeTelegram .release e.id j.number s) bank index (s.modJunction bank index passedJunction)
      | .waiting => s.modJunction bank index withoutDueRequest
      | .refused _ => s
      | .lost => s
      | .onSight => s
      | .passed => s

/-- The junction entries of a retired bank, in index order (R104). -/
def retireJunctions (bank : BankName) (s : State) : State :=
  ((s.bank bank).entries.map Prod.fst).foldl (fun s i => retireJunction bank i s) s

/-- A CANCEL or RELEASE that the emptying discarded, made again at the head of its entry's due list (R105, step 1); one
whose entry has been cleared since is dropped, and so is a REQUEST. -/
def remakeTelegram (q : QueuedTelegram) (s : State) : State :=
  if isRequest q.telegram then s
  else if q.entryStands then
    let t := makeTelegram q.telegram.kind q.telegram.junction q.telegram.number s
    s.modJunction q.bank q.index fun j => { j with due := t :: j.due }
  else s

/-- An active junction of the live plan at RESTART (R105, steps 2 and 3): its give-up and its new REQUEST due, the state
WAITING, the timer stopped. -/
def restartJunction (id : Nat) (s : State) (j : Junction) : Junction :=
  match j.state with
  | .asked =>
    { j with
      state := .waiting, timer := .stopped
      due := j.due ++ [makeTelegram .cancel id j.number s, makeRequest id j s] }
  | .moving =>
    { j with
      state := .waiting, timer := .stopped
      due := j.due ++ [makeTelegram .cancel id j.number s, makeRequest id j s] }
  | .locked =>
    { j with
      state := .waiting, timer := .stopped
      due := j.due ++ [makeTelegram .release id j.number s, makeRequest id j s] }
  | _ => j

/-- JCT at RESTART, once LOOP has been emptied of `removed` (R105). -/
def jctRestart (removed : List QueuedTelegram) (s : State) : State :=
  let s := removed.foldl (fun s q => remakeTelegram q s) s
  let s :=
    match s.liveBank with
    | none => s
    | some b => (s.bank b).entries.foldl (fun t x => t.modJunction b x.1 (restartJunction x.2.id s)) s
  reoffer s

end Sys2Proof.Machine
end

