-- ==== Sys2Proof/Machine/Stops.lean ====
section
/-! DEFINITION. Stops.lean: STP (chapter 7): the buttons, the request record, serving and missing stops, the dwell
state, the permits, and the orders DOORS, CLOSE and DOOR_STATE. -/

namespace Sys2Proof.Machine

/-! ### Buttons (R122, R123, R127) -/

/-- One sample at a debouncer (R122), with its pressed time in samples (R123). DESIGN CHOICE (log entry 25): at a sample
that is both the third released one and the one at 20 s of pressed time, the button is released and no STUCK mark is
made; the spec does not say which comes first. -/
def sampleDebouncer (level : Bool) (d : Debouncer) : Debouncer :=
  if level = d.pressed then
    { d with run := 0, time := if d.pressed then min stuckSamples (d.time + 1) else 0 }
  else if d.run < 2 then
    { d with run := d.run + 1, time := if d.pressed then min stuckSamples (d.time + 1) else 0 }
  else { pressed := level, run := 0, time := 0, stuck := false }

/-- A sample of every button; a button without a level in the command is left. -/
def sampleAll : List Debouncer → List Bool → List Debouncer
  | [], _ => []
  | d :: ds, [] => d :: ds
  | d :: ds, l :: ls => sampleDebouncer l d :: sampleAll ds ls

/-- The input levels after a sample. -/
def holdLevels : List Bool → List Bool → List Bool
  | [], _ => []
  | x :: xs, [] => x :: xs
  | _ :: xs, l :: ls => l :: holdLevels xs ls

/-- The numbers, from `n` on, of the buttons whose debouncer `f` picks by its state before and after a sample. -/
def pickButtons (f : Debouncer → Debouncer → Bool) : Nat → List Debouncer → List Debouncer → List Nat
  | n, a :: as, b :: bs => if f a b then n :: pickButtons f (n + 1) as bs else pickButtons f (n + 1) as bs
  | _, _, _ => []

/-- Whether a button is an access button (chapter 7.1). -/
def isAccess (n : Nat) : Bool :=
  decide (25 ≤ n)

/-- The zones with a button's zone added (chapter 7.1). -/
def addZone (n : Nat) (z : Zones) : Zones :=
  if n ≤ 6 then { z with z1 := true }
  else if n ≤ 12 then { z with z2 := true }
  else if n ≤ 18 then { z with z3 := true }
  else if n ≤ 24 then { z with z4 := true }
  else if n = 25 then { z with aL := true }
  else { z with aR := true }

/-- No zone. -/
def noZones : Zones :=
  ⟨false, false, false, false, false, false⟩

/-- A registered press on the target's request record (R127). -/
def registerPress (n : Nat) (s : State) : State :=
  match s.stp.request with
  | none =>
    let r : RequestRecord :=
      { ordinary := !isAccess n, access := isAccess n, zones := addZone n noZones, firstP := s.pth.p, count := 1 }
    let s := askSound 8 { s with stp.request := some r }
    if isAccess n then askSound 9 s else s
  | some r =>
    let r' : RequestRecord :=
      { r with
        ordinary := r.ordinary || !isAccess n
        access := r.access || isAccess n
        zones := addZone n r.zones
        count := min 255 (r.count + 1) }
    let s := { s with stp.request := some r' }
    if isAccess n ∧ r.access = false then askSound 9 s else s

/-- A press (R127): registered when the dwell state is RUNNING and a target exists, else ignored. -/
def pressButton (n : Nat) (s : State) : State :=
  if s.stp.dwell = .running ∧ s.target.isSome then registerPress n s else s

/-- A button marked STUCK with its fault (R123), if it is PRESSED and has no mark. -/
def stickButton (n : Nat) (s : State) : State :=
  match s.stp.buttons[n - 1]? with
  | none => s
  | some d =>
    if d.pressed ∧ d.stuck = false ∧ 1 ≤ n then
      raiseNotice .buttonStuck (.button n)
        { s with stp.buttons := s.stp.buttons.set (n - 1) { d with stuck := true, time := stuckSamples } }
    else s

/-- Whether a press is made between two states of a debouncer (R122). -/
def isPress (a b : Debouncer) : Bool :=
  !a.pressed && b.pressed

/-- Whether a button has been PRESSED for 20 s at this sample and has no mark yet (R123). -/
def isDueStuck (_ b : Debouncer) : Bool :=
  b.pressed && !b.stuck && decide (stuckSamples ≤ b.time)

/-- BUTTON_SAMPLE: every debouncer sampled, each press handled (R122, R127), each button PRESSED for 20 s marked (R123).
DESIGN CHOICE (log entry 26): the presses of one sample are handled before its marks are made, and both in the order of
the buttons' numbers, which gives several BUTTON_STUCK of one sample their serials; the spec gives no order. -/
def sampleButtons (levels : List Bool) (s : State) : State :=
  let before := s.stp.buttons
  let after := sampleAll before levels
  let s := { s with stp.buttons := after, stp.levels := holdLevels s.stp.levels levels, stp.sampleTicks := 0 }
  let s := (pickButtons isPress 1 before after).foldl (fun s n => pressButton n s) s
  (pickButtons isDueStuck 1 before after).foldl (fun s n => stickButton n s) s

/-- BUTTON_SAMPLE (R122). -/
def execButtonSample (levels : List Bool) (s : State) : Host.Outcome State Fault Refusal :=
  .next (sampleButtons levels s)

/-- BUTTON_STUCK (R123). -/
def execButtonStuck (n : Nat) (s : State) : Host.Outcome State Fault Refusal :=
  .next (stickButton n s)

/-! ### Passing and serving a stop (R130, R134, R135) -/

/-- The stop state after its window end (R130), and whether STOP_MISSED is raised. -/
def afterWindowEnd (t : Stop) (requested : Bool) : StopState × Bool :=
  match t.state with
  | .ahead =>
    match t.mode with
    | .always => (.missed, true)
    | .request => if requested then (.missed, true) else (.passed, false)
    | .pass => (.passed, false)
  | .served => (.served, false)
  | .missed => (.missed, false)
  | .passed => (.passed, false)

/-- A window end delivered (R130). The request record belongs to the target, so another stop has none. -/
def passWindowEnd (bank : BankName) (index : Nat) (s : State) : State :=
  match s.entryAt bank index with
  | none => s
  | some e =>
    match e.stop? with
    | none => s
    | some t =>
      let targeted := s.target.map Prod.fst == some index
      let r := afterWindowEnd t (targeted && s.stp.request.isSome)
      let s := s.modStop bank index fun t => { t with state := r.1 }
      let s := if r.2 then raiseNotice .stopMissed (.stop e.id) s else s
      if targeted then { s with stp.request := none } else s

/-- The access sides of a record's zones (R134). -/
def wishOf (r : Option RequestRecord) : Wish :=
  match r with
  | some r => { aL := r.zones.aL, aR := r.zones.aR }
  | none => { aL := false, aR := false }

/-- What a DOORS has served: the stop's id and its request record before serving cleared it (R133). -/
abbrev Served := Option (Nat × Option RequestRecord)

/-- The serving test of a DOORS (R134): the target served when p lies within its window, unless this dwell has served a
stop already. -/
def serveTarget (d : DwellRecord) (s : State) : DwellRecord × Served × State :=
  if d.served.isSome then (d, none, s)
  else
    match s.target, s.liveBank with
    | some (i, e), some b =>
      match e.stop? with
      | some t =>
        if s.inWindow e then
          ({ d with served := some (e.id, t.side), wish := wishOf s.stp.request },
            some (e.id, s.stp.request),
            { s.modStop b i fun t => { t with state := .served } with stp.request := none })
        else (d, none, s)
      | none => (d, none, s)
    | _, _ => (d, none, s)

/-- The ramp side of a served stop (R135). -/
def rampSide (side : Side) (wish : Wish) : RampSide :=
  match side with
  | .left => .left
  | .right => .right
  | .both => if wish.aL then .left else if wish.aR then .right else .left

/-- Whether a ramp side is among the permit sides. -/
def sidesHold (sides : Option Side) (r : RampSide) : Bool :=
  match sides, r with
  | some .both, _ => true
  | some .left, .left => true
  | some .right, .right => true
  | _, _ => false

/-- The ramp test of a DOORS (R135). -/
def grantRamp (ramp : Bool) (d : DwellRecord) : DwellRecord :=
  match d.served with
  | none => d
  | some (_, side) =>
    let wanted := d.wish.aL || d.wish.aR || ramp
    let r := rampSide side d.wish
    if d.ramp.isNone ∧ wanted = true ∧ sidesHold d.sides r = true then { d with ramp := some r } else d

/-- The union of permit sides (R133). -/
def unionSides (held : Option Side) (x : Side) : Side :=
  match held, x with
  | none, x => x
  | some .left, .left => .left
  | some .right, .right => .right
  | some _, _ => .both

/-- A DOORS grant on a dwell record: serving test, ramp test, and the reply (R133). -/
def grantDoors (ramp : Bool) (d : DwellRecord) (s : State) : State × Answer :=
  let r := serveTarget d s
  let d := grantRamp ramp r.1
  ({ r.2.2 with stp.dwell := .dwell, stp.dwellRecord := some d }, doneWith (.doors d.sides d.ramp r.2.1))

/-- A dwell record without permits or served stop. -/
def emptyDwell : DwellRecord :=
  { sides := none, ramp := none, served := none, wish := { aL := false, aR := false } }

/-- DOORS after its checks (R133): the first row that holds. -/
def handleDoors (sides ramp : Byte) (s : State) : State × Answer :=
  match readSides sides with
  | none => (s, plain .refused)
  | some x =>
    match s.stp.dwell with
    | .closing => (s, plain .refused)
    | .unsecured => (s, plain .refused)
    | .running =>
      if !s.standstill then (s, plain .refused)
      else if 0 < s.eff.e then (s, plain .refused)
      else grantDoors (readRamp ramp) { emptyDwell with sides := some x } s
    | .dwell =>
      if !s.standstill then (s, plain .refused)
      else if 0 < s.eff.e then (s, plain .refused)
      else
        let d := s.stp.dwellRecord.getD emptyDwell
        grantDoors (readRamp ramp) { d with sides := some (unionSides d.sides x) } s

/-- DOORS (R133). -/
def execDoors (p : Port) (tag sides ramp : Byte) (s : State) : Host.Outcome State Fault Refusal :=
  .next (takeOrder p tag (.doors sides ramp) (handleDoors sides ramp) s)

/-! ### Closing and securing (R137 to R141) -/

/-- CLOSE after its checks (R137). -/
def handleClose (s : State) : State × Answer :=
  match s.stp.dwell with
  | .dwell =>
    ({ s with
        stp.dwell := .closing
        stp.doorsLocked := false
        stp.dwellRecord := s.stp.dwellRecord.map fun d => { d with sides := none, ramp := none } },
      plain .done)
  | .running => (s, plain .refused)
  | .closing => (s, plain .refused)
  | .unsecured => (s, plain .refused)

/-- CLOSE (R137). -/
def execClose (p : Port) (tag : Byte) (s : State) : Host.Outcome State Fault Refusal :=
  .next (takeOrder p tag .close handleClose s)

/-- The return to RUNNING (R138, R139, R140): the dwell record cleared, settle DOORS 5 offered, and the departure bell
when it ends CLOSING. -/
def secureTram (bell : Bool) (s : State) : State :=
  let s := offerSettle .doors 5 { s with stp.dwell := .running, stp.dwellRecord := none }
  if bell then askSound 2 s else s

/-- A door or the ramp found not secure in RUNNING (R139, R140): UNSECURED at standstill with E at 0 or below, else
DOOR_OPEN_MOVING. -/
def foundOpen (s : State) : State :=
  if s.standstill = true ∧ s.eff.e ≤ 0 then { s with stp.dwell := .unsecured }
  else raiseStop .doorOpenMoving .none s

/-- CLOSING or UNSECURED ends when the doors are reported locked and the ramp is stowed (R138, R139, R140). -/
def endClosing (s : State) : State :=
  if s.stp.doorsLocked && s.stp.rampStowed then
    match s.stp.dwell with
    | .closing => secureTram true s
    | .unsecured => secureTram false s
    | .running => s
    | .dwell => s
  else s

/-- A door report (R139). -/
def doorReport (locked : Bool) (s : State) : State :=
  let s := { s with stp.doorsLocked := locked }
  if locked then endClosing s else if s.stp.dwell = .running then foundOpen s else s

/-- DOOR_STATE after its checks (R139). -/
def handleDoorState (locked : Byte) (s : State) : State × Answer :=
  (doorReport (readLocked locked) s, plain .done)

/-- DOOR_STATE (R139). -/
def execDoorState (p : Port) (tag locked : Byte) (s : State) : Host.Outcome State Fault Refusal :=
  .next (takeOrder p tag (.doorState locked) (handleDoorState locked) s)

/-- A change of the ramp-stowed input (R140); a command that repeats the level is no change. -/
def rampChange (stowed : Bool) (s : State) : State :=
  if s.stp.rampStowed = stowed then s
  else
    let s := { s with stp.rampStowed := stowed }
    if stowed then endClosing s else if s.stp.dwell = .running then foundOpen s else s

/-- RAMP_STOWED_CHANGE (R140). -/
def execRampStowedChange (stowed : Bool) (s : State) : Host.Outcome State Fault Refusal :=
  .next (rampChange stowed s)

/-- STP's check at a count close (R141). -/
def dwellCheck (s : State) : State :=
  if s.stp.dwell = .running ∧ s.standstill = true ∧ s.eff.e ≤ 0 ∧ (s.stp.doorsLocked && s.stp.rampStowed) = false then
    { s with stp.dwell := .unsecured }
  else s

end Sys2Proof.Machine
end

