-- ==== Sys2Proof/Machine/Path.lean ====
section
/-! DEFINITION. Path.lean: PTH (chapter 2): passage marks, the position, the plan banks and their orders, the switch, the
retirement, fixes and SHIFT; and the completion of SETTLE (R102), which follows from what they do to JCT. -/

namespace Sys2Proof.Machine

/-! ### SETTLE's completion (R102) -/

/-- A port's SETTLE completed with its list and MORE flag, if one is outstanding; the list is emptied (R102). -/
def completeSettle (s : State) (p : Port) : State :=
  let x := s.jct.lists.get p
  match (s.port p).slot with
  | none => s
  | some slot =>
    if slot.order = .settle then
      let s := completeSlot p .settle .done (fun _ => .settle x.ids x.more) s
      { s with jct.lists := s.jct.lists.set p { ids := [], more := false } }
    else s

/-- Every outstanding SETTLE completed once no entry of the live plan is ASKED or MOVING (R102). -/
def settleCheck (s : State) : State :=
  if s.exchangeInProgress then s else allPorts.foldl completeSettle s

/-! ### Passage marks (R35, R36) -/

/-- A passage mark of an entry at an index, or the plan end (R35). -/
inductive Mark where
  | request (index : Nat)
  | approach (index : Nat)
  | stand (index : Nat)
  | clearance (index : Nat)
  | window (index : Nat)
  | planEnd
  deriving DecidableEq, Repr

/-- The unfired marks of an entry with their distances, in the order of R36 within one entry. -/
def State.entryMarks (s : State) (i : Nat) (e : Entry) : List (Nat × Mark) :=
  match e.point with
  | .junction j =>
    (if j.firedRequest then [] else [(requestPoint e j, Mark.request i)])
      ++ (if j.firedApproach then [] else [(s.approachStart e, Mark.approach i)])
      ++ (if j.firedStand then [] else [(s.standStart e, Mark.stand i)])
      ++ (if j.firedClearance then [] else [(s.clearance e, Mark.clearance i)])
  | .stop t => if t.firedWindow then [] else [(s.windowEnd e, Mark.window i)]

/-- The unfired plan-end mark of the live plan (R35). -/
def State.endMarks (s : State) : List (Nat × Mark) :=
  if s.pth.firedEnd then []
  else
    match s.liveEntries.getLast? with
    | none => []
    | some x => [(s.planEndMark x.2, Mark.planEnd)]

/-- A mark put behind every mark of a distance not above its own. -/
def insertMark (x : Nat × Mark) : List (Nat × Mark) → List (Nat × Mark)
  | [] => [x]
  | y :: rest => if x.1 < y.1 then x :: y :: rest else y :: insertMark x rest

/-- Marks by increasing distance, those of one distance in the order given. -/
def sortMarks (l : List (Nat × Mark)) : List (Nat × Mark) :=
  l.foldl (fun acc x => insertMark x acc) []

/-- The marks that an increase of p fires, in the order they are delivered (R36). -/
def State.dueMarks (s : State) : List Mark :=
  let all := s.liveEntries.flatMap (fun x => s.entryMarks x.1 x.2) ++ s.endMarks
  (sortMarks (all.filter fun x => decide (x.1 ≤ s.pth.p))).map Prod.snd

/-- The plan-end mark fires (R38). -/
def firePlanEnd (s : State) : State :=
  raiseRestrict .planEnd .none { s with pth.firedEnd := true, pth.planEnd := true }

/-- One mark fired: its flag set, then delivered to its recipient (R36). -/
def fireMark (bank : BankName) (s : State) (m : Mark) : State :=
  match m with
  | .request i => passRequestPoint bank i (s.modJunction bank i fun j => { j with firedRequest := true })
  | .approach i => passApproach bank i (s.modJunction bank i fun j => { j with firedApproach := true })
  | .stand i => s.modJunction bank i fun j => { j with firedStand := true }
  | .clearance i => passClearance bank i (s.modJunction bank i fun j => { j with firedClearance := true })
  | .window i => passWindowEnd bank i (s.modStop bank i fun t => { t with firedWindow := true })
  | .planEnd => firePlanEnd s

/-- Every unfired mark at or below p fired, one after another (R36). -/
def fireMarks (s : State) : State :=
  match s.liveBank with
  | none => s
  | some b => s.dueMarks.foldl (fireMark b) s

/-- The position moved to p: an increase fires marks, a decrease fires none (R36, R37). -/
def moveTo (p : Nat) (s : State) : State :=
  let t := { s with pth.p := p }
  if s.pth.p < p then fireMarks t else t

/-- The position that an advance of the record's n_ref gives, with the remainder (R34). -/
def advanced (s : State) : Nat × Nat :=
  let n := s.axl.record.nRef
  let travel := n.natAbs * s.cfgNat .pulseDist + s.pth.rem
  if n = 0 then (s.pth.p, s.pth.rem)
  else if 0 < n then (min maxPosition (s.pth.p + travel / 10000), travel % 10000)
  else (s.pth.p - travel / 10000, travel % 10000)

/-- PTH's advance at a count close (R34). -/
def advancePosition (s : State) : State :=
  let x := advanced s
  moveTo x.1 { s with pth.rem := x.2 }

/-- A FIX delivered to PTH (R39). -/
def takeFix (junction : Nat) (s : State) : State :=
  if s.liveBank.isNone then s
  else
    match s.liveJunction junction with
    | none => raiseNotice .fixRejected (.junction junction) s
    | some (_, _, e) =>
      if 1500 < ((e.distance : Int) - s.pth.p).natAbs then raiseNotice .fixRejected (.junction junction) s
      else startTransmitter s (settleCheck (moveTo e.distance { s with pth.rem := 0 }))

/-- SHIFT after its checks (R40). -/
def handleShift (correction : BitVec 16) (s : State) : State × Answer :=
  let c := signed16 correction
  if c < -5000 ∨ 5000 < c then (s, plain .refused)
  else if !s.standstill then (s, plain .refused)
  else
    let p := (clampInt 0 maxPosition (s.pth.p + c)).toNat
    (startTransmitter s (settleCheck (moveTo p s)), doneWith (.shift p))

/-- SHIFT (R40). -/
def execShift (port : Port) (tag : Byte) (correction : BitVec 16) (s : State) : Host.Outcome State Fault Refusal :=
  .next (takeOrder port tag (.shift correction) (handleShift correction) s)

/-! ### The switch (R28 to R30) -/

/-- An entry at a switch-in against p (R29, R88, R124): passed silently when it lies below p, else set up with the marks
at or below p fired. -/
def State.switchedEntry (s : State) (e : Entry) : Entry :=
  let behind := decide (e.distance < s.pth.p)
  let fired := fun (d : Nat) => behind || decide (d ≤ s.pth.p)
  match e.point with
  | .junction j =>
    let j' : Junction :=
      { switchedJunction behind j with
        firedRequest := fired (requestPoint e j)
        firedApproach := fired (s.approachStart e)
        firedStand := fired (s.standStart e)
        firedClearance := fired (s.clearance e) }
    { e with point := .junction j' }
  | .stop t =>
    let t' : Stop := { t with state := if behind then .passed else .ahead, firedWindow := fired (s.windowEnd e) }
    { e with point := .stop t' }

/-- The indices of a bank whose request points a switch-in delivers at once (R29): junctions not passed silently whose
request point is at or below p, in index order. -/
def State.requestsAtOnce (s : State) (b : BankName) : List Nat :=
  (s.bank b).entries.filterMap fun x =>
    match x.2.junction? with
    | none => none
    | some j =>
      if s.pth.p ≤ x.2.distance ∧ requestPoint x.2 j ≤ s.pth.p then some x.1 else none

/-- The banks turned at a switch (R28): the standby bank LIVE, the former live bank STALE and the standby bank from then
on; p kept where a live plan existed, else 0. -/
def turnBanks (s : State) : State :=
  let b := s.pth.standby
  let hadLive := s.liveBank.isSome
  let other := s.bank (otherBank b)
  let s := s.setBank b { s.bank b with state := .live }
  let s := s.setBank (otherBank b) { other with state := if hadLive then .stale else other.state }
  { s with
    pth.standby := otherBank b
    pth.p := if hadLive then s.pth.p else 0
    pth.rem := if hadLive then s.pth.rem else 0
    pth.planEnd := false
    pth.firedEnd := false
    pth.pendingSwitch := false }

/-- The fired flags and dynamic parts of the bank switched in, its request points at or below p delivered, and its plan
end if that lies at or below p (R29). -/
def setUpPlan (b : BankName) (s : State) : State :=
  let atOnce := s.requestsAtOnce b
  let s := s.setBank b { s.bank b with slots := (s.bank b).slots.map (Option.map s.switchedEntry) }
  let s := atOnce.foldl (fun s i => passRequestPoint b i s) s
  if s.endMarks.any (fun x => decide (x.1 ≤ s.pth.p)) then firePlanEnd s else s

/-- The request record offered to the new plan (R30): kept when the new target has the old target's stop id, else dropped
with REQUEST_DROPPED. -/
def carryRequest (oldTarget : Option Nat) (s : State) : State :=
  match s.stp.request, oldTarget with
  | some _, some id =>
    if s.target.map (fun x => x.2.id) = some id then s
    else raiseNotice .requestDropped (.stop id) { s with stp.request := none }
  | _, _ => s

/-- A plan switch (R28, R29, R30). -/
def switchPlans (s : State) : State :=
  let oldTarget := s.target.map fun x => x.2.id
  let b := s.pth.standby
  carryRequest oldTarget (setUpPlan b (turnBanks s))

/-- A pending switch taking place (R27): PLAN_SWITCH completes with DONE. -/
def completeSwitch (s : State) : State :=
  completePlan .planSwitch .done (switchPlans s)

/-- The switch conditions examined at a count close (R27). -/
def examineSwitch (s : State) : State :=
  if s.pth.pendingSwitch = true ∧ s.standstill = true ∧ s.junctionActive = false
      ∧ (s.stp.dwell = .running ∨ s.stp.dwell = .dwell) then
    completeSwitch s
  else s

/-- The request record dropped at a retirement (R131), with the old target's id. -/
def dropRequest (oldTarget : Option Nat) (s : State) : State :=
  match s.stp.request, oldTarget with
  | some _, some id => raiseNotice .requestDropped (.stop id) { s with stp.request := none }
  | some _, none => { s with stp.request := none }
  | none, _ => s

/-- The live plan retired at a change of live end (R32, R104, R131); a pending switch then takes place (R27). -/
def retirePlan (s : State) : State :=
  let oldTarget := s.target.map fun x => x.2.id
  let live := s.liveBank
  let s := match live with
    | none => s
    | some b => s.setBank b { s.bank b with state := .stale }
  let s := { s with pth.p := 0, pth.rem := 0, pth.planEnd := false }
  let s := match live with
    | none => s
    | some b => dropRequest oldTarget (retireJunctions b s)
  if s.pth.pendingSwitch then completeSwitch s else s

/-! ### Plan orders (R20 to R26, R31) -/

/-- PLAN_CLEAR after its checks (R20). -/
def handlePlanClear (tag : Byte) (s : State) : State × Answer :=
  if s.slotBusy .vehicle then (s, planAnswer .busy s)
  else
    let b := s.pth.standby
    let t := s.setBank b { s.bank b with state := .clearing }
    let t := enterSlot .vehicle tag .planClear { t with pth.opTicks := 0 }
    (t, acceptedWith (t.planResults b))

/-- PLAN_CLEAR (R20). -/
def execPlanClear (p : Port) (tag : Byte) (s : State) : Host.Outcome State Fault Refusal :=
  .next (takeOrder p tag .planClear (handlePlanClear tag) s)

/-- A bank's entries cleared and its state set (R18, R21). -/
def clearBank (b : BankName) (state : BankState) (s : State) : State :=
  forgetEntriesFrom b 0 (s.setBank b { state, slots := List.replicate Config.bankSize none })

/-- The completion of a clear (R21). -/
def completeClear (s : State) : State :=
  if (s.bank s.pth.standby).state = .clearing then
    completePlan .planClear .done (clearBank s.pth.standby .filling s)
  else s

/-- PLAN_CLEAR_COMPLETION (R21); with no clear in progress nothing completes. -/
def execPlanClearCompletion (s : State) : Host.Outcome State Fault Refusal :=
  .next (completeClear s)

/-- PLAN_PUT after its checks (R22). -/
def handlePlanPut (w : WaypointPayload) (s : State) : State × Answer :=
  let b := s.pth.standby
  if (s.bank b).state = .clearing then (s, planAnswer .busy s)
  else if (s.bank b).state ≠ .filling then (s, planAnswer .refused s)
  else if 63 < w.index.toNat then (s, planAnswer .refused s)
  else
    match readWaypoint w with
    | none => (s, planAnswer .refused s)
    | some e =>
      let i := w.index.toNat
      let t := forgetEntry b i (s.setBank b { s.bank b with slots := (s.bank b).slots.set i (some e) })
      (t, planAnswer .done t)

/-- PLAN_PUT (R22). -/
def execPlanPut (p : Port) (tag : Byte) (w : WaypointPayload) (s : State) : Host.Outcome State Fault Refusal :=
  .next (takeOrder p tag (.planPut w) (handlePlanPut w) s)

/-- PLAN_SEAL after its checks (R23). -/
def handlePlanSeal (tag count : Byte) (check : BitVec 16) (s : State) : State × Answer :=
  let b := s.pth.standby
  if s.slotBusy .vehicle then (s, planAnswer .busy s)
  else if (s.bank b).state ≠ .filling then (s, planAnswer .refused s)
  else if count.toNat = 0 ∨ 64 < count.toNat then (s, planAnswer .refused s)
  else
    let t := s.setBank b { s.bank b with state := .sealing count.toNat check.toNat }
    let t := enterSlot .vehicle tag .planSeal { t with pth.opTicks := 0 }
    (t, acceptedWith (t.planResults b))

/-- PLAN_SEAL (R23). -/
def execPlanSeal (p : Port) (tag count : Byte) (check : BitVec 16) (s : State) : Host.Outcome State Fault Refusal :=
  .next (takeOrder p tag (.planSeal count check) (handlePlanSeal tag count check) s)

/-- A mode's code (R25). -/
def modeCode : StopMode → Nat
  | .request => 0
  | .always => 1
  | .pass => 2

/-- A side's code (R25). -/
def sideCode : Side → Nat
  | .left => 0
  | .right => 1
  | .both => 2

/-- The five words of an entry in the ones-complement check (R25). -/
def checkWords (e : Entry) : List Nat :=
  match e.point with
  | .junction j =>
    [4096 + e.id, e.distance / 65536, e.distance % 65536, legCode j.leg * 4096 + j.lead / 10, j.limit]
  | .stop t =>
    [2 * 4096 + e.id, e.distance / 65536, e.distance % 65536, modeCode t.mode * 4096 + sideCode t.side * 1024, 0]

/-- One word into the ones-complement sum: a carry out of 16 bits is folded back (R25). -/
def addFolded (sum word : Nat) : Nat :=
  if 65535 < sum + word then sum + word - 65536 + 1 else sum + word

/-- The ones-complement check of entries (R25). -/
def planCheck (es : List Entry) : Nat :=
  (es.flatMap checkWords).foldl addFolded 0

/-- Whether two checks compare equal: 0 and 65535 do (R25). -/
def checksAgree (a b : Nat) : Bool :=
  a == b || (a == 0 && b == 65535) || (a == 65535 && b == 0)

/-- Whether distances never fall along the entries (R24, test 2). -/
def distancesRise : List Entry → Bool
  | [] => true
  | [_] => true
  | a :: b :: rest => decide (a.distance ≤ b.distance) && distancesRise (b :: rest)

/-- Whether two entries are of one kind with one id (R24, test 3). -/
def sameIdentity (a b : Entry) : Bool :=
  a.id == b.id && a.junction?.isSome == b.junction?.isSome

/-- Whether no two entries of one kind share an id (R24, test 3). -/
def idsUnique : List Entry → Bool
  | [] => true
  | a :: rest => !rest.any (sameIdentity a) && idsUnique rest

/-- The result of a seal: the first test that fails, or none (R24). -/
def sealResult (slots : List (Option Entry)) (count check : Nat) : Option BadReason :=
  let given := slots.take count
  let es := given.filterMap id
  if given.any Option.isNone then some .gap
  else if !distancesRise es then some .order
  else if !idsUnique es then some .duplicate
  else if !checksAgree (planCheck es) check then some .check
  else none

/-- The slots with those at an index and above cleared (R24). -/
def keepFirst : Nat → List (Option Entry) → List (Option Entry)
  | _, [] => []
  | 0, _ :: rest => none :: keepFirst 0 rest
  | n + 1, x :: rest => x :: keepFirst n rest

/-- The completion of a seal (R24). -/
def completeSeal (s : State) : State :=
  let b := s.pth.standby
  match (s.bank b).state with
  | .sealing count check =>
    let result := sealResult (s.bank b).slots count check
    let state := match result with
      | none => BankState.ready
      | some r => .bad r
    let t := s.setBank b { state, slots := keepFirst count (s.bank b).slots }
    completePlan .planSeal (if result.isNone then .done else .bad) (forgetEntriesFrom b count t)
  | _ => s

/-- PLAN_SEAL_COMPLETION (R24); with no seal in progress nothing completes. -/
def execPlanSealCompletion (s : State) : Host.Outcome State Fault Refusal :=
  .next (completeSeal s)

/-- PLAN_SWITCH after its checks (R26). -/
def handlePlanSwitch (tag : Byte) (s : State) : State × Answer :=
  let b := s.pth.standby
  if s.slotBusy .vehicle then (s, planAnswer .busy s)
  else if (s.bank b).state ≠ .ready then (s, planAnswer .refused s)
  else if s.liveBank.isNone then
    let t := startTransmitter s (settleCheck (switchPlans s))
    (t, doneWith (t.planResults b))
  else
    let t := enterSlot .vehicle tag .planSwitch { s with pth.pendingSwitch := true }
    (t, acceptedWith (t.planResults b))

/-- PLAN_SWITCH (R26). -/
def execPlanSwitch (p : Port) (tag : Byte) (s : State) : Host.Outcome State Fault Refusal :=
  .next (takeOrder p tag .planSwitch (handlePlanSwitch tag) s)

/-- PLAN_WITHDRAW after its checks (R31). -/
def handlePlanWithdraw (s : State) : State × Answer :=
  if s.pth.pendingSwitch then
    let t := completePlan .planSwitch .withdrawn { s with pth.pendingSwitch := false }
    (t, planAnswer .done t)
  else (s, planAnswer .refused s)

/-- PLAN_WITHDRAW (R31). -/
def execPlanWithdraw (p : Port) (tag : Byte) (s : State) : Host.Outcome State Fault Refusal :=
  .next (takeOrder p tag .planWithdraw handlePlanWithdraw s)

/-! ### What PTH reports (R41) -/

/-- Whether an entry is a junction that is not PASSED (R41). -/
def isNext (e : Entry) : Bool :=
  match e.junction? with
  | none => false
  | some j => j.state != .passed

/-- The next junction as the picture shows it (R41). -/
def State.nextJunction (s : State) : Option NextJunction :=
  (s.liveEntries.find? fun x => isNext x.2).bind fun x =>
    x.2.junction?.map fun j => { id := x.2.id, state := j.state, ahead := (x.2.distance : Int) - s.pth.p }

/-- The target stop as the picture shows it (R125). -/
def State.targetView (s : State) : Option TargetStop :=
  s.target.map fun x =>
    { id := x.2.id, requested := s.stp.request.isSome, ahead := (x.2.distance : Int) - s.pth.p }

end Sys2Proof.Machine
end

