-- ==== Sys2Proof/Machine/Authority.lean ====
section
/-! DEFINITION. Authority.lean: AUT (chapter 1): keys, claims, the handover window, forced release, the silence and
vigilance watches, and the driver's orders RETRY, OVERRIDE and ACK. -/

namespace Sys2Proof.Machine

/-! ### The end of live authority (R3, R5, R11, R17) -/

/-- The live end n offers authority (R3, R5, R10): OFFERED_n, the handover window opens at HANDOVER_TIME in force, the
silence and vigilance timers stop, the lever sample record is reset (R62), manual sounding is let go (R154). -/
def offerAuthority (cab : CabEnd) (s : State) : State :=
  let s := { s with
    aut.authority := .offered cab
    aut.keyLost := false
    aut.handover := .start (s.cfgNat .handoverTime * ticksPerSecond)
    aut.silence := .stopped
    aut.vigilance := .stopped }
  forceLetGo (resetLever s)

/-- Authority taken away (R11, R17): VACANT, every timer of AUT stopped, the lever sample record reset (R62). -/
def vacate (s : State) : State :=
  resetLever { s with
    aut.authority := .vacant
    aut.keyLost := false
    aut.handover := .stopped
    aut.silence := .stopped
    aut.vigilance := .stopped }

/-! ### KEY (R3 to R6) -/

/-- A change of an end's key to OFF or ON, the key state set already (R3): its effect on authority. -/
def keyEffect (cab : CabEnd) (on : Bool) (s : State) : State :=
  if s.liveEnd = some cab then
    if on then { s with aut.keyLost := false }
    else if s.standstill then offerAuthority cab s
    else raiseStop .keyOffMoving (.cab cab) { s with aut.keyLost := true }
  else s

/-- A key report (R3): one that repeats the key state held changes nothing. -/
def reportKey (cab : CabEnd) (on : Bool) (s : State) : State :=
  if s.aut.keys.get cab = on then s
  else keyEffect cab on { s with aut.keys := s.aut.keys.set cab on }

/-- KEY after its checks (R3, R202). -/
def handleKey (p : Port) (state : Byte) (s : State) : State × Answer :=
  match readKey state, deskEnd p with
  | some on, some cab => (reportKey cab on s, plain .done)
  | _, _ => (s, plain .refused)

/-- KEY (R3). -/
def execKey (p : Port) (tag state : Byte) (s : State) : Host.Outcome State Fault Refusal :=
  .next (takeOrder p tag (.key state) (handleKey p state) s)

/-! ### CLAIM (R7 to R9) -/

/-- AUT's own part of a grant (R8, R12, R14). -/
def grantedAut (cab : CabEnd) (x : Aut) : Aut :=
  { x with
    authority := .live cab
    keyLost := false
    handover := .stopped
    silence := .start silenceLimit
    gripHeld := false
    vigilance := .stopped
    lastLive := some cab }

/-- Authority granted to an end (R8): AUT's part, the lever record reset (R62), settle AUTHORITY 10 offered, and on a
change of live end the plan retired. -/
def grantAuthority (cab : CabEnd) (s : State) : State :=
  let changed := s.directionEnd != cab
  let s := offerSettle .authority 10 (resetLever { s with aut := grantedAut cab s.aut })
  if changed then startTransmitter s (settleCheck (retirePlan s)) else s

/-- CLAIM after its checks (R7): the first row that holds. -/
def handleClaim (p : Port) (s : State) : State × Answer :=
  match deskEnd p with
  | none => (s, plain .refused)
  | some cab =>
    if s.liveEnd = some cab then (s, plain .done)
    else if s.liveEnd.isSome then (s, plain .refused)
    else if !s.aut.keys.get cab then (s, plain .refused)
    else if !s.standstill then (s, plain .refused)
    else (grantAuthority cab s, plain .done)

/-- CLAIM (R7). -/
def execClaim (p : Port) (tag : Byte) (s : State) : Host.Outcome State Fault Refusal :=
  .next (takeOrder p tag .claim (handleClaim p) s)

/-! ### FORCE_RELEASE (R11) -/

/-- FORCE_RELEASE after its checks (R11), with manual sounding let go (R154). -/
def handleForceRelease (s : State) : State × Answer :=
  if !s.standstill then (s, plain .refused)
  else if s.aut.authority = .vacant then (s, plain .done)
  else (forceLetGo (vacate s), plain .done)

/-- FORCE_RELEASE (R11). -/
def execForceRelease (p : Port) (tag : Byte) (s : State) : Host.Outcome State Fault Refusal :=
  .next (takeOrder p tag .forceRelease handleForceRelease s)

/-! ### Timers (R10, R13, R15) -/

/-- The handover timer's expiry (R10); it runs in OFFERED_n alone. -/
def handoverExpired (s : State) : State :=
  match s.aut.authority with
  | .offered _ => { s with aut.authority := .vacant, aut.handover := .stopped }
  | .live _ => s
  | .vacant => s

/-- HANDOVER_TIMER_EXPIRY (R10). -/
def execHandoverTimerExpiry (s : State) : Host.Outcome State Fault Refusal :=
  .next (handoverExpired s)

/-- The silence timer's expiry (R13): it stays stopped, DESK_SILENT is raised with the key of the live end, the vigilance
timer is suspended (R15), and manual sounding is let go (R154). A stopped timer does not expire. -/
def silenceExpired (s : State) : State :=
  match s.liveEnd with
  | none => s
  | some cab =>
    if s.aut.silence.isRunning then
      forceLetGo (reviseVigilance (raiseStop .deskSilent (.cab cab) { s with aut.silence := .stopped }))
    else s

/-- SILENCE_TIMER_EXPIRY (R13). -/
def execSilenceTimerExpiry (s : State) : Host.Outcome State Fault Refusal :=
  .next (silenceExpired s)

/-- The vigilance timer's expiry (R15); a timer that does not run does not expire. -/
def vigilanceExpired (s : State) : State :=
  match s.aut.vigilance, s.liveEnd with
  | .running _, some cab => raiseStop .vigilance (.cab cab) { s with aut.vigilance := .expired }
  | _, _ => s

/-- VIGILANCE_TIMER_EXPIRY (R15). -/
def execVigilanceTimerExpiry (s : State) : Host.Outcome State Fault Refusal :=
  .next (vigilanceExpired s)

/-- The end of the key-lost condition at standstill (R5). -/
def endKeyLost (s : State) : State :=
  match s.liveEnd with
  | some cab => if s.aut.keyLost = true ∧ s.standstill = true then offerAuthority cab s else s
  | none => s

/-- AUT at a count close (R5, R14). -/
def autClose (s : State) : State :=
  reviseVigilance (endKeyLost s)

/-! ### ACK (R173) -/

/-- ACK after its checks (R173, R174). -/
def handleAck (s : State) : State × Answer :=
  if !s.standstill then (s, plain .refused)
  else if s.eff.d ≠ -1000 then (s, plain .refused)
  else if !s.flt.latch then (s, doneWith (.ack 0))
  else (acknowledge s, doneWith (.ack s.openStops))

/-- ACK (R173). -/
def execAck (p : Port) (tag : Byte) (s : State) : Host.Outcome State Fault Refusal :=
  .next (takeOrder p tag .ack handleAck s)

/-! ### RETRY and OVERRIDE (R96, R97) -/

/-- Whether a junction was refused or lost. -/
def isGivenUp : JunctionState → Bool
  | .refused _ => true
  | .lost => true
  | _ => false

/-- RETRY after its checks (R96). -/
def handleRetry (junction : BitVec 16) (s : State) : State × Answer :=
  match s.liveJunction junction.toNat with
  | none => (s, plain .refused)
  | some (b, i, e) =>
    match e.junction? with
    | none => (s, plain .refused)
    | some j =>
      if !isGivenUp j.state then (s, plain .refused)
      else if e.distance ≤ s.pth.p then (s, plain .refused)
      else
        let t := s.modJunction b i fun j => { j with state := .waiting }
        (startTransmitter s (makeOffer (makeRequest e.id j s) b i t), plain .done)

/-- RETRY (R96). -/
def execRetry (p : Port) (tag : Byte) (junction : BitVec 16) (s : State) : Host.Outcome State Fault Refusal :=
  .next (takeOrder p tag (.retry junction) (handleRetry junction) s)

/-- OVERRIDE after its checks (R97). -/
def handleOverride (junction : BitVec 16) (s : State) : State × Answer :=
  match s.liveJunction junction.toNat with
  | none => (s, plain .refused)
  | some (b, i, e) =>
    match e.junction? with
    | none => (s, plain .refused)
    | some j =>
      if !isGivenUp j.state then (s, plain .refused)
      else (s.modJunction b i fun j => { j with state := .onSight, timer := .stopped }, plain .done)

/-- OVERRIDE (R97). -/
def execOverride (p : Port) (tag : Byte) (junction : BitVec 16) (s : State) : Host.Outcome State Fault Refusal :=
  .next (takeOrder p tag (.override junction) (handleOverride junction) s)

end Sys2Proof.Machine
end

