-- ==== Sys2Proof/Machine/Inbound.lean ====
section
/-! DEFINITION. Inbound.lean: the inbound side of LOOP (R114, R116 to R118, R203) and the delivery of telegrams to JCT and
PTH. -/

namespace Sys2Proof.Machine

/-- The tests of R117 on an inbound telegram that bears a tram id: junction id not 0, tram id TRAM_ID in force and not
0. -/
def State.admits (s : State) (tram : BitVec 14) (junction : BitVec 12) : Bool :=
  junction != 0 && tram != 0 && decide ((tram.toNat : Int) = s.cfg .tramId)

/-- An ACCEPT received (R93, R117). -/
def receiveAccept (tram : BitVec 14) (junction : BitVec 12) (number : BitVec 4) (s : State) : State :=
  if s.admits tram junction then takeAccept junction.toNat number s else s

/-- A SET received (R93, R117); an outstanding SETTLE may complete (R102). -/
def receiveSet (tram : BitVec 14) (junction : BitVec 12) (number : BitVec 4) (s : State) : State :=
  if s.admits tram junction then settleCheck (takeSet junction.toNat number s) else s

/-- A REFUSE received (R93, R117); an outstanding SETTLE may complete (R102). -/
def receiveRefuse (tram : BitVec 14) (junction : BitVec 12) (number : BitVec 4) (qualifier : BitVec 3)
    (s : State) : State :=
  match readReason qualifier.toNat with
  | none => s
  | some reason =>
    if s.admits tram junction then settleCheck (takeRefuse junction.toNat number reason s) else s

/-- A LOCK_LOST received (R95, R117). -/
def receiveLockLost (tram : BitVec 14) (junction : BitVec 12) (number : BitVec 4) (s : State) : State :=
  if s.admits tram junction then takeLockLost junction.toNat number s else s

/-- A FIX received (R39, R117): it bears no tram id. -/
def receiveFix (junction : BitVec 12) (s : State) : State :=
  if junction = 0 then s else takeFix junction.toNat s

/-- A frame whose check holds, delivered by its kind; a kind that is not inbound is discarded (R117, R118, R203). -/
def deliver (f : InboundFields) (s : State) : State :=
  match f.kind with
  | 4 => receiveAccept f.tram f.junction f.number s
  | 5 => receiveSet f.tram f.junction f.number s
  | 6 => receiveRefuse f.tram f.junction f.number f.qualifier s
  | 7 => receiveLockLost f.tram f.junction f.number s
  | 8 => receiveFix f.junction s
  | _ => s

/-- A frame of 80 bits examined (R117) and delivered (R118). -/
def examineFrame (bits : List Bool) (s : State) : State :=
  match readFrame bits with
  | none => s
  | some f => deliver f s

/-- ACCEPT (R93). -/
def execAccept (tram : BitVec 14) (junction : BitVec 12) (number : BitVec 4) (s : State) :
    Host.Outcome State Fault Refusal :=
  .next (receiveAccept tram junction number s)

/-- SET (R93). -/
def execSetLocked (tram : BitVec 14) (junction : BitVec 12) (number : BitVec 4) (s : State) :
    Host.Outcome State Fault Refusal :=
  .next (receiveSet tram junction number s)

/-- REFUSE (R93). -/
def execRefuse (tram : BitVec 14) (junction : BitVec 12) (number : BitVec 4) (reason : BitVec 3) (s : State) :
    Host.Outcome State Fault Refusal :=
  .next (receiveRefuse tram junction number reason s)

/-- LOCK_LOST (R95). -/
def execLockLost (tram : BitVec 14) (junction : BitVec 12) (number : BitVec 4) (s : State) :
    Host.Outcome State Fault Refusal :=
  .next (receiveLockLost tram junction number s)

/-- FIX (R39). -/
def execFix (junction : BitVec 12) (s : State) : Host.Outcome State Fault Refusal :=
  .next (receiveFix junction s)

/-- EXCHANGE_TIMER_EXPIRY (R94); an outstanding SETTLE may complete (R102). -/
def execExchangeTimerExpiry (junction : Nat) (s : State) : Host.Outcome State Fault Refusal :=
  .next (settleCheck (exchangeExpired junction s))

/-! ### The decoder (R114, R116) -/

/-- The decoder put in a state, the inbound data level and the stillness count as given. -/
def setDecoder (d : Decoder) (data : Bool) (s : State) : State :=
  { s with loop.decoder := d, loop.inboundData := data, loop.still := 0 }

/-- The inbound data level after an event of the lines (R114). -/
def levelAfter (c : LineChange) (data : Bool) : Bool :=
  match c with
  | .data => !data
  | .strobe => data
  | .both => !data

/-- A bit taken after the bits of a frame so far (R116): the start pattern is tested bit by bit, and at 80 bits the frame
is examined, then SKIP. -/
def takeBit (bits : List Bool) (bit : Bool) (s : State) : State :=
  let taken := bits ++ [bit]
  if bits.length < 16 ∧ (startPattern[bits.length]? = some bit) = False then setDecoder .skip bit s
  else if taken.length < frameBitCount then setDecoder (.receiving taken) bit s
  else examineFrame taken (setDecoder .skip bit s)

/-- An event of the inbound lines (R116): a change of one line takes a bit, the data level after the change; a change of
both is a coding error. -/
def lineChange (c : LineChange) (s : State) : State :=
  let data := levelAfter c s.loop.inboundData
  match c with
  | .both => setDecoder .skip data s
  | .data =>
    match s.loop.decoder with
    | .quiet => takeBit [] data s
    | .receiving bits => takeBit bits data s
    | .skip => setDecoder .skip data s
  | .strobe =>
    match s.loop.decoder with
    | .quiet => takeBit [] data s
    | .receiving bits => takeBit bits data s
    | .skip => setDecoder .skip data s

/-- INBOUND_LINE_CHANGE (R116). -/
def execInboundLineChange (c : LineChange) (s : State) : Host.Outcome State Fault Refusal :=
  .next (lineChange c s)

/-- The decoder after 2 bit times without a change (R116): a frame being received is discarded as cut off. -/
def cutOffDecoder (x : Loop) : Loop :=
  match x.decoder with
  | .receiving _ => { x with decoder := .skip }
  | .quiet => x
  | .skip => x

/-- INBOUND_FRAME_CUT_OFF (R116). -/
def execInboundFrameCutOff (s : State) : Host.Outcome State Fault Refusal :=
  .next { s with loop := cutOffDecoder s.loop }

/-- The decoder after 8 bit times without a change (R116): SKIP becomes QUIET. -/
def endInboundGap (x : Loop) : Loop :=
  match x.decoder with
  | .skip => { x with decoder := .quiet }
  | .quiet => x
  | .receiving _ => x

/-- INBOUND_GAP_END (R116). -/
def execInboundGapEnd (s : State) : Host.Outcome State Fault Refusal :=
  .next { s with loop := endInboundGap s.loop }

end Sys2Proof.Machine
end

