-- ==== Sys2Proof/Machine/Axle.lean ====
section
/-! DEFINITION. Axle.lean: AXL (chapter 3): counting, axle speeds, the implausibility test, the reference speed, slip,
adhesion and sand, and the CUT order. -/

namespace Sys2Proof.Machine

/-! ### Counting (R43 to R45) -/

/-- One pulse (R43): +1 when the direction input is active, −1 when it is not. -/
def countPulse (active : Bool) (x : AxleState) : AxleState :=
  { x with net := x.net + if active then 1 else -1 }

/-- AXLE_PULSE (R43). -/
def execAxlePulse (a : Axle) (active : Bool) (s : State) : Host.Outcome State Fault Refusal :=
  .next { s with axl.axles := s.axl.axles.set a (countPulse active (s.axl.axles.get a)) }

/-- The period count of an axle's net count (R43). -/
def periodCount (net : Int) : Int :=
  clampInt (-255) 255 net

/-- A window with a newest count (R44). -/
def pushWindow (c : Int) (w : Window) : Window :=
  ⟨w.c1, w.c2, w.c3, w.c4, c⟩

/-- The sum of a window's five counts (R45). -/
def windowSum (w : Window) : Int :=
  w.c0 + w.c1 + w.c2 + w.c3 + w.c4

/-- An axle's speed from its window, re-signed to the direction end (R45). -/
def axleSpeed (pulseDist : Int) (c : CabEnd) (w : Window) : Int :=
  resign c (roundDiv (windowSum w * pulseDist) 100)

/-- An axle at a count close: its period count enters the window, its net count starts at 0, its speed is computed (R43,
R44, R45). -/
def closeAxle (pulseDist : Int) (c : CabEnd) (x : AxleState) : AxleState :=
  let w := pushWindow (periodCount x.net) x.window
  { x with net := 0, window := w, speed := axleSpeed pulseDist c w }

/-! ### The implausibility test (R49) -/

/-- How many VALID axles show more than 2000 mm/s. -/
def fastAxles (t : PerAxle AxleState) : Nat :=
  t.list.countP fun x => x.2.mark == .valid && decide (2000 < x.2.speed.natAbs)

/-- Whether the implausibility test holds for an axle (R49). The axle itself is below 100 mm/s, so every fast axle is
another one. -/
def implausible (t : PerAxle AxleState) (x : AxleState) : Bool :=
  x.mark == .valid && decide (x.speed.natAbs < 100) && decide (2 ≤ fastAxles t)

/-- An axle after the test (R49): its run counter, and at 100 the mark FAULTY. -/
def testAxle (t : PerAxle AxleState) (x : AxleState) : AxleState :=
  if implausible t x then
    if x.run + 1 < 100 then { x with run := x.run + 1 } else { x with run := 0, mark := .faulty }
  else { x with run := 0 }

/-- The axles that the test marks FAULTY, lowest number first (R49). -/
def newlyFaulty (t : PerAxle AxleState) : List Axle :=
  t.list.filterMap fun x => if implausible t x.2 ∧ 100 ≤ x.2.run + 1 then some x.1 else none

/-! ### The reference (R50, R51) -/

/-- The first axle of the greatest `f`, the lowest number on a tie. -/
def bestAxle (f : AxleState → Int) : List (Axle × AxleState) → Option (Axle × AxleState)
  | [] => none
  | x :: rest =>
    match bestAxle f rest with
    | none => some x
    | some y => if f x.2 < f y.2 then some y else some x

/-- The VALID axles (R46). -/
def validAxles (t : PerAxle AxleState) : List (Axle × AxleState) :=
  t.list.filter fun x => x.2.mark == .valid

/-- The axles that are not CUT (R51). -/
def uncutAxles (t : PerAxle AxleState) : List (Axle × AxleState) :=
  t.list.filter fun x => x.2.mark != .cut

/-- The least of the speeds of axles. -/
def leastSpeed : List (Axle × AxleState) → Int
  | [] => 0
  | [x] => x.2.speed
  | x :: rest => min x.2.speed (leastSpeed rest)

/-- The greatest of the speeds of axles. -/
def greatestSpeed : List (Axle × AxleState) → Int
  | [] => 0
  | [x] => x.2.speed
  | x :: rest => max x.2.speed (greatestSpeed rest)

/-- The choice among axles of the smallest magnitude (power), the largest (brake), or the nearest the midpoint of the
extremes (R50), with v_dir. -/
def chooseReference (e : Int) (l : List (Axle × AxleState)) : Option (Axle × AxleState) × Int :=
  if 0 < e then
    let r := bestAxle (fun x => -(x.speed.natAbs : Int)) l
    (r, (r.map fun x => x.2.speed).getD 0)
  else if e < 0 then
    let r := bestAxle (fun x => (x.speed.natAbs : Int)) l
    (r, (r.map fun x => x.2.speed).getD 0)
  else
    let mid := truncDiv (leastSpeed l + greatestSpeed l) 2
    (bestAxle (fun x => -((x.speed - mid).natAbs : Int)) l, mid)

/-- Whether the UNKNOWN condition holds: fewer than two VALID axles (R51). -/
def unknownSpeed (t : PerAxle AxleState) : Bool :=
  decide ((validAxles t).length < 2)

/-- The reference axle and v_dir of a count close (R50, R51). -/
def reference (e : Int) (t : PerAxle AxleState) : Option (Axle × AxleState) × Int :=
  if unknownSpeed t then
    let r := bestAxle (fun x => (x.speed.natAbs : Int)) (uncutAxles t)
    (r, (r.map fun x => x.2.speed).getD 0)
  else chooseReference e (validAxles t)

/-- The reference speed record published (R52); the reference axle's newest count is its period count. -/
def speedRecord (e : Int) (c : CabEnd) (t : PerAxle AxleState) : SpeedRecord :=
  let r := reference e t
  { v := r.2.natAbs
    vDir := r.2
    standstill := decide (r.2.natAbs < 50)
    unknown := unknownSpeed t
    axle := r.1.map Prod.fst
    nRef := (r.1.map fun x => resign c x.2.window.c4).getD 0 }

/-! ### Slip and adhesion (R53 to R55) -/

/-- How far an axle departs from the reference magnitude: above it under power, below it under brake (R53). -/
def departure (e : Int) (v : Nat) (x : AxleState) : Int :=
  if 0 < e then (x.speed.natAbs : Int) - v else (v : Int) - x.speed.natAbs

/-- The slip threshold θ (R53). -/
def slipThreshold (v : Nat) : Int :=
  300 + ((v / 16 : Nat) : Int)

/-- Whether a bogie's own VALID axles show it slipping; none without a VALID axle (R53). -/
def ownSlip (e : Int) (v : Nat) (t : PerAxle AxleState) (b : Bogie) : Option Bool :=
  let own := (validAxles t).filter fun x => bogieOfAxle x.1 == b
  if own.isEmpty then none else some (own.any fun x => decide (slipThreshold v < departure e v x.2))

/-- The other bogie. -/
def otherBogie : Bogie → Bogie
  | .b1 => .b2
  | .b2 => .b1

/-- A bogie's slip result at a count close (R53, R54): none tested under the UNKNOWN condition, none slipping at E = 0,
both slipping when v under power has risen by more than 60 mm/s, and the other bogie's result without a VALID axle. -/
def slipResult (e : Int) (r : SpeedRecord) (prev : Nat) (t : PerAxle AxleState) (b : Bogie) : SlipResult :=
  if r.unknown then .untested
  else if e = 0 then .notSlipping
  else if 0 < e ∧ prev + 60 < r.v then .slipping
  else
    let own := (ownSlip e r.v t b).getD ((ownSlip e r.v t (otherBogie b)).getD false)
    if own then .slipping else .notSlipping

/-- A bogie with its slip result, its adhesion factor revised (R47, R55). -/
def reviseAdhesion (r : SlipResult) (x : BogieState) : BogieState :=
  let a :=
    if x.cut then x.adhesion
    else
      match r with
      | .slipping => max 250 (x.adhesion - 125)
      | .notSlipping => min 1000 (x.adhesion + 10)
      | .untested => x.adhesion
  { x with slip := r, adhesion := a }

/-! ### The count close, sand, CUT -/

/-- The sand output set by its rule (R56). -/
def updateSand (s : State) : State :=
  { s with axl.sand := s.sandCondition }

/-- AXL at a count close (R43 to R55). -/
def axlClose (s : State) : State :=
  let e := s.eff.e
  let c := s.directionEnd
  let counted := s.axl.axles.map (closeAxle (s.cfg .pulseDist) c)
  let tested := counted.map (testAxle counted)
  let prev := s.axl.record.v
  let r := speedRecord e c tested
  let begins := r.unknown && !s.axl.record.unknown
  let s := (newlyFaulty counted).foldl (fun s a => raiseRestrict .axleImplausible (.axle a) s) s
  let s := if begins then raiseRestrict .speedUnknown .none s else s
  { s with
    axl.axles := tested
    axl.record := r
    axl.prev := prev
    axl.bogie1 := reviseAdhesion (slipResult e r prev tested .b1) s.axl.bogie1
    axl.bogie2 := reviseAdhesion (slipResult e r prev tested .b2) s.axl.bogie2
    axl.periodTicks := 0 }

/-- An axle OUT or IN (R48). -/
def cutAxle (inService : Bool) (x : AxleState) : AxleState :=
  if inService then
    match x.mark with
    | .valid => x
    | .cut => { x with mark := .valid, run := 0 }
    | .faulty => { x with mark := .valid, run := 0 }
  else { x with mark := .cut, run := 0 }

/-- A bogie's code word set to 0 (R48, R80). -/
def zeroCode (b : Bogie) (s : State) : State :=
  match b with
  | .b1 => { s with eff.c1 := 0 }
  | .b2 => { s with eff.c2 := 0 }

/-- A bogie OUT or IN (R47, R48). -/
def cutBogie (inService : Bool) (b : Bogie) (s : State) : State :=
  if inService then { s with axl := s.axl.setBogie b { s.axl.bogie b with cut := false } }
  else zeroCode b { s with axl := s.axl.setBogie b { s.axl.bogie b with cut := true, adhesion := 1000 } }

/-- CUT after its checks (R48); the sand output follows (R56). -/
def handleCut (target number action : Byte) (s : State) : State × Answer :=
  match readCutTarget target number, readCutAction action with
  | some (.axle a), some inService =>
    ({ s with axl.axles := s.axl.axles.set a (cutAxle inService (s.axl.axles.get a)) }, plain .done)
  | some (.bogie b), some inService => (updateSand (cutBogie inService b s), plain .done)
  | _, _ => (s, plain .refused)

/-- CUT (R48). -/
def execCut (p : Port) (tag target number action : Byte) (s : State) : Host.Outcome State Fault Refusal :=
  .next (takeOrder p tag (.cut target number action) (handleCut target number action) s)

end Sys2Proof.Machine
end

