-- ==== Sys2Proof/Machine/Orders.lean ====
section
/-! DEFINITION. Orders.lean: the vehicle link's and the common orders that ORD, SND and FLT own: CONFIG, CONFIG_DONE,
SOUND, SOUND_BREAK, LEVEL, BELL, HORN, FAULT_TAKE, READ_FAULT, PREFACE, SETTLE, IDENT. -/

namespace Sys2Proof.Machine

/-! ### Configuration (R192 to R194) -/

/-- A value replaced by the nearer end of its parameter's range (R192). -/
def clampParam (q : Param) (v : Int) : Int :=
  clampInt (paramRange q).1 (paramRange q).2 v

/-- CONFIG after its checks (R192). -/
def handleConfig (parameter : Byte) (value : BitVec 16) (s : State) : State × Answer :=
  match readParam parameter with
  | none => (s, plain .refused)
  | some q =>
    if s.ord.run && !s.standstill then (s, plain .refused)
    else
      let given := signed16 value
      let stored := clampParam q given
      let status := if stored = given then Status.done else .clamped
      let answer : Answer := { status, stage := .final, results := .config parameter stored }
      if q = .tramId ∧ stored = 0 ∧ s.ord.run = true then (s, plain .refused)
      else if s.ord.run then ({ s with ord.waiting := s.ord.waiting.set q (some stored) }, answer)
      else ({ s with ord.config := s.ord.config.set q stored }, answer)

/-- CONFIG (R192). -/
def execConfig (p : Port) (tag parameter : Byte) (value : BitVec 16) (s : State) :
    Host.Outcome State Fault Refusal :=
  .next (takeOrder p tag (.config parameter value) (handleConfig parameter value) s)

/-- CONFIG_DONE after its checks (R194). -/
def handleConfigDone (s : State) : State × Answer :=
  if s.ord.run then (s, plain .done)
  else if s.cfg .tramId = 0 then (s, plain .refused)
  else ({ s with ord.run := true }, plain .done)

/-- CONFIG_DONE (R194). -/
def execConfigDone (p : Port) (tag : Byte) (s : State) : Host.Outcome State Fault Refusal :=
  .next (takeOrder p tag .configDone handleConfigDone s)

/-- Pending values come into force at a count close (R193). -/
def putConfigInForce (s : State) : State :=
  { s with ord.config := s.ord.config.overlay s.ord.waiting, ord.waiting := .noneWaiting }

/-! ### Sounders (R150, R156 to R158) -/

/-- BELL or HORN after its checks (R150). -/
def handleManual (c : Channel) (operand : Byte) (s : State) : State × Answer :=
  match readHold operand with
  | none => (s, plain .refused)
  | some true => (modChannel c (holdChannel c s.snd.night) s, plain .done)
  | some false => (modChannel c (letGoChannel c s.snd.night) s, plain .done)

/-- BELL (R150). -/
def execBell (p : Port) (tag operand : Byte) (s : State) : Host.Outcome State Fault Refusal :=
  .next (takeOrder p tag (.bell operand) (handleManual .bell operand) s)

/-- HORN (R150). -/
def execHorn (p : Port) (tag operand : Byte) (s : State) : Host.Outcome State Fault Refusal :=
  .next (takeOrder p tag (.horn operand) (handleManual .horn operand) s)

/-- SOUND after its checks (R156). -/
def handleSound (program : Byte) (s : State) : State × Answer :=
  let n := program.toNat
  if n < 1 ∨ 10 < n then (s, plain .refused)
  else
    let r := requestProgram n s
    (r.1, doneWith (.sound (programChannel n) r.2))

/-- SOUND (R156). -/
def execSound (p : Port) (tag program : Byte) (s : State) : Host.Outcome State Fault Refusal :=
  .next (takeOrder p tag (.sound program) (handleSound program) s)

/-- SOUND_BREAK after its checks (R157). -/
def handleSoundBreak (channel : Byte) (s : State) : State × Answer :=
  match readChannel channel with
  | none => (s, plain .refused)
  | some c => (modChannel c breakChannel s, plain .done)

/-- SOUND_BREAK (R157). -/
def execSoundBreak (p : Port) (tag channel : Byte) (s : State) : Host.Outcome State Fault Refusal :=
  .next (takeOrder p tag (.soundBreak channel) (handleSoundBreak channel) s)

/-- LEVEL after its checks (R158). -/
def handleLevel (level : Byte) (s : State) : State × Answer :=
  match readLevel level with
  | none => (s, plain .refused)
  | some night => ({ s with snd.night := night }, plain .done)

/-- LEVEL (R158). -/
def execLevel (p : Port) (tag level : Byte) (s : State) : Host.Outcome State Fault Refusal :=
  .next (takeOrder p tag (.level level) (handleLevel level) s)

/-! ### Fault records (R170, R171) -/

/-- FAULT_TAKE after its checks (R170). -/
def handleFaultTake (s : State) : State × Answer :=
  match s.flt.queue.find? mayRemove with
  | none => (s, doneWith (.fault none s.flt.queue.length))
  | some r =>
    let rest := s.flt.queue.eraseP mayRemove
    ({ s with flt.queue := rest }, doneWith (.fault (some r) rest.length))

/-- FAULT_TAKE (R170). -/
def execFaultTake (p : Port) (tag : Byte) (s : State) : Host.Outcome State Fault Refusal :=
  .next (takeOrder p tag .faultTake handleFaultTake s)

/-- READ_FAULT after its checks (R171). -/
def handleReadFault (position : Byte) (s : State) : State × Answer :=
  if 15 < position.toNat then (s, plain .refused)
  else (s, doneWith (.fault s.flt.queue[position.toNat]? s.flt.queue.length))

/-- READ_FAULT (R171). -/
def execReadFault (p : Port) (tag position : Byte) (s : State) : Host.Outcome State Fault Refusal :=
  .next (takeOrder p tag (.readFault position) (handleReadFault position) s)

/-! ### PREFACE, SETTLE, IDENT (R190, R102, R195) -/

/-- PREFACE after its checks (R190, R202). -/
def handlePreface (p : Port) (code first second third : Byte) (s : State) : State × Answer :=
  match readPreface code first second third with
  | none => (s, plain .refused)
  | some r => (modPort p (fun c => { c with preface := some r }) s, plain .done)

/-- PREFACE (R190). -/
def execPreface (p : Port) (tag code first second third : Byte) (s : State) : Host.Outcome State Fault Refusal :=
  .next (takeOrder p tag (.preface code first second third) (handlePreface p code first second third) s)

/-- SETTLE after its checks (R102). -/
def handleSettle (p : Port) (tag : Byte) (s : State) : State × Answer :=
  if s.slotBusy p then (s, plain .busy)
  else if s.exchangeInProgress then (enterSlot p tag .settle s, acceptedWith .none)
  else
    let x := s.jct.lists.get p
    ({ s with jct.lists := s.jct.lists.set p { ids := [], more := false } }, doneWith (.settle x.ids x.more))

/-- SETTLE (R102). -/
def execSettle (p : Port) (tag : Byte) (s : State) : Host.Outcome State Fault Refusal :=
  .next (takeOrder p tag .settle (handleSettle p tag) s)

/-- IDENT after its checks (R195). -/
def handleIdent (s : State) : State × Answer :=
  (s, doneWith .ident)

/-- IDENT (R195). -/
def execIdent (p : Port) (tag : Byte) (s : State) : Host.Outcome State Fault Refusal :=
  .next (takeOrder p tag .ident handleIdent s)

end Sys2Proof.Machine
end

