-- ==== Sys2Proof/Machine/Close.lean ====
section
/-! DEFINITION. Close.lean: the count close (R52) as the ten blocks take it one after another, and the picture (R196,
R197). -/

namespace Sys2Proof.Machine

/-- The picture of the state (R197). -/
def State.picture (s : State) : Picture :=
  { run := s.ord.run
    halt := s.flt.halt
    brakeLatch := s.flt.latch
    emergencyLatch := s.eff.latch
    authority := s.aut.authority
    e := s.eff.e
    c1 := s.eff.c1
    c2 := s.eff.c2
    v := s.axl.record.v
    cap := s.eff.cap
    settleCount := s.eff.settleCount
    settleReason := s.eff.settleReason
    p := s.pth.p
    junction := s.nextJunction
    target := s.targetView
    dwell := s.stp.dwell
    sides := s.permitSides
    ramp := s.rampPermit
    bell := sounderView s.snd.bell
    horn := sounderView s.snd.horn
    chime := sounderView s.snd.chime
    faults := s.flt.queue.length }

/-- A picture made for all three ports (R196). -/
def sendPicture (s : State) : State :=
  let f := OutFrame.picture s.picture
  pushFrame .vehicle f (pushFrame .end2 f (pushFrame .end1 f s))

/-- The picture count (R196): it rises at each count close; the fifth makes a picture and returns it to 0. -/
def pictureClose (s : State) : State :=
  if s.ord.pictureCount < 4 then { s with ord.pictureCount := s.ord.pictureCount + 1 }
  else sendPicture { s with ord.pictureCount := 0 }

/-- The count close as far as EFF's computation (R193, R52, R34, R5, R14, R141, R27, R102): pending configuration
values, AXL, PTH's position, AUT, STP's check, the pending switch, and an outstanding SETTLE. The telegrams taken on the
way let the transmitter begin (R111). -/
def closeBeforeEffort (s : State) : State :=
  startTransmitter s
    (settleCheck (examineSwitch (dwellCheck (autClose (advancePosition (axlClose (putConfigInForce s)))))))

/-- The count close (R52): the blocks up to EFF, EFF (R63), the sand output (R56), the picture (R196). -/
def countClose (s : State) : State :=
  pictureClose (updateSand (effClose (closeBeforeEffort s)))

/-- COUNT_CLOSE (R52). -/
def execCountClose (s : State) : Host.Outcome State Fault Refusal :=
  .next (countClose s)

end Sys2Proof.Machine
end

