-- ==== Sys2Proof/Machine/Reset.lean ====
section
/-! DEFINITION. Reset.lean: the cold reset (R200 with each block's reset rule) and RESTART (R198, R199). -/

namespace Sys2Proof.Machine

/-! ### Cold reset -/

/-- EFF after a cold reset with the emergency inputs' levels kept: they are wires (R85; log entry 2). -/
def effCold (x : Eff) : Eff :=
  { Eff.reset with inputs := ⟨{ active := x.inputs.one.active, capture := false },
      { active := x.inputs.two.active, capture := false }⟩ }

/-- LOOP after a cold reset with the inbound data level kept: it is a wire (R120; log entry 2). -/
def loopCold (x : Loop) : Loop :=
  { Loop.reset with inboundData := x.inboundData }

/-- STP after a cold reset with the levels of the buttons and of the ramp-stowed input kept: they are wires (R144; log
entry 2). -/
def stpCold (x : Stp) : Stp :=
  { Stp.reset with levels := x.levels, rampStowed := x.rampStowed }

/-- Every block at its cold-reset values, the wired inputs at their levels (R17, R42, R57, R85, R106, R120, R144, R160,
R179, R200). The model's own queue and clock are not the part's. -/
def coldValues (s : State) : State :=
  { State.reset with
    eff := effCold s.eff, loop := loopCold s.loop, stp := stpCold s.stp, pending := s.pending, clock := s.clock }

/-- The cold reset, with the first reading of the ramp-stowed input at its end (R140). -/
def coldReset (s : State) : State :=
  let t := coldValues s
  if t.stp.rampStowed then t else foundOpen t

/-- COLD_RESET (R200). -/
def execColdReset (s : State) : Host.Outcome State Fault Refusal :=
  .next (coldReset s)

/-! ### RESTART -/

/-- PTH at RESTART (R42): a clear leaves its bank EMPTY, a seal returns its bank to FILLING with its entries kept, a
pending switch is removed. -/
def pthRestart (s : State) : State :=
  let b := s.pth.standby
  let s := { s with pth.pendingSwitch := false }
  match (s.bank b).state with
  | .clearing => clearBank b .empty s
  | .sealing _ _ => s.setBank b { s.bank b with state := .filling }
  | _ => s

/-- AUT at RESTART (R17, R62): VACANT, the grip RELEASED, keys and last live end kept. -/
def autRestart (s : State) : State :=
  vacate { s with aut.gripHeld := false }

/-- The results of a deferred order that RESTART interrupts: a plan order's bank and its state now (R19); none for
SETTLE (R102). -/
def State.interruptedResults (s : State) (x : Slot) : Results :=
  match x.order with
  | .settle => .none
  | .planClear => s.planResults x.bank
  | .planSeal => s.planResults x.bank
  | .planSwitch => s.planResults x.bank

/-- The replies RESTART makes for a port's slot and queue (R198): the deferred order's completion, then the waiting
orders' in queue order, all INTERRUPTED. -/
def State.interruptedReplies (s : State) (c : PortContext) : List OutFrame :=
  (c.slot.toList.map fun x =>
      OutFrame.reply { tag := x.tag, code := deferredCode x.order, status := .interrupted, stage := .final,
                       results := s.interruptedResults x })
    ++ c.queue.map fun q =>
      OutFrame.reply (replyTo q.tag q.order
        { status := .interrupted, stage := .final, results := s.uncheckedResults q.order })

/-- A port at RESTART (R198): its deferred order and its waiting orders answered INTERRUPTED, slot, queue and preface
record empty. -/
def interruptPort (s : State) (p : Port) : State :=
  modPort p (fun c =>
    { c with
      queue := [], headTicks := 0, slot := none, preface := none
      outbound := c.outbound ++ s.interruptedReplies c }) s

/-- ORD at RESTART, on all three ports (R198). -/
def ordRestart (s : State) : State :=
  allPorts.foldl interruptPort s

/-- The restart of every block (R198, R199): PTH before ORD's completions and before JCT, LOOP before JCT, AUT before
EFF. AXL, STP and FLT keep their state (R57, R144, R180). -/
def restartBlocks (s : State) : State :=
  let s := ordRestart (pthRestart s)
  let s := effRestart (autRestart s)
  sndRestart (jctRestart s.loop.queue (loopRestart s))

/-- RESTART's reply, made before every other reply of the restart (R198). -/
def restartReply (tag : Byte) : Reply :=
  replyTo tag .restart (plain .done)

/-- RESTART after the checks of R184 (R198). -/
def handleRestart (p : Port) (tag : Byte) (s : State) : State :=
  if !s.standstill then pushReply p (replyTo tag .restart (plain .refused)) s
  else restartBlocks (pushReply p (restartReply tag) s)

/-- RESTART taken whole (R182, R184, R198). -/
def takeRestart (p : Port) (tag : Byte) (s : State) : State :=
  match consumed p tag .restart s with
  | none => s
  | some t =>
    match t.failedCheck p .restart (s.port p).preface with
    | some status => failOrder p tag .restart status t
    | none => handleRestart p tag t

/-- RESTART (R198). -/
def execRestart (p : Port) (tag : Byte) (s : State) : Host.Outcome State Fault Refusal :=
  .next (takeRestart p tag s)

end Sys2Proof.Machine
end

