-- ==== Sys2Proof/Machine/Dispatch.lean ====
section
/-! DEFINITION. Dispatch.lean: one arm per command. -/

namespace Sys2Proof.Machine

/-- The effect of a command on everything but the queue of waiting commands. -/
def exec (i : Instr) (s : State) : Host.Outcome State Fault Refusal :=
  match i with
  | .coldReset => Sys2Proof.Machine.execColdReset s
  | .axlePulse axle active => Sys2Proof.Machine.execAxlePulse axle active s
  | .countClose => Sys2Proof.Machine.execCountClose s
  | .emergencyInput cab active => Sys2Proof.Machine.execEmergencyInput cab active s
  | .buttonSample levels => Sys2Proof.Machine.execButtonSample levels s
  | .buttonStuck button => Sys2Proof.Machine.execButtonStuck button s
  | .rampStowedChange stowed => Sys2Proof.Machine.execRampStowedChange stowed s
  | .handoverTimerExpiry => Sys2Proof.Machine.execHandoverTimerExpiry s
  | .silenceTimerExpiry => Sys2Proof.Machine.execSilenceTimerExpiry s
  | .vigilanceTimerExpiry => Sys2Proof.Machine.execVigilanceTimerExpiry s
  | .exchangeTimerExpiry junction => Sys2Proof.Machine.execExchangeTimerExpiry junction s
  | .stepExpiry channel => Sys2Proof.Machine.execStepExpiry channel s
  | .bellStrokeEnd => Sys2Proof.Machine.execBellStrokeEnd s
  | .hornMinimum => Sys2Proof.Machine.execHornMinimum s
  | .gapEnd => Sys2Proof.Machine.execGapEnd s
  | .transmissionCompletion => Sys2Proof.Machine.execTransmissionCompletion s
  | .inboundFrameCutOff => Sys2Proof.Machine.execInboundFrameCutOff s
  | .inboundGapEnd => Sys2Proof.Machine.execInboundGapEnd s
  | .accept tram junction number => Sys2Proof.Machine.execAccept tram junction number s
  | .setLocked tram junction number => Sys2Proof.Machine.execSetLocked tram junction number s
  | .refuse tram junction number reason => Sys2Proof.Machine.execRefuse tram junction number reason s
  | .lockLost tram junction number => Sys2Proof.Machine.execLockLost tram junction number s
  | .fix junction => Sys2Proof.Machine.execFix junction s
  | .frameArrival port frame => Sys2Proof.Machine.execFrameArrival port frame s
  | .orderFrameCutOff port => Sys2Proof.Machine.execOrderFrameCutOff port s
  | .key port tag state => Sys2Proof.Machine.execKey port tag state s
  | .claim port tag => Sys2Proof.Machine.execClaim port tag s
  | .lever port tag l grip selector => Sys2Proof.Machine.execLever port tag l grip selector s
  | .ack port tag => Sys2Proof.Machine.execAck port tag s
  | .doors port tag sides ramp => Sys2Proof.Machine.execDoors port tag sides ramp s
  | .close port tag => Sys2Proof.Machine.execClose port tag s
  | .bell port tag operand => Sys2Proof.Machine.execBell port tag operand s
  | .horn port tag operand => Sys2Proof.Machine.execHorn port tag operand s
  | .retry port tag junction => Sys2Proof.Machine.execRetry port tag junction s
  | .override port tag junction => Sys2Proof.Machine.execOverride port tag junction s
  | .shift port tag correction => Sys2Proof.Machine.execShift port tag correction s
  | .config port tag parameter value => Sys2Proof.Machine.execConfig port tag parameter value s
  | .configDone port tag => Sys2Proof.Machine.execConfigDone port tag s
  | .planClear port tag => Sys2Proof.Machine.execPlanClear port tag s
  | .planClearCompletion => Sys2Proof.Machine.execPlanClearCompletion s
  | .planPut port tag waypoint => Sys2Proof.Machine.execPlanPut port tag waypoint s
  | .planSeal port tag count check => Sys2Proof.Machine.execPlanSeal port tag count check s
  | .planSealCompletion => Sys2Proof.Machine.execPlanSealCompletion s
  | .planSwitch port tag => Sys2Proof.Machine.execPlanSwitch port tag s
  | .planWithdraw port tag => Sys2Proof.Machine.execPlanWithdraw port tag s
  | .doorState port tag locked => Sys2Proof.Machine.execDoorState port tag locked s
  | .sound port tag program => Sys2Proof.Machine.execSound port tag program s
  | .soundBreak port tag channel => Sys2Proof.Machine.execSoundBreak port tag channel s
  | .level port tag level => Sys2Proof.Machine.execLevel port tag level s
  | .faultTake port tag => Sys2Proof.Machine.execFaultTake port tag s
  | .readFault port tag position => Sys2Proof.Machine.execReadFault port tag position s
  | .forceRelease port tag => Sys2Proof.Machine.execForceRelease port tag s
  | .cut port tag target number action => Sys2Proof.Machine.execCut port tag target number action s
  | .preface port tag code first second third => Sys2Proof.Machine.execPreface port tag code first second third s
  | .settle port tag => Sys2Proof.Machine.execSettle port tag s
  | .ident port tag => Sys2Proof.Machine.execIdent port tag s
  | .restart port tag => Sys2Proof.Machine.execRestart port tag s
  | .inboundLineChange change => Sys2Proof.Machine.execInboundLineChange change s
  | .outboundBitTime => Sys2Proof.Machine.execOutboundBitTime s
  | .orderLinkByteArrival port byte => Sys2Proof.Machine.execOrderLinkByteArrival port byte s
  | .outboundFrameSent port => Sys2Proof.Machine.execOutboundFrameSent port s

end Sys2Proof.Machine
end

