-- ==== Sys2Proof/Machine/Tick.lean ====
section
/-! DEFINITION. Tick.lean: the passing of one tick of time (one loop bit time, log entry 1). It is what step does on an
empty queue: the part's own timers advance, and the commands whose time has come are put in the queue (log entries 5 and
6). -/

namespace Sys2Proof.Machine

/-! ### What advances -/

/-- A running timer one tick on. -/
def Timer.advance : Timer → Timer
  | .stopped => .stopped
  | .running limit elapsed => .running limit (elapsed + 1)

/-- Whether a running timer has reached its limit. -/
def Timer.isDue : Timer → Bool
  | .stopped => false
  | .running limit elapsed => decide (limit ≤ elapsed)

/-- A running vigilance timer one tick on (R14). -/
def Vigilance.advance : Vigilance → Vigilance
  | .stopped => .stopped
  | .running elapsed => .running (elapsed + 1)
  | .expired => .expired

/-- Whether the vigilance timer has reached 2.5 s (R15). -/
def Vigilance.isDue : Vigilance → Bool
  | .stopped => false
  | .running elapsed => decide (vigilanceLimit ≤ elapsed)
  | .expired => false

/-- A channel one tick on (R148, R152, R153): the time left falls, the horn's sounded time rises to 300 ms. -/
def advanceChannel (x : ChannelRecord) : ChannelRecord :=
  match x.state with
  | .idle => x
  | .program n step left breakMark => { x with state := .program n step (left - 1) breakMark }
  | .stroke step left letGo => { x with state := .stroke step (left - 1) letGo }
  | .blast sounded letGo => { x with state := .blast (min hornMinimumTicks (sounded + 1)) letGo }

/-- LOOP one tick on: the gap (R111) and the stillness of the inbound lines (R116). -/
def advanceLoop (x : Loop) : Loop :=
  { x with
    transmitter := match x.transmitter with
      | .idle => .idle
      | .sending k => .sending k
      | .gap elapsed => .gap (elapsed + 1)
    still := min gapTicks (x.still + 1) }

/-- A port one tick on: the pause inside a frame being received (R201) and the head order's wait (R182). -/
def advancePort (c : PortContext) : PortContext :=
  { c with
    pause := if c.receiver = .hunting then 0 else c.pause + 1
    headTicks := if c.queue.isEmpty then 0 else c.headTicks + 1 }

/-- The exchange timers of the live plan one tick on (R91, R93). -/
def advanceExchanges (s : State) : State :=
  match s.liveBank with
  | none => s
  | some b =>
    s.setBank b { s.bank b with
      slots := (s.bank b).slots.map
        (Option.map (Entry.modJunction fun j => { j with timer := j.timer.advance })) }

/-- Everything that time alone moves, one tick on. -/
def advance (s : State) : State :=
  let s := advanceExchanges s
  { s with
    clock := s.clock + 1
    aut.handover := s.aut.handover.advance
    aut.silence := s.aut.silence.advance
    aut.vigilance := s.aut.vigilance.advance
    axl.periodTicks := s.axl.periodTicks + 1
    stp.sampleTicks := s.stp.sampleTicks + 1
    pth.opTicks := s.pth.opTicks + 1
    snd.bell := advanceChannel s.snd.bell
    snd.horn := advanceChannel s.snd.horn
    snd.chime := advanceChannel s.snd.chime
    loop := advanceLoop s.loop
    ord.ports := ⟨advancePort s.ord.ports.end1, advancePort s.ord.ports.end2, advancePort s.ord.ports.vehicle⟩ }

/-! ### What is due -/

/-- 2 ms at the head of a queue (R182). -/
def headLimit : Nat := 2 * ticksPerMs

/-- 40 ms of a clear (R21). -/
def clearLimit : Nat := 40 * ticksPerMs

/-- 10 ms of a seal (R24). -/
def sealLimit : Nat := 10 * ticksPerMs

/-- 10 ms between button samples (R122). -/
def sampleLimit : Nat := 10 * ticksPerMs

/-- 20 ms of a count period (R43). -/
def periodLimit : Nat := 20 * ticksPerMs

/-- The number by which Config's free values name a port. -/
def portNumber : Port → Nat
  | .end1 => 0
  | .end2 => 1
  | .vehicle => 2

/-- A command that is due, or none. -/
def dueWhen (b : Bool) (c : Instr) : List Instr :=
  if b then [c] else []

/-- The transmitter's event at a bit time: the next bit (R114), the completion (R113), the end of the gap (R111). -/
def dueTransmitter (x : Loop) : List Instr :=
  match x.transmitter with
  | .idle => []
  | .sending k => if k < frameBitCount then [.outboundBitTime] else [.transmissionCompletion]
  | .gap elapsed => dueWhen (decide (gapTicks ≤ elapsed)) .gapEnd

/-- The inbound decoder's event of time (R116). -/
def dueDecoder (x : Loop) : List Instr :=
  match x.decoder with
  | .quiet => []
  | .receiving _ => dueWhen (decide (2 ≤ x.still)) .inboundFrameCutOff
  | .skip => dueWhen (decide (gapTicks ≤ x.still)) .inboundGapEnd

/-- A channel's event of time (R148, R152, R153). -/
def dueChannel (c : Channel) (x : ChannelRecord) : List Instr :=
  match x.state with
  | .idle => []
  | .program _ _ left _ => dueWhen (left == 0) (.stepExpiry c)
  | .stroke step left _ => dueWhen (left == 0) (if step = 1 then .stepExpiry c else .bellStrokeEnd)
  | .blast sounded letGo => dueWhen (letGo && decide (hornMinimumTicks ≤ sounded)) .hornMinimum

/-- The exchange timers of the live plan that have reached their limits, in index order (R94). -/
def dueExchanges (s : State) : List Instr :=
  s.liveEntries.flatMap fun x =>
    match x.2.junction? with
    | none => []
    | some j => dueWhen j.timer.isDue (.exchangeTimerExpiry x.2.id)

/-- The completion of the clear or the seal in progress (R21, R24). -/
def dueOperation (s : State) : List Instr :=
  match (s.bank s.pth.standby).state with
  | .clearing => dueWhen (decide (clearLimit ≤ s.pth.opTicks) || Config.clearDone s.clock) .planClearCompletion
  | .sealing _ _ => dueWhen (decide (sealLimit ≤ s.pth.opTicks) || Config.sealDone s.clock) .planSealCompletion
  | _ => []

/-- A port's events of time: a cut-off frame (R201), the end of the frame being sent (R183), the taking of the head order
(R182). -/
def duePort (s : State) (p : Port) : List Instr :=
  let c := s.port p
  dueWhen (c.receiver != .hunting && decide (ticksPerMs < c.pause)) (.orderFrameCutOff p)
    ++ (match c.outbound with
        | [] => []
        | _ :: _ => dueWhen (Config.frameSent s.clock (portNumber p)) (.outboundFrameSent p))
    ++ (match c.queue with
        | [] => []
        | q :: _ =>
          dueWhen (decide (headLimit ≤ c.headTicks) || Config.orderTaken s.clock (portNumber p)) (takingCommand p q))

/-- AUT's timers that have reached their limits (R10, R13, R15). -/
def dueAuthority (s : State) : List Instr :=
  dueWhen s.aut.handover.isDue .handoverTimerExpiry ++ dueWhen s.aut.silence.isDue .silenceTimerExpiry
    ++ dueWhen s.aut.vigilance.isDue .vigilanceTimerExpiry

/-- The sounders' events of time. -/
def dueSounders (s : State) : List Instr :=
  dueChannel .bell s.snd.bell ++ dueChannel .horn s.snd.horn ++ dueChannel .chime s.snd.chime

/-- The two periodic events: the button sample (R122) and the count close (R43, R52). -/
def duePeriodic (s : State) : List Instr :=
  dueWhen (decide (sampleLimit ≤ s.stp.sampleTicks)) (.buttonSample s.stp.levels)
    ++ dueWhen (decide (periodLimit ≤ s.axl.periodTicks)) .countClose

/-- Every command whose time has come, in an order the spec leaves open (log entry 6). -/
def dueCommands (s : State) : List Instr :=
  dueTransmitter s.loop ++ dueDecoder s.loop ++ dueAuthority s ++ dueExchanges s ++ dueOperation s ++ dueSounders s
    ++ duePeriodic s ++ duePort s .end1 ++ duePort s .end2 ++ duePort s .vehicle

/-- One tick: time advances and the commands due join the queue (log entry 5). -/
def tick (s : State) : State :=
  let t := advance s
  { t with pending := t.pending ++ dueCommands t }

end Sys2Proof.Machine
end

