-- ==== Sys2Proof/Safety.lean ====
section
/-! DEFINITION. Safety.lean: the words the statements are made of: when an order passes the checks of R184, what its
taking and its reply leave, the frames a master or the wayside sends, what a completed SETTLE, an offering of due telegrams,
a RESTART, a plan switch and a raised fault leave, and the laws between fields that every step keeps. -/

namespace Sys2Proof.Machine

/-! ### Orders -/

/-- An order is at the head of its port's queue, or arrives at an empty queue (R182; log entry 3). -/
abbrev State.atHead (s : State) (p : Port) (tag : Byte) (o : Order) : Prop :=
  (s.port p).queue = [] ∨ (s.port p).queue.head? = some { tag, order := o }

/-- An order at the head of its port's queue that passes checks 1 to 5 of R184. -/
abbrev State.ready (s : State) (p : Port) (tag : Byte) (o : Order) : Prop :=
  s.atHead p tag o
    ∧ portAllows p o = true
    ∧ (s.ord.run = true ∨ admittedUnconfigured o = true)
    ∧ (s.flt.halt = false ∨ admittedInHalt o = true)
    ∧ (isProtected o = true → (s.port p).preface = some { code := codeByte o, payload := orderPayload o })
    ∧ (needsLiveEnd o = true → deskEnd p = none ∨ s.liveEnd = deskEnd p)

/-- The state once the head order of a port has left its queue and consumed the preface record (R182, R190). -/
def State.taken (s : State) (p : Port) : State :=
  s.setPort p { s.port p with
    queue := (s.port p).queue.tail
    headTicks := if (s.port p).queue = [] then (s.port p).headTicks else 0
    preface := none }

/-- The state with one more frame made for a port (R183). -/
def State.sent (s : State) (p : Port) (f : OutFrame) : State :=
  s.setPort p { s.port p with outbound := (s.port p).outbound ++ [f] }

/-- A FINAL reply to an order (R183). -/
def finalReply (tag : Byte) (o : Order) (status : Status) (results : Results) : OutFrame :=
  .reply { tag, code := codeByte o, status, stage := .final, results }

/-- The acceptance of a deferred order (R183). -/
def acceptance (tag : Byte) (o : Order) (results : Results) : OutFrame :=
  .reply { tag, code := codeByte o, status := .done, stage := .accepted, results }

/-- The completion of a deferred order of this code (R183, R189). -/
def completionReply (tag code : Byte) (status : Status) (results : Results) : OutFrame :=
  .reply { tag, code, status, stage := .final, results }

/-- Commands taken one after another. -/
def runCommands : List Instr → State → Host.Outcome State Fault Refusal
  | [], s => .next s
  | c :: cs, s =>
    match exec c s with
    | .next t => runCommands cs t
    | .fault r => .fault r
    | .refused r => .refused r

/-! ### Frames from outside -/

/-- The bytes after the start byte of the frame by which a master sends an order (R201, spec 11.1, 11.2). -/
def orderFrame (tag : Byte) (o : Order) : List Byte :=
  (envelope (tag :: codeByte o :: orderPayload o)).tail

/-- The field block of a wayside telegram, in the order sent (spec 11.7). -/
def waysideBlock (f : InboundFields) : List Bool :=
  lowBits 4 f.kind ++ lowBits 14 f.tram.toNat ++ lowBits 12 f.junction.toNat ++ lowBits 4 f.number.toNat
    ++ lowBits 3 f.qualifier.toNat ++ lowBits 11 0

/-- The 80 bits of a wayside telegram's frame, in the order sent (R115). -/
def waysideFrame (f : InboundFields) : List Bool :=
  startPattern ++ waysideBlock f ++ lowBits 16 (frameCheck (waysideBlock f)).toNat

/-- The line changes that carry bits, from the data level before them (R114). -/
def changesFor : Bool → List Bool → List LineChange
  | _, [] => []
  | level, bit :: rest => (if bit = level then LineChange.strobe else LineChange.data) :: changesFor bit rest

/-- The command a wayside telegram stands for; none for a kind that is not inbound (R108, spec 11.7). -/
def waysideCommand (f : InboundFields) : Option Instr :=
  if f.kind = 4 then some (.accept f.tram f.junction f.number)
  else if f.kind = 5 then some (.setLocked f.tram f.junction f.number)
  else if f.kind = 6 then some (.refuse f.tram f.junction f.number f.qualifier)
  else if f.kind = 7 then some (.lockLost f.tram f.junction f.number)
  else if f.kind = 8 then some (.fix f.junction)
  else none

/-! ### Junctions -/

/-- The live plan's junction with this id stands at this index of this bank with this dynamic part. -/
abbrev State.hasJunction (s : State) (id : Nat) (b : BankName) (i : Nat) (e : Entry) (j : Junction) : Prop :=
  s.liveJunction id = some (b, i, e) ∧ e.point = .junction j

/-- The state with one slot of a bank replaced. -/
def State.withSlot (s : State) (b : BankName) (i : Nat) (x : Option Entry) : State :=
  s.setBank b { s.bank b with slots := (s.bank b).slots.set i x }

/-- A port's SETTLE is outstanding (R102). -/
def State.settleOutstanding (s : State) (p : Port) : Bool :=
  match (s.port p).slot with
  | none => false
  | some x => x.order == .settle

/-- From `u` to `t` every outstanding SETTLE has completed with its port's list and MORE, the list emptied, unless an entry of
the live plan is ASKED or MOVING, and nothing else has changed (R102). -/
def settleCompleted (u t : State) : Prop :=
  ((∃ x ∈ u.liveEntries, ∃ j, x.2.point = .junction j ∧ (j.state = .asked ∨ j.state = .moving)) → t = u)
    ∧ ((∀ x ∈ u.liveEntries, ∀ j, x.2.point = .junction j → j.state ≠ .asked ∧ j.state ≠ .moving) →
      t = { u with jct.lists := t.jct.lists, ord.ports := t.ord.ports }
      ∧ ∀ p, (u.settleOutstanding p = false → t.port p = u.port p ∧ t.jct.lists.get p = u.jct.lists.get p)
          ∧ ∀ x, (u.port p).slot = some x → x.order = .settle →
              t.port p = { u.port p with
                slot := none
                outbound := (u.port p).outbound ++ [completionReply x.tag 28 .done
                  (.settle (u.jct.lists.get p).ids (u.jct.lists.get p).more)] }
              ∧ t.jct.lists.get p = { ids := [], more := false })

/-! ### Telegrams offered again (R90, R110) -/

/-- No entry has a telegram due (R90). -/
abbrev State.nothingDue (s : State) : Prop :=
  (s.bank .bankA).entries.all (fun x => (x.2.junction?.bind fun j => j.due.head?).isNone) = true
    ∧ (s.bank .bankB).entries.all (fun x => (x.2.junction?.bind fun j => j.due.head?).isNone) = true

/-- The heads of a bank's due lists that are REQUESTs (`true`), or CANCELs and RELEASEs (`false`), in index order, each as
LOOP would queue it (R90, R109). -/
def State.headsOf (s : State) (b : BankName) (requests : Bool) : List QueuedTelegram :=
  (s.bank b).entries.filterMap fun x => match x.2.point with
    | .junction j => (j.due.head?.filter fun m => isRequest m == requests).map fun m =>
        { telegram := m, bank := b, index := x.1, entryStands := true }
    | .stop _ => none

/-- The due heads in the order in which they are offered (R90): the CANCELs and RELEASEs of the standby bank, then those of the
other bank, then its REQUESTs if it is the live plan. -/
def State.dueHeads (s : State) : List QueuedTelegram :=
  s.headsOf s.pth.standby false ++ s.headsOf (otherBank s.pth.standby) false
    ++ if s.liveBank = none then [] else s.headsOf (otherBank s.pth.standby) true

/-- The heads that LOOP takes of those offered (R110): while it has a free place, each whose junction has no telegram
queued. -/
def takenHeads : List QueuedTelegram → List QueuedTelegram → List QueuedTelegram
  | _, [] => []
  | queue, q :: rest =>
    if queue.length < 8 ∧ ∀ r ∈ queue, r.telegram.junction ≠ q.telegram.junction then
      q :: takenHeads (queue ++ [q]) rest
    else takenHeads queue rest

/-- From `u` to `t` the due heads have been offered, none of them merging (R90): those taken stand at the queue's tail and
have left their due lists, a REQUEST's entry is ASKED with its number and a stopped timer (R89), and nothing else has
changed. -/
def offeredAgain (u t : State) : Prop :=
  ∀ l, l = takenHeads u.loop.queue u.dueHeads →
    t = { u with loop.queue := u.loop.queue ++ l, pth.bankA := t.pth.bankA, pth.bankB := t.pth.bankB }
      ∧ (∀ b, (t.bank b).state = (u.bank b).state)
      ∧ (∀ b i, (∀ q ∈ l, q.bank = b → q.index ≠ i) → t.entryAt b i = u.entryAt b i)
      ∧ ∀ q ∈ l, ∃ e j k, u.entryAt q.bank q.index = some e ∧ e.point = .junction j
          ∧ t.entryAt q.bank q.index = some { e with point := .junction k }
          ∧ k = if isRequest q.telegram = true then
              { j with due := j.due.tail, state := .asked, number := q.telegram.number, timer := .stopped }
            else { j with due := j.due.tail }

/-- The transmitter after an event that found the queue as `before` and left LOOP as `x` but for it (R111, R115): in IDLE it
has begun with the head telegram if the queue has ceased to be empty, and the first bit, a 1, is on the lines. -/
def transmitterBegun (before : List QueuedTelegram) (x y : Loop) : Prop :=
  y = if before = [] ∧ x.queue ≠ [] ∧ x.transmitter = .idle then
        { x with transmitter := .sending 1, data := true, strobe := x.strobe ^^ x.data }
      else x

/-- The CANCELs and RELEASEs of the entry at an index of a bank that an emptying of the queue discards, made again, the
newest first (R105, step 1). -/
def State.remade (s : State) (b : BankName) (i : Nat) : List Telegram :=
  ((s.loop.queue.filter fun q => !isRequest q.telegram && q.entryStands && q.bank == b && q.index == i).map fun q =>
    { q.telegram with tram := s.cfgNat .tramId }).reverse

/-- From `s` to `u` PTH has ended what it had in flight at RESTART (R42), and JCT has made its telegrams due (R105, steps 1 to
3), LOOP's queue being empty. A CLEARING standby bank is EMPTY and a SEALING one FILLING with its entries; the discarded
give-ups are due again at the head of their entries' lists; each live junction ASKED, MOVING or LOCKED is WAITING, its timer
stopped, with its own give-up and then a REQUEST with the next number due. -/
def restartMade (s u : State) : Prop :=
  u.loop.queue = []
    ∧ u.pth = { s.pth with pendingSwitch := false, bankA := u.pth.bankA, bankB := u.pth.bankB }
    ∧ (∀ b, (u.bank b).state = if b = s.pth.standby then
        match (s.bank b).state with
        | .clearing => .empty
        | .sealing _ _ => .filling
        | x => x
      else (s.bank b).state)
    ∧ ∀ b i,
        (b = s.pth.standby → (s.bank b).state = .clearing → u.entryAt b i = none)
          ∧ (b ≠ s.pth.standby ∨ (s.bank b).state ≠ .clearing →
              (s.entryAt b i = none → u.entryAt b i = none)
                ∧ ∀ e, s.entryAt b i = some e →
                    (∀ z, e.point = .stop z → u.entryAt b i = some e)
                      ∧ ∀ j k giveUp request, e.point = .junction j →
                        giveUp = Telegram.mk (if j.state = .locked then .release else .cancel) (s.cfgNat .tramId) e.id
                          j.number →
                        request = Telegram.mk (.request j.leg) (s.cfgNat .tramId) e.id (j.number + 1) →
                        k = (if s.liveBank = some b ∧ (j.state = .asked ∨ j.state = .moving ∨ j.state = .locked) then
                            { j with
                              state := .waiting, timer := .stopped
                              due := s.remade b i ++ j.due ++ [giveUp, request] }
                          else { j with due := s.remade b i ++ j.due }) →
                        u.entryAt b i = some { e with point := .junction k })

/-! ### The vigilance watch (R14, R15) -/

/-- The conditions under which the vigilance timer runs (R14): a live end, the grip RELEASED, |v| of 500 or more, and no
suspension. -/
def State.vigilanceRuns (s : State) : Prop :=
  s.liveEnd ≠ none ∧ s.aut.gripHeld = false ∧ 500 ≤ s.axl.record.v
    ∧ ∀ r ∈ s.flt.queue, r.kind = .deskSilent → r.acked ≠ some false

/-- In `t`, after an event that found the vigilance timer as `before`, it is stopped and cleared unless its conditions hold;
where they hold, it has started from zero if it stood stopped, and else goes on or stays expired (R14, R15). -/
def vigilanceKept (before : Vigilance) (t : State) : Prop :=
  (t.vigilanceRuns → t.aut.vigilance = if before = .stopped then .running 0 else before)
    ∧ (¬ t.vigilanceRuns → t.aut.vigilance = .stopped)

/-! ### Speed (R50, R51) -/

/-- An axle's speed s_i (R45). -/
def State.speedOf (s : State) (a : Axle) : Int :=
  (s.axl.axles.get a).speed

/-- An axle's mark (R46). -/
def State.markOf (s : State) (a : Axle) : AxleMark :=
  (s.axl.axles.get a).mark

/-- `a` has the least `f` of a group of axles, and the lowest number of those that tie (R50, R51). -/
def leastAxle (among : Axle → Prop) (f : Axle → Int) (a : Axle) : Prop :=
  among a ∧ (∀ b, among b → f a ≤ f b) ∧ ∀ b, among b → axleNumber b < axleNumber a → f a < f b

/-! ### Faults and sound requests -/

/-- `r` is the fault queue `q` with room for one record (R169): a queue of fewer than 16 stays; a full one has given up its
oldest NOTICE, else its oldest RESTRICT, else its oldest acknowledged STOP record. -/
def roomMade (q r : List FaultRecord) : Prop :=
  (q.length < 16 → r = q)
    ∧ ∀ a x b, q = a ++ x :: b → 16 ≤ q.length →
        (x.cls = .notice ∧ ∀ y ∈ a, y.cls ≠ .notice)
          ∨ (x.cls = .restrict ∧ (∀ y ∈ q, y.cls ≠ .notice) ∧ ∀ y ∈ a, y.cls ≠ .restrict)
          ∨ (x.acked ≠ some false ∧ (∀ y ∈ q, y.cls = .stop) ∧ ∀ y ∈ a, y.acked = some false) →
        r = a ++ b

/-- NOTICE and RESTRICT faults raised one after another at a position, without an order's tag: each is stored at the tail,
with the next serial, once room has been made; the latch and HALT stay (R162, R164, R165, R169). -/
def faultsRaised (p : Nat) : List (FaultKind × FaultClass × FaultKey) → Flt → Flt → Prop
  | [], f, g => g = f
  | x :: rest, f, g => ∃ room r, roomMade f.queue room
      ∧ (r.kind, r.cls, r.key) = x ∧ r.p = p ∧ r.tag = none ∧ r.count = 1 ∧ r.acked = none ∧ r.serial = f.serial
      ∧ faultsRaised p rest
          { f with queue := room ++ [r], serial := if f.serial = 65535 then 1 else f.serial + 1 } g

/-- What an automatic request for program `n` makes of its channel (R147, R149): MERGED with the running program or one
queued, QUEUED behind a sounding, STARTED at its first step on an IDLE channel, or DISCARDED with 4 queued. It is said
of a channel with none queued when IDLE, which every step keeps (queuesBounded). -/
def programAsked (c : Channel) (night : Bool) (n : Nat) (x y : ChannelRecord) : Prop :=
  (x.state = .idle → x.queue = []) →
    (∃ same : Prop, (same ↔ n ∈ x.queue ∨ ∃ step left, x.state = .program n step left false)
      ∧ (same → y = x)
      ∧ (¬ same → x.state ≠ .idle → y = if x.queue.length < 4 then { x with queue := x.queue ++ [n] } else x)
      ∧ (¬ same → x.state = .idle → ∀ tone time, (programSteps n)[0]? = some (tone, time) →
          y = { x with state := .program n 1 time false, tone := tone, full := (c == .horn || !night) }))

/-! ### Passage marks (R35, R36) -/

/-- A mark's place among those of one distance: its entry's index, then its place within the entry; the plan end has
none, as it comes last (R36). -/
def Mark.place : Mark → Option (Nat × Nat)
  | .request i => some (i, 0)
  | .approach i => some (i, 1)
  | .stand i => some (i, 2)
  | .clearance i => some (i, 3)
  | .window i => some (i, 0)
  | .planEnd => none

/-- One mark with its distance is delivered before another (R36). -/
def deliveredBefore (x y : Nat × Mark) : Prop :=
  x.1 < y.1 ∨ (x.1 = y.1 ∧
    match x.2.place, y.2.place with
    | some a, some b => a.1 < b.1 ∨ (a.1 = b.1 ∧ a.2 < b.2)
    | some _, none => True
    | none, _ => False)

/-- A mark of the plan in a bank has this distance and its fired flag clear (R35). -/
def State.unfiredMark (s : State) (b : BankName) (d : Nat) : Mark → Prop
  | .request i => ∃ e j, s.entryAt b i = some e ∧ e.point = .junction j ∧ j.firedRequest = false
      ∧ d = e.distance - j.lead
  | .approach i => ∃ e j, s.entryAt b i = some e ∧ e.point = .junction j ∧ j.firedApproach = false
      ∧ d = e.distance - s.cfgNat .approachLen
  | .stand i => ∃ e j, s.entryAt b i = some e ∧ e.point = .junction j ∧ j.firedStand = false
      ∧ d = e.distance - s.cfgNat .standLen
  | .clearance i => ∃ e j, s.entryAt b i = some e ∧ e.point = .junction j ∧ j.firedClearance = false
      ∧ d = min 16777215 (e.distance + s.cfgNat .tramLen)
  | .window i => ∃ e z, s.entryAt b i = some e ∧ e.point = .stop z ∧ z.firedWindow = false
      ∧ d = min 16777215 (e.distance + s.cfgNat .stopWindow)
  | .planEnd => s.pth.firedEnd = false ∧ ∃ i e, (s.bank b).entries.getLast? = some (i, e)
      ∧ d = min 16777215 (e.distance + s.cfgNat .tramLen)

/-- From the state `u`, whose p has just increased, to `v` every unfired mark of the live plan at or below p has been
fired, one after another in their order, and no other (R36). -/
def marksFired (b : BankName) (u v : State) : Prop :=
  ∃ l : List (Nat × Mark), l.Pairwise deliveredBefore
    ∧ (∀ d m, (d, m) ∈ l ↔ u.unfiredMark b d m ∧ d ≤ u.pth.p)
    ∧ v = l.foldl (fun s x => fireMark b s x.2) u

/-- The state at a count close as PTH examines the switch conditions: the configuration in force, AXL, PTH's advance with
its marks, AUT, and STP's check are done (R27, R52, R193). -/
def State.beforeSwitch (s : State) : State :=
  dwellCheck (autClose (advancePosition (axlClose (putConfigInForce s))))

/-! ### Switching plans (R28 to R30) -/

/-- A junction entry of the bank `b` at the index `i`, switched in at `t`'s position, LOOP having `before` queued as its
REQUEST is offered (R29, R88, R89). -/
def junctionSwitchedIn (t : State) (b : BankName) (i : Nat) (e : Entry) (j k : Junction) (l before : List QueuedTelegram) :
    Prop :=
  k = { j with
      state := k.state, number := k.number, due := k.due, timer := .stopped
      firedRequest := decide (e.distance < t.pth.p ∨ e.distance - j.lead ≤ t.pth.p)
      firedApproach := decide (e.distance < t.pth.p ∨ e.distance - t.cfgNat .approachLen ≤ t.pth.p)
      firedStand := decide (e.distance < t.pth.p ∨ e.distance - t.cfgNat .standLen ≤ t.pth.p)
      firedClearance :=
        decide (e.distance < t.pth.p ∨ min 16777215 (e.distance + t.cfgNat .tramLen) ≤ t.pth.p) }
    ∧ (e.distance < t.pth.p → k.state = .passed ∧ k.number = 0 ∧ k.due = [])
    ∧ (t.pth.p ≤ e.distance → t.pth.p < e.distance - j.lead → k.state = .waiting ∧ k.number = 0 ∧ k.due = [])
    ∧ (t.pth.p ≤ e.distance → e.distance - j.lead ≤ t.pth.p → ∀ m : Telegram,
        m = { kind := .request j.leg, tram := t.cfgNat .tramId, junction := e.id, number := 1 } →
        if before.length < 8 ∧ ∀ q ∈ before, q.telegram.junction ≠ e.id then
          k.state = .asked ∧ k.number = 1 ∧ k.due = []
            ∧ { telegram := m, bank := b, index := i, entryStands := true } ∈ l
        else k.state = .waiting ∧ k.number = 0 ∧ k.due = [m])

/-- From `s` to `t` a plan switch has taken place (R28, R29, R30). The standby bank is LIVE and the pointer turned, the
former live bank STALE with its entries unchanged; p and the remainder are kept, or 0 without a live plan; each entry is
set up against p; the REQUESTs due at once have been offered in index order, `l` being those that LOOP took; a plan end at
or below p sets the plan-end condition; and the request record is carried, or dropped with its NOTICE. -/
def switchMade (s t : State) : Prop :=
  (t.liveBank = some s.pth.standby ∧ t.pth.standby = otherBank s.pth.standby
      ∧ t.bank t.pth.standby = { s.bank t.pth.standby with
          state := if s.liveBank = none then (s.bank t.pth.standby).state else .stale }
      ∧ t.pth.p = (if s.liveBank = none then 0 else s.pth.p) ∧ t.pth.rem = (if s.liveBank = none then 0 else s.pth.rem)
      ∧ t.pth.pendingSwitch = false ∧ t.pth.firedEnd = t.pth.planEnd)
    ∧ (∃ l : List QueuedTelegram, t.loop.queue = s.loop.queue ++ l ∧ l.Pairwise (fun x y => x.index < y.index)
        ∧ (∀ q ∈ l, ∃ e j, s.entryAt s.pth.standby q.index = some e ∧ e.point = .junction j ∧ q.bank = s.pth.standby
            ∧ t.pth.p ≤ e.distance ∧ e.distance - j.lead ≤ t.pth.p)
        ∧ ∀ i, match s.entryAt s.pth.standby i with
            | none => t.entryAt s.pth.standby i = none
            | some e => ∃ e', t.entryAt s.pth.standby i = some e' ∧ e' = { e with point := e'.point } ∧
                match e.point with
                | .junction j => ∃ k, e'.point = .junction k
                    ∧ junctionSwitchedIn t s.pth.standby i e j k l (s.loop.queue ++ l.filter fun q => q.index < i)
                | .stop z => e'.point = .stop { z with
                    state := if e.distance < t.pth.p then .passed else .ahead
                    firedWindow := decide
                      (e.distance < t.pth.p ∨ min 16777215 (e.distance + t.cfgNat .stopWindow) ≤ t.pth.p) })
    ∧ (t.pth.planEnd = true ↔ ∃ i e, (s.bank s.pth.standby).entries.getLast? = some (i, e)
        ∧ min 16777215 (e.distance + t.cfgNat .tramLen) ≤ t.pth.p)
    ∧ (∃ dropped : List (FaultKind × FaultClass × FaultKey),
        t.stp = { s.stp with request := t.stp.request }
          ∧ (s.stp.request = none ∨ s.target = none → dropped = [] ∧ t.stp.request = s.stp.request)
          ∧ (∀ r x, s.stp.request = some r → s.target = some x →
              if t.target.map (fun y => y.2.id) = some x.2.id then dropped = [] ∧ t.stp.request = some r
              else dropped = [(.requestDropped, .notice, .stop x.2.id)] ∧ t.stp.request = none)
          ∧ faultsRaised t.pth.p ((if t.pth.planEnd = true then [(.planEnd, .restrict, .none)] else []) ++ dropped)
              s.flt t.flt)

/-! ### The zone cap (R100) -/

/-- A junction entry of the live plan contributes this value to the zone cap (R100). -/
def State.zoneValue (s : State) (x : Int) : Prop :=
  ∃ i e j, (i, e) ∈ s.liveEntries ∧ e.point = .junction j ∧ j.state ≠ .passed
    ∧ min (e.distance - s.cfgNat .approachLen) (e.distance - s.cfgNat .standLen) ≤ s.pth.p
    ∧ s.pth.p ≤ min 16777215 (e.distance + s.cfgNat .tramLen)
    ∧ x = (if j.state = .locked then (j.limit : Int)
        else if j.state = .onSight ∨ s.pth.p < e.distance - s.cfgNat .standLen then s.cfg .crawl
        else 0)

/-- The zone cap is the least contribution, or LINE_SPEED without one (R100). -/
def State.isZoneCap (s : State) (zone : Int) : Prop :=
  (∀ x, s.zoneValue x → zone ≤ x) ∧ (s.zoneValue zone ∨ ((∀ x, ¬ s.zoneValue x) ∧ zone = s.cfg .lineSpeed))

/-! ### Laws between fields -/

/-- A parameter's value lies in its range (R192). -/
abbrev inRange (q : Param) (v : Int) : Prop :=
  (paramRange q).1 ≤ v ∧ v ≤ (paramRange q).2

/-- Every parameter in force and every pending value lies in its range (R192). -/
def State.configInRange (s : State) : Prop :=
  ∀ q : Param, inRange q (s.ord.config.get q) ∧ ∀ v ∈ s.ord.waiting.get q, inRange q v

/-- The bounds on the queues and the lists: 8 orders a port (R182), 8 telegrams with no junction twice (R109), 8 ids
with none twice in a settle list (R101), 4 programs with none twice on a channel, of the ten there are (R146, R147); an
IDLE channel has none queued (R148). -/
def State.queuesBounded (s : State) : Prop :=
  (∀ p : Port, (s.port p).queue.length ≤ 8)
    ∧ s.loop.queue.length ≤ 8 ∧ (s.loop.queue.map fun q => q.telegram.junction).Nodup
    ∧ (∀ p : Port, (s.jct.lists.get p).ids.length ≤ 8 ∧ (s.jct.lists.get p).ids.Nodup)
    ∧ ∀ c : Channel, (s.snd.channel c).queue.length ≤ 4 ∧ (s.snd.channel c).queue.Nodup
        ∧ (∀ n ∈ (s.snd.channel c).queue, 1 ≤ n ∧ n ≤ 10)
        ∧ ((s.snd.channel c).state = .idle → (s.snd.channel c).queue = [])

/-- The kinds a STOP record can have (R163, R166). -/
def stopKinds : List FaultKind :=
  [.deskSilent, .vigilance, .keyOffMoving, .doorOpenMoving, .lockLost, .lockout]

/-- The fault queue as FLT keeps it: at most 16 records (R168); the unacknowledged STOP records are of different kinds
(R166), of the kinds of R163; STOP records alone carry the acknowledged field (R162); a LOCKOUT record stays
unacknowledged in HALT, and only there is there one (R176). -/
def State.faultsKept (s : State) : Prop :=
  s.flt.queue.length ≤ 16
    ∧ ((s.flt.queue.filter fun r => r.acked == some false).map FaultRecord.kind).Nodup
    ∧ (∀ r ∈ s.flt.queue, r.acked = some false → r.kind ∈ stopKinds)
    ∧ (∀ r ∈ s.flt.queue, r.cls = .stop ↔ r.acked.isSome = true)
    ∧ (∀ r ∈ s.flt.queue, r.kind = .lockout → r.acked = some false → s.flt.halt = true)

/-- The brake latch stands exactly while a STOP record is unacknowledged (R172), HALT stands with the latch (R176), and
before CONFIG_DONE there is no live end, no plan, no HALT, and no open STOP but DOOR_OPEN_MOVING (R186, R187). -/
def State.latchKept (s : State) : Prop :=
  (s.flt.latch = true ↔ ∃ r ∈ s.flt.queue, r.acked = some false)
    ∧ (s.flt.halt = true → s.flt.latch = true)
    ∧ (s.ord.run = false →
        s.aut.authority = .vacant ∧ (s.bank .bankA).state = .empty ∧ (s.bank .bankB).state = .empty
          ∧ s.pth.pendingSwitch = false ∧ s.flt.halt = false
          ∧ ∀ r ∈ s.flt.queue, r.acked = some false → r.kind = .doorOpenMoving)

/-- In HALT the tram is braked and without effort (R65, R176). -/
def State.lockedDown (s : State) : Prop :=
  s.flt.halt = true →
    s.eff.e = 0 ∧ s.eff.c1 = 0 ∧ s.eff.c2 = 0 ∧ s.eff.held = true ∧ s.eff.emergencyBrake = true

/-- While the dwell state is not RUNNING, the limited demand is not above 0 (R71, R143). -/
def State.dwellBraked (s : State) : Prop :=
  s.stp.dwell ≠ .running → s.eff.e ≤ 0

/-- AUT's fields agree with the authority state (R1, R10, R12, R14): the key-lost mark, the silence and the vigilance
timer only with a live end, the mark only with that end's key OFF, the handover timer exactly in OFFERED_n, and the last
live end the one that is live or has offered. -/
def State.authorityKept (s : State) : Prop :=
  (s.aut.keyLost = true → ∃ c, s.aut.authority = .live c ∧ s.aut.keys.get c = false)
    ∧ (s.aut.silence ≠ .stopped → s.liveEnd.isSome = true)
    ∧ (s.aut.vigilance ≠ .stopped → s.liveEnd.isSome = true)
    ∧ ((∃ c, s.aut.authority = .offered c) ↔ s.aut.handover ≠ .stopped)
    ∧ ∀ c, s.aut.authority = .live c ∨ s.aut.authority = .offered c → s.aut.lastLive = some c

end Sys2Proof.Machine
end

