-- ==== Sys2Proof/Certificates/Slice0/Obligations.lean ====
section
/-! DEFINITION. Obligations.lean: the statements for the provers. -/

open Sys2Proof Sys2Proof.Machine

/-! ### The machine -/

/-- The command at the front of the queue is the step, on the state with the queue's rest. -/
def Obligations.StepTakesTheFrontCommand : Prop :=
  ∀ (c : Instr) (rest : List Instr) (s : State), s.pending = c :: rest → step s = exec c { s with pending := rest }

/-- On an empty queue one tick passes (the model's choice, log entry 5): the clock rises, what no time moves stays, and
every command then waiting is one whose time the tick has brought. -/
def Obligations.AnEmptyQueueLetsOneTickPass : Prop :=
  ∀ s : State, s.pending = [] →
    ∃ t, step s = .next t ∧ t.clock = s.clock + 1 ∧ t.pending = dueCommands { t with pending := [] }
      ∧ t.eff = s.eff ∧ t.jct = s.jct ∧ t.flt = s.flt ∧ t.pth.p = s.pth.p ∧ t.axl.record = s.axl.record
      ∧ t.aut.authority = s.aut.authority ∧ t.aut.keys = s.aut.keys ∧ t.ord.config = s.ord.config
      ∧ t.loop.queue = s.loop.queue ∧ t.stp.request = s.stp.request ∧ t.stp.dwell = s.stp.dwell

/-! ### Cold reset (R17, R42, R57, R85, R106, R120, R144, R160, R179, R200) -/

/-- A cold reset sets every block to the values of its reset rule; the ramp-stowed input is read at its end (R140). What
the wires hold (emergency inputs, buttons, ramp, inbound data) is read, not set (log entry 2). -/
def Obligations.ColdResetSetsEveryBlock : Prop :=
  ∀ s : State, ∃ t, exec .coldReset s = .next t
    ∧ (t.aut.authority = .vacant ∧ t.aut.keys = ⟨false, false⟩ ∧ t.aut.keyLost = false ∧ t.aut.lastLive = none
        ∧ t.aut.gripHeld = false ∧ t.aut.handover = .stopped ∧ t.aut.silence = .stopped ∧ t.aut.vigilance = .stopped)
    ∧ ((∀ a, t.axl.axles.get a = { net := 0, window := ⟨0, 0, 0, 0, 0⟩, speed := 0, mark := .valid, run := 0 })
        ∧ (∀ b, t.axl.bogie b = { cut := false, adhesion := 1000, slip := .notSlipping })
        ∧ t.axl.record = { v := 0, vDir := 0, standstill := true, unknown := false, axle := none, nRef := 0 }
        ∧ t.axl.prev = 0 ∧ t.axl.sand = false)
    ∧ ((∀ b, (t.bank b).state = .empty ∧ (t.bank b).entries = []) ∧ t.pth.standby = .bankA ∧ t.liveBank = none
        ∧ t.pth.p = 0 ∧ t.pth.rem = 0 ∧ t.pth.planEnd = false ∧ t.pth.pendingSwitch = false)
    ∧ (t.eff.l = 0 ∧ t.eff.selector = .neutral ∧ t.eff.taken = .forward ∧ t.eff.d = 0 ∧ t.eff.e = 0 ∧ t.eff.c1 = 0
        ∧ t.eff.c2 = 0 ∧ t.eff.sense = .one ∧ t.eff.settleCount = 0 ∧ t.eff.settleReason = .none ∧ t.eff.held = true
        ∧ t.eff.runCounter = 0 ∧ t.eff.rollback = false ∧ t.eff.latch = false
        ∧ (∀ c, (t.eff.inputs.get c).capture = false ∧ (t.eff.inputs.get c).active = (s.eff.inputs.get c).active)
        ∧ t.eff.emergencyBrake = false ∧ t.eff.overspeed = false ∧ t.eff.cap = 1400)
    ∧ (∀ p, t.jct.lists.get p = { ids := [], more := false })
    ∧ (t.loop.queue = [] ∧ t.loop.transmitter = .idle ∧ t.loop.data = false ∧ t.loop.strobe = false
        ∧ t.loop.decoder = .skip)
    ∧ ((∀ d ∈ t.stp.buttons, d = { pressed := false, run := 0, time := 0, stuck := false })
        ∧ t.stp.buttons.length = 26 ∧ t.stp.request = none ∧ t.stp.dwellRecord = none ∧ t.stp.doorsLocked = true
        ∧ t.stp.rampStowed = s.stp.rampStowed
        ∧ t.stp.dwell = if s.stp.rampStowed = true then .running else .unsecured)
    ∧ ((∀ c, t.snd.channel c = { state := .idle, queue := [], tone := .off, full := true }) ∧ t.snd.night = false)
    ∧ (t.flt.queue = [] ∧ t.flt.latch = false ∧ t.flt.halt = false ∧ t.flt.serial = 1)
    ∧ (t.ord.run = false ∧ t.ord.pictureCount = 0 ∧ (∀ q, t.ord.waiting.get q = none)
        ∧ ∀ p, (t.port p).queue = [] ∧ (t.port p).slot = none ∧ (t.port p).preface = none
            ∧ (t.port p).receiver = .hunting ∧ (t.port p).outbound = [])
    ∧ [t.cfg .pulseDist, t.cfg .tramLen, t.cfg .tramId, t.cfg .trim, t.cfg .jerkUp, t.cfg .jerkDown, t.cfg .lineSpeed,
        t.cfg .crawl, t.cfg .approachLen, t.cfg .standLen, t.cfg .stopWindow, t.cfg .handoverTime]
      = [5000, 3200, 0, 0, 25, 50, 19400, 1400, 6000, 800, 500, 120]

/-! ### AXL (chapter 3) -/

/-- A pulse adds 1 to the axle's net count, or subtracts 1, by its direction input's level, and changes nothing else; at
the count close the net count, saturated to −255..+255, is the period count, and the next starts at 0 (R43). Both hold in
every operating state and in HALT, for every axle whatever its mark. -/
def Obligations.AxlePulseCountsOne : Prop :=
  (∀ (a : Axle) (active : Bool) (s : State), ∃ t, exec (.axlePulse a active) s = .next t
    ∧ (t.axl.axles.get a).net = (s.axl.axles.get a).net + (if active = true then 1 else -1)
    ∧ t.axl.axles.get a = { s.axl.axles.get a with net := (t.axl.axles.get a).net }
    ∧ (∀ b, b ≠ a → t.axl.axles.get b = s.axl.axles.get b)
    ∧ t = { s with axl.axles := t.axl.axles })
    ∧ ∀ (a : Axle) (s : State), ∃ t, exec .countClose s = .next t
        ∧ (t.axl.axles.get a).window.c4 = max (-255) (min 255 (s.axl.axles.get a).net)
        ∧ (t.axl.axles.get a).net = 0

/-- At a count close every axle's period count enters its window as the newest and the oldest leaves, whatever the axle's
mark (R44). -/
def Obligations.CountCloseMovesEveryWindow : Prop :=
  ∀ s : State, ∃ t, exec .countClose s = .next t ∧ ∀ a : Axle,
    (t.axl.axles.get a).window =
        ⟨(s.axl.axles.get a).window.c1, (s.axl.axles.get a).window.c2, (s.axl.axles.get a).window.c3,
          (s.axl.axles.get a).window.c4, max (-255) (min 255 (s.axl.axles.get a).net)⟩
      ∧ (t.axl.axles.get a).net = 0

/-- The axle speeds and the record of a count close (R45, R49 to R52). Each speed is the window sum by PULSE_DIST over 100,
halves away from zero, re-signed to the direction end. An axle's mark and run counter change by the implausibility test
alone. UNKNOWN is fewer than two VALID axles. Else v_dir is, among the VALID axles, the speed of smallest magnitude
with E above 0, that of largest with E below 0, the truncated midpoint of the extremes at E = 0 with the axle nearest it;
under UNKNOWN that of largest magnitude among all that are not CUT, and 0 without one; the lowest number on every tie. v is
the magnitude of v_dir, standstill v below 50, n_ref the reference axle's count, and the previous magnitude the v
replaced. -/
def Obligations.CountClosePublishesTheSpeed : Prop :=
  ∀ s : State, ∃ t, exec .countClose s = .next t
    ∧ (∀ a : Axle, ∀ n : Int,
        n = ((t.axl.axles.get a).window.c0 + (t.axl.axles.get a).window.c1 + (t.axl.axles.get a).window.c2
              + (t.axl.axles.get a).window.c3 + (t.axl.axles.get a).window.c4) * t.cfg .pulseDist →
          (t.axl.axles.get a).speed
            = (if s.directionEnd = .one then n.sign else -n.sign) * (((n.natAbs + 50) / 100 : Nat) : Int))
    ∧ (∀ a : Axle, ∀ test : Prop,
        (test ↔ s.markOf a = .valid ∧ (t.speedOf a).natAbs < 100
          ∧ 2 ≤ ([Axle.a1, .a2, .a3, .a4].filter fun b => s.markOf b = .valid ∧ 2000 < (t.speedOf b).natAbs).length) →
        (¬ test → t.markOf a = s.markOf a ∧ (t.axl.axles.get a).run = 0)
          ∧ (test → (s.axl.axles.get a).run + 1 < 100 →
              t.markOf a = .valid ∧ (t.axl.axles.get a).run = (s.axl.axles.get a).run + 1)
          ∧ (test → 100 ≤ (s.axl.axles.get a).run + 1 →
              t.markOf a = .faulty ∧ (t.axl.axles.get a).run = 0
                ∧ (t.flt.queue.length < 16 → ∃ r ∈ t.flt.queue, r.kind = .axleImplausible ∧ r.cls = .restrict
                    ∧ r.key = .axle a ∧ r.p = s.pth.p ∧ r.tag = none)))
    ∧ t.axl.record.v = t.axl.record.vDir.natAbs
    ∧ (t.axl.record.standstill = true ↔ t.axl.record.v < 50)
    ∧ (t.axl.record.unknown = true ↔ (t.axl.axles.list.filter fun x => x.2.mark = .valid).length < 2)
    ∧ (t.axl.record.unknown = true → s.axl.record.unknown = false → t.flt.queue.length < 16 →
        ∃ r ∈ t.flt.queue, r.kind = .speedUnknown ∧ r.cls = .restrict ∧ r.key = .none ∧ r.p = s.pth.p ∧ r.tag = none)
    ∧ (t.axl.record.unknown = false → 0 < s.eff.e → ∃ a, t.axl.record.axle = some a
        ∧ t.axl.record.vDir = t.speedOf a ∧ leastAxle (fun b => t.markOf b = .valid) (fun b => (t.speedOf b).natAbs) a)
    ∧ (t.axl.record.unknown = false → s.eff.e < 0 → ∃ a, t.axl.record.axle = some a
        ∧ t.axl.record.vDir = t.speedOf a ∧ leastAxle (fun b => t.markOf b = .valid) (fun b => -(t.speedOf b).natAbs) a)
    ∧ (t.axl.record.unknown = false → s.eff.e = 0 → ∃ a lo hi, t.axl.record.axle = some a
        ∧ leastAxle (fun b => t.markOf b = .valid) t.speedOf lo
        ∧ leastAxle (fun b => t.markOf b = .valid) (fun b => -t.speedOf b) hi
        ∧ t.axl.record.vDir = Int.tdiv (t.speedOf lo + t.speedOf hi) 2
        ∧ leastAxle (fun b => t.markOf b = .valid) (fun b => (t.speedOf b - t.axl.record.vDir).natAbs) a)
    ∧ (t.axl.record.unknown = true → (∃ a, t.markOf a ≠ .cut) → ∃ a, t.axl.record.axle = some a
        ∧ t.axl.record.vDir = t.speedOf a ∧ leastAxle (fun b => t.markOf b ≠ .cut) (fun b => -(t.speedOf b).natAbs) a)
    ∧ (t.axl.record.unknown = true → (∀ a, t.markOf a = .cut) →
        t.axl.record.axle = none ∧ t.axl.record.vDir = 0 ∧ t.axl.record.nRef = 0)
    ∧ (∀ a, t.axl.record.axle = some a →
        t.axl.record.nRef = (if s.directionEnd = .one then 1 else -1) * (t.axl.axles.get a).window.c4)
    ∧ t.axl.prev = s.axl.record.v

/-- When a bogie slips, and what its factor does (R53 to R55). Under UNKNOWN no test is made; at E = 0 neither slips; under
power with v risen by more than 60 both do. Else a bogie slips when one of its VALID axles departs from v by more than
300 + v div 16, above v under power and below it under brake; one without a VALID axle takes the other's result. Each IN
bogie's factor then falls by 125, to 250 at the lowest, rises by 10, to 1000 at the highest, or is held; a CUT bogie's
stays. -/
def Obligations.AdhesionFollowsSlip : Prop :=
  ∀ (s : State) (b : Bogie), ∃ t, exec .countClose s = .next t
    ∧ (t.axl.bogie b).cut = (s.axl.bogie b).cut
    ∧ (t.axl.record.unknown = true ↔ (t.axl.bogie b).slip = .untested)
    ∧ (t.axl.record.unknown = false → s.eff.e = 0 → (t.axl.bogie b).slip = .notSlipping)
    ∧ (t.axl.record.unknown = false → 0 < s.eff.e → s.axl.record.v + 60 < t.axl.record.v →
        (t.axl.bogie b).slip = .slipping)
    ∧ (t.axl.record.unknown = false → s.eff.e ≠ 0 → ¬ (0 < s.eff.e ∧ s.axl.record.v + 60 < t.axl.record.v) →
        ∀ c : Bogie, (∃ a, bogieOfAxle a = c ∧ t.markOf a = .valid) →
          c = b ∨ (∀ a, bogieOfAxle a = b → t.markOf a ≠ .valid) →
          ((t.axl.bogie b).slip = .slipping ↔ ∃ a, bogieOfAxle a = c ∧ t.markOf a = .valid
            ∧ ((300 + t.axl.record.v / 16 : Nat) : Int)
                < if 0 < s.eff.e then ((t.speedOf a).natAbs : Int) - t.axl.record.v
                  else (t.axl.record.v : Int) - (t.speedOf a).natAbs))
    ∧ (t.axl.bogie b).adhesion =
        if (s.axl.bogie b).cut = true then (s.axl.bogie b).adhesion
        else if (t.axl.bogie b).slip = .slipping then max 250 ((s.axl.bogie b).adhesion - 125)
        else if (t.axl.bogie b).slip = .notSlipping then min 1000 ((s.axl.bogie b).adhesion + 10)
        else (s.axl.bogie b).adhesion

/-- CUT takes an axle or a bogie out of service or puts it back (R48): nothing else changes but the sand output, which
follows a bogie's factor (R56). Another target or action (R202), an axle outside 1..4 and a bogie outside 1..2 are REFUSED. -/
def Obligations.CutTakesOutOfService : Prop :=
  ∀ (p : Port) (tag target number action : Byte) (s : State), s.ready p tag (.cut target number action) →
    (1 < target.toNat ∨ 1 < action.toNat ∨ (target = 0 ∧ (number = 0 ∨ 4 < number.toNat))
        ∨ (target = 1 ∧ (number = 0 ∨ 2 < number.toNat)) →
      exec (.cut p tag target number action) s
        = .next ((s.taken p).sent p (finalReply tag (.cut target number action) .refused .none)))
      ∧ (∀ a : Axle, target = 0 → number.toNat = axleNumber a → action = 0 →
        exec (.cut p tag target number action) s = .next
          (({ s.taken p with axl.axles := s.axl.axles.set a { s.axl.axles.get a with mark := .cut, run := 0 } }).sent p
            (finalReply tag (.cut target number action) .done .none)))
      ∧ (∀ a : Axle, target = 0 → number.toNat = axleNumber a → action = 1 →
        exec (.cut p tag target number action) s = .next
          ((if (s.axl.axles.get a).mark = .valid then s.taken p
            else { s.taken p with
              axl.axles := s.axl.axles.set a { s.axl.axles.get a with mark := .valid, run := 0 } }).sent p
            (finalReply tag (.cut target number action) .done .none)))
      ∧ (target = 1 → number = 1 → action = 0 → ∃ t, exec (.cut p tag target number action) s = .next t
          ∧ t = ({ s.taken p with axl := t.axl, eff.c1 := 0 }).sent p
              (finalReply tag (.cut target number action) .done .none)
          ∧ t.axl = { s.axl with bogie1.cut := true, bogie1.adhesion := 1000, sand := t.axl.sand }
          ∧ (t.axl.sand = true ↔ ((s.axl.bogie2.cut = false ∧ s.axl.bogie2.adhesion < 700) ∨ s.eff.latch = true)))
      ∧ (target = 1 → number = 2 → action = 0 → ∃ t, exec (.cut p tag target number action) s = .next t
          ∧ t = ({ s.taken p with axl := t.axl, eff.c2 := 0 }).sent p
              (finalReply tag (.cut target number action) .done .none)
          ∧ t.axl = { s.axl with bogie2.cut := true, bogie2.adhesion := 1000, sand := t.axl.sand }
          ∧ (t.axl.sand = true ↔ ((s.axl.bogie1.cut = false ∧ s.axl.bogie1.adhesion < 700) ∨ s.eff.latch = true)))
      ∧ (target = 1 → number = 1 → action = 1 → ∃ t, exec (.cut p tag target number action) s = .next t
          ∧ t = ({ s.taken p with axl := t.axl }).sent p (finalReply tag (.cut target number action) .done .none)
          ∧ t.axl = { s.axl with bogie1.cut := false, sand := t.axl.sand })
      ∧ (target = 1 → number = 2 → action = 1 → ∃ t, exec (.cut p tag target number action) s = .next t
          ∧ t = ({ s.taken p with axl := t.axl }).sent p (finalReply tag (.cut target number action) .done .none)
          ∧ t.axl = { s.axl with bogie2.cut := false, sand := t.axl.sand })

/-! ### PTH (chapter 2) -/

/-- A count close moves p by the pulses of the reference axle (R34): the magnitude of the travel and the remainder give
whole centimetres forward or backward, saturated, and the rest is the new remainder. An increase of p fires the marks of
the live plan at or below it, in their order (R36); any other move fires none (R37). `v` is the state as the switch
conditions are examined; without a pending switch nothing after that moves PTH or LOOP but that an idle transmitter then
begins with what the marks have queued (R111; that it begins after the last of them is the model's reading, log entry
27). -/
def Obligations.PositionAdvancesWithThePulses : Prop :=
  ∀ s : State, ∃ t, exec .countClose s = .next t ∧ ∀ v : State, v = s.beforeSwitch →
    (∀ n travel : Nat, n = t.axl.record.nRef.natAbs → travel = n * (t.cfg .pulseDist).toNat + s.pth.rem →
        if t.axl.record.nRef = 0 then v.pth.p = s.pth.p ∧ v.pth.rem = s.pth.rem
        else if 0 < t.axl.record.nRef then
          v.pth.p = min 16777215 (s.pth.p + travel / 10000) ∧ v.pth.rem = travel % 10000
        else v.pth.p = s.pth.p - travel / 10000 ∧ v.pth.rem = travel % 10000)
      ∧ (v.pth.p ≤ s.pth.p ∨ s.liveBank = none →
          v.pth = { s.pth with p := v.pth.p, rem := v.pth.rem } ∧ v.loop = s.loop ∧ v.jct = s.jct
            ∧ v.stp = { s.stp with dwell := v.stp.dwell } ∧ v.snd.chime = s.snd.chime
            ∧ (s.aut.keyLost = false → v.snd = s.snd))
      ∧ (∀ b, s.liveBank = some b → s.pth.p < v.pth.p → ∃ u w : State,
          u.pth = { s.pth with p := v.pth.p, rem := v.pth.rem } ∧ u.loop = s.loop ∧ u.jct = s.jct ∧ u.stp = s.stp
            ∧ u.snd = s.snd ∧ u.ord.config = t.ord.config
            ∧ marksFired b u w
            ∧ v.pth = w.pth ∧ v.loop = w.loop ∧ v.jct = w.jct ∧ v.stp = { w.stp with dwell := v.stp.dwell }
            ∧ v.flt = w.flt ∧ v.snd.chime = w.snd.chime ∧ (s.aut.keyLost = false → v.snd = w.snd))
      ∧ (s.pth.pendingSwitch = false →
          t.pth = v.pth ∧ transmitterBegun s.loop.queue v.loop t.loop ∧ t.stp = v.stp)

/-- SHIFT (R40): refused outside −5000..+5000 or moving; else p moves by the correction, saturated, the remainder kept
and the reply carrying the p stored. A move that is no increase fires nothing (R37); an increase fires the marks at or below
p in their order, and then an outstanding SETTLE may complete (R36, R102). What a delivery does: a request point makes a
WAITING entry without a due telegram ask, ASKED where LOOP takes the REQUEST and else with the REQUEST due (R89, R90);
an approach start asks for BELL program 3 but for a STRAIGHT leg (R98); a stand start leaves the entry. That a SETTLE of
the same port completes before SHIFT's own DONE goes out, and that an idle transmitter begins after the last mark (R111),
are the model's choice (log entries 11 and 27). -/
def Obligations.ShiftMovesThePosition : Prop :=
  (∀ (p : Port) (tag : Byte) (x : BitVec 16) (s : State), s.ready p tag (.shift x) →
    if x.toInt < -5000 ∨ 5000 < x.toInt ∨ s.standstill = false then
      exec (.shift p tag x) s = .next ((s.taken p).sent p (finalReply tag (.shift x) .refused .none))
    else
      ∃ t, exec (.shift p tag x) s = .next t
        ∧ (t.pth.p : Int) = max 0 (min 16777215 (s.pth.p + x.toInt))
        ∧ t.pth.rem = s.pth.rem
        ∧ (t.port p).outbound.getLast? = some (finalReply tag (.shift x) .done (.shift t.pth.p))
        ∧ t.eff = s.eff ∧ t.aut = s.aut ∧ t.axl = s.axl
        ∧ (t.pth.p ≤ s.pth.p →
            t.pth = { s.pth with p := t.pth.p } ∧ t.loop = s.loop ∧ t.snd = s.snd ∧ t.stp = s.stp ∧ t.flt = s.flt)
        ∧ (∀ b, s.liveBank = some b → s.pth.p < t.pth.p →
            ∃ w y, marksFired b { s.taken p with pth.p := t.pth.p } w ∧ transmitterBegun s.loop.queue w.loop y
              ∧ t = (settleCheck { w with loop := y }).sent p (finalReply tag (.shift x) .done (.shift t.pth.p))))
    ∧ ∀ (u : State) (b : BankName) (i : Nat) (e : Entry) (j : Junction),
        u.liveBank = some b → u.entryAt b i = some e → e.point = .junction j →
        (∀ w, w = fireMark b u (.request i) →
            (j.state ≠ .waiting ∨ j.due ≠ [] →
                w = u.withSlot b i (some { e with point := .junction { j with firedRequest := true } }))
              ∧ (j.state = .waiting → j.due = [] → ∀ m : Telegram,
                  m = { kind := .request j.leg, tram := u.cfgNat .tramId, junction := e.id, number := j.number + 1 } →
                  w = { u with pth := w.pth, loop := w.loop }
                    ∧ if u.loop.queue.length < 8 ∧ ∀ q ∈ u.loop.queue, q.telegram.junction ≠ e.id then
                        w.loop = { u.loop with
                            queue := u.loop.queue ++ [{ telegram := m, bank := b, index := i, entryStands := true }] }
                          ∧ w.pth = (u.withSlot b i (some { e with point := .junction { j with
                              firedRequest := true, state := .asked, number := j.number + 1, timer := .stopped } })).pth
                      else w.loop = u.loop ∧ w.pth = (u.withSlot b i (some { e with
                        point := .junction { j with firedRequest := true, due := [m] } })).pth))
          ∧ (∀ w, w = fireMark b u (.approach i) →
              w = { u.withSlot b i (some { e with point := .junction { j with firedApproach := true } }) with
                snd := w.snd }
              ∧ (j.leg = .straight → w.snd = u.snd)
              ∧ (j.leg ≠ .straight → w.snd = { u.snd with bell := w.snd.bell }
                  ∧ programAsked .bell u.snd.night 3 u.snd.bell w.snd.bell))
          ∧ fireMark b u (.stand i)
              = u.withSlot b i (some { e with point := .junction { j with firedStand := true } })

/-- FIX (R39): discarded with junction id 0 (R117); ignored with no live plan; FIX_REJECTED for an unknown junction or one more than 1500 cm away; else p is
the junction's distance and the remainder 0. A move that is no increase fires nothing (R37); an increase fires the marks at
or below p in their order (R36). What a delivery does: a clearance makes the entry PASSED, with a RELEASE from LOCKED, a
CANCEL from ASKED and MOVING, merged with its REQUEST if that is queued and not in transmission, the due heads then offered, and PASSED_UNLOCKED but
from LOCKED and ON_SIGHT (R90, R99), so that a jump over the request point and the clearance of a WAITING entry leaves the
queue as it was; an idle transmitter begins after the last mark, and then sends nothing (R111, R99; the model's reading, log
entry 27); a window end settles the stop's state, with STOP_MISSED where it was owed a halt,
and clears the target's record (R130); the plan end sets its condition and raises PLAN_END (R38). -/
def Obligations.FixSetsThePosition : Prop :=
  (∀ s : State, exec (.fix 0) s = .next s)
    ∧ (∀ (id : BitVec 12) (s : State), id ≠ 0 →
        (s.liveBank = none → exec (.fix id) s = .next s)
          ∧ (s.liveBank ≠ none →
              (s.liveJunction id.toNat = none
                ∨ ∃ b i e, s.liveJunction id.toNat = some (b, i, e) ∧ 1500 < ((e.distance : Int) - s.pth.p).natAbs) →
              ∃ t r, exec (.fix id) s = .next t ∧ t.flt.queue.getLast? = some r ∧ t = { s with flt := t.flt }
                ∧ r.kind = .fixRejected ∧ r.cls = .notice ∧ r.key = .junction id.toNat ∧ r.p = s.pth.p ∧ r.tag = none
                ∧ r.serial = s.flt.serial ∧ t.flt.halt = s.flt.halt ∧ t.flt.latch = s.flt.latch)
          ∧ (∀ b i e, s.liveJunction id.toNat = some (b, i, e) → ((e.distance : Int) - s.pth.p).natAbs ≤ 1500 →
              ∃ t, exec (.fix id) s = .next t ∧ t.pth.p = e.distance ∧ t.pth.rem = 0
                ∧ t.eff = s.eff ∧ t.aut = s.aut ∧ t.axl = s.axl
                ∧ (e.distance ≤ s.pth.p →
                    t.pth = { s.pth with p := e.distance, rem := 0 } ∧ t.loop = s.loop ∧ t.snd = s.snd ∧ t.stp = s.stp
                      ∧ t.flt = s.flt)
                ∧ (s.pth.p < e.distance →
                    ∃ w x, marksFired b { s with pth.p := e.distance, pth.rem := 0 } w
                      ∧ transmitterBegun s.loop.queue w.loop x ∧ t = settleCheck { w with loop := x })))
    ∧ (∀ (u : State) (b : BankName) (i : Nat) (e : Entry) (j : Junction),
        u.liveBank = some b → u.entryAt b i = some e → e.point = .junction j → j.state = .waiting → j.due = [] →
        u.loop.queue.length < 8 → (∀ q ∈ u.loop.queue, q.telegram.junction ≠ e.id) →
        (u.loop.queue = [] → ∀ n, u.loop.transmitter ≠ .sending n) → u.nothingDue →
        (fireMark b (fireMark b u (.request i)) (.clearance i)).loop = u.loop)
    ∧ (∀ (u w : State) (b : BankName) (i : Nat) (e : Entry) (j k : Junction) (m : Telegram) (unlocked : Prop),
        u.liveBank = some b → u.entryAt b i = some e → e.point = .junction j → w = fireMark b u (.clearance i) →
        k = { j with firedClearance := true, state := .passed, timer := .stopped } →
        (unlocked ↔ j.state ≠ .locked ∧ j.state ≠ .onSight ∧ j.state ≠ .passed) →
        m = { kind := if j.state = .locked then .release else .cancel, tram := u.cfgNat .tramId, junction := e.id,
              number := j.number } →
        w = { u with pth := w.pth, loop := w.loop, flt := w.flt }
          ∧ (unlocked → faultsRaised u.pth.p [(.passedUnlocked, .notice, .junction e.id)] u.flt w.flt)
          ∧ (¬ unlocked → w.flt = u.flt)
          ∧ (j.state ≠ .locked → j.state ≠ .asked → j.state ≠ .moving → w.loop = u.loop
              ∧ w.pth = (u.withSlot b i (some { e with point := .junction { k with
                  due := if j.state = .waiting then j.due.filter fun t => !isRequest t else j.due } })).pth)
          ∧ (j.state = .locked ∨ j.state = .asked ∨ j.state = .moving →
              ((∀ q ∈ u.loop.queue, q.telegram.junction ≠ e.id) → u.loop.queue.length < 8 →
                  w.loop = { u.loop with
                      queue := u.loop.queue ++ [{ telegram := m, bank := b, index := i, entryStands := true }] }
                    ∧ w.pth = (u.withSlot b i (some { e with point := .junction k })).pth)
                ∧ ((8 ≤ u.loop.queue.length ∨ ∃ q ∈ u.loop.queue, q.telegram.junction = e.id) →
                    (j.state = .locked ∨ ∀ q ∈ u.loop.mergeable, q.telegram.junction = e.id →
                      isRequest q.telegram = false) →
                    w.loop = u.loop
                      ∧ w.pth = (u.withSlot b i (some { e with point := .junction { k with due := j.due ++ [m] } })).pth)
                ∧ (∀ x q y, j.state ≠ .locked → u.loop.queue = x ++ q :: y → isRequest q.telegram = true →
                    q.telegram.junction = e.id → (∀ r ∈ x, r.telegram.junction ≠ e.id) →
                    (x = [] → ∀ n, u.loop.transmitter ≠ .sending n) →
                    (∀ h ∈ u.dueHeads, h.telegram.kind = .cancel → ∀ r ∈ x ++ y,
                      r.telegram.junction = h.telegram.junction → isRequest r.telegram = false) →
                    ∃ v, offeredAgain
                        { u.withSlot b i (some { e with point := .junction k }) with loop.queue := x ++ y } v
                      ∧ w.loop = v.loop ∧ w.pth = v.pth)))
    ∧ (∀ (u w : State) (b : BankName) (i : Nat) (e : Entry) (z : Stop) (targeted missed : Prop) (x : StopState),
        u.liveBank = some b → u.entryAt b i = some e → e.point = .stop z → w = fireMark b u (.window i) →
        (targeted ↔ u.target = some (i, e)) →
        (missed ↔ z.state = .ahead ∧ (z.mode = .always ∨ (z.mode = .request ∧ targeted ∧ u.stp.request ≠ none))) →
        (missed → x = .missed) → (¬ missed → x = if z.state = .ahead then .passed else z.state) →
        w.pth = (u.withSlot b i (some { e with point := .stop { z with firedWindow := true, state := x } })).pth
          ∧ w = { u with pth := w.pth, stp.request := w.stp.request, flt := w.flt }
          ∧ (targeted → w.stp.request = none) ∧ (¬ targeted → w.stp.request = u.stp.request)
          ∧ (missed → faultsRaised u.pth.p [(.stopMissed, .notice, .stop e.id)] u.flt w.flt)
          ∧ (¬ missed → w.flt = u.flt))
    ∧ ∀ (u w : State) (b : BankName), u.liveBank = some b → w = fireMark b u .planEnd →
        w = { u with pth.firedEnd := true, pth.planEnd := true, flt := w.flt }
          ∧ faultsRaised u.pth.p [(.planEnd, .restrict, .none)] u.flt w.flt

/-- PLAN_CLEAR (R20): BUSY with the vehicle link's slot occupied; else the standby bank is CLEARING, its entries still
held, and the order enters the slot. The completion of a clear (R21) clears every entry of the standby bank, makes it
FILLING, answers DONE with the bank and empties the slot; the other bank stays. -/
def Obligations.PlanClearEmptiesTheStandbyBank : Prop :=
  (∀ (tag : Byte) (s : State), s.ready .vehicle tag .planClear →
    if (s.port .vehicle).slot.isSome = true then
      exec (.planClear .vehicle tag) s = .next ((s.taken .vehicle).sent .vehicle
        (finalReply tag .planClear .busy (.plan s.pth.standby (s.bank s.pth.standby).state)))
    else
      ∃ t, exec (.planClear .vehicle tag) s = .next t
        ∧ t.bank s.pth.standby = { s.bank s.pth.standby with state := .clearing }
        ∧ t.bank (otherBank s.pth.standby) = s.bank (otherBank s.pth.standby)
        ∧ (t.port .vehicle).slot = some { tag, order := .planClear, bank := s.pth.standby }
        ∧ (t.port .vehicle).outbound
            = (s.port .vehicle).outbound ++ [acceptance tag .planClear (.plan s.pth.standby .clearing)]
        ∧ t.pth.p = s.pth.p ∧ t.loop = s.loop ∧ t.eff = s.eff ∧ t.flt = s.flt)
    ∧ (∀ (s : State) (x : Slot), (s.bank s.pth.standby).state = .clearing → (s.port .vehicle).slot = some x →
        x.order = .planClear → x.bank = s.pth.standby →
        ∃ t, exec .planClearCompletion s = .next t
          ∧ (t.bank s.pth.standby).state = .filling ∧ (t.bank s.pth.standby).entries = []
          ∧ t.bank (otherBank s.pth.standby) = s.bank (otherBank s.pth.standby)
          ∧ (t.port .vehicle).slot = none
          ∧ (t.port .vehicle).outbound = (s.port .vehicle).outbound
              ++ [finalReply x.tag .planClear .done (.plan s.pth.standby .filling)]
          ∧ t.pth.p = s.pth.p ∧ t.eff = s.eff ∧ t.flt = s.flt)

/-- PLAN_PUT (R22, R18, spec 11.5): BUSY with the standby bank CLEARING, REFUSED in any other state but FILLING. In
FILLING, a record whose kind is JUNCTION or STOP with every field of that kind in range writes the entry at its index with
those fields, its dynamic part and fired flags cleared (what a cleared part holds is the model's reading, log entry 8), and
no other entry; an index above 63, another kind, or a field out of range is REFUSED with nothing changed. -/
def Obligations.PlanPutWritesOneEntry : Prop :=
  ∀ (tag : Byte) (w : WaypointPayload) (s : State), s.ready .vehicle tag (.planPut w) →
    ((s.bank s.pth.standby).state ≠ .filling →
        exec (.planPut .vehicle tag w) s = .next ((s.taken .vehicle).sent .vehicle
          (finalReply tag (.planPut w) (if (s.bank s.pth.standby).state = .clearing then .busy else .refused)
            (.plan s.pth.standby (s.bank s.pth.standby).state))))
      ∧ (∀ (e : Entry) (leg : Leg) (mode : StopMode) (side : Side),
          (s.bank s.pth.standby).state = .filling → (s.bank s.pth.standby).slots.length = 64 →
          w.index.toNat ≤ 63 → 1 ≤ w.id.toNat → w.id.toNat ≤ 4095 →
          (w.kind = 1 ∧ (w.first, leg) ∈ [((0 : Byte), Leg.straight), (1, .left), (2, .right)]
              ∧ 100 ≤ w.second.toNat ∧ w.second.toNat ≤ 20000 ∧ 1000 ≤ w.third.toNat ∧ w.third.toNat ≤ 8400
              ∧ e = Entry.mk w.id.toNat w.distance.toNat (.junction
                  { leg := leg
                    lead := w.second.toNat
                    limit := w.third.toNat
                    state := .waiting
                    number := 0
                    timer := .stopped
                    due := []
                    firedRequest := false
                    firedApproach := false
                    firedStand := false
                    firedClearance := false }))
            ∨ (w.kind = 2 ∧ (w.first, mode) ∈ [((0 : Byte), StopMode.request), (1, .always), (2, .pass)]
              ∧ (w.second.toNat % 256, side) ∈ [(0, Side.left), (1, .right), (2, .both)]
              ∧ e = Entry.mk w.id.toNat w.distance.toNat (.stop
                  { mode := mode, side := side, state := .ahead, firedWindow := false })) →
          ∃ t, exec (.planPut .vehicle tag w) s = .next t
            ∧ t.entryAt s.pth.standby w.index.toNat = some e
            ∧ (∀ i, i ≠ w.index.toNat → t.entryAt s.pth.standby i = s.entryAt s.pth.standby i)
            ∧ (t.bank s.pth.standby).state = .filling
            ∧ t.bank (otherBank s.pth.standby) = s.bank (otherBank s.pth.standby)
            ∧ (t.port .vehicle).outbound = (s.port .vehicle).outbound
                ++ [finalReply tag (.planPut w) .done (.plan s.pth.standby .filling)]
            ∧ t.eff = s.eff ∧ t.aut = s.aut ∧ t.axl = s.axl ∧ t.stp = s.stp ∧ t.snd = s.snd ∧ t.flt = s.flt
            ∧ t.jct = s.jct ∧ t.pth.p = s.pth.p ∧ t.pth.standby = s.pth.standby)
      ∧ ((s.bank s.pth.standby).state = .filling →
          63 < w.index.toNat ∨ w.id.toNat = 0 ∨ 4095 < w.id.toNat ∨ (w.kind ≠ 1 ∧ w.kind ≠ 2)
            ∨ (w.kind = 1 ∧ (2 < w.first.toNat ∨ w.second.toNat < 100 ∨ 20000 < w.second.toNat
                ∨ w.third.toNat < 1000 ∨ 8400 < w.third.toNat))
            ∨ (w.kind = 2 ∧ (2 < w.first.toNat ∨ 2 < w.second.toNat % 256)) →
          exec (.planPut .vehicle tag w) s = .next ((s.taken .vehicle).sent .vehicle
            (finalReply tag (.planPut w) .refused (.plan s.pth.standby .filling))))

/-- PLAN_SEAL (R23): BUSY with the slot occupied; REFUSED with the bank in any state but FILLING, and for a count of 0 or
above 64; else the bank is SEALING and the order in the slot. The completion of a seal (R24): the first of the four tests
that fails makes the bank BAD with its reason, else it is READY; entries at the count and above are cleared, the others
stay, and the order completes with DONE or BAD. -/
def Obligations.SealingTestsThePlan : Prop :=
  (∀ (tag count : Byte) (check : BitVec 16) (s : State), s.ready .vehicle tag (.planSeal count check) →
    (s.port .vehicle).slot ≠ none ∨ (s.bank s.pth.standby).state ≠ .filling ∨ count = 0 ∨ 64 < count.toNat →
    exec (.planSeal .vehicle tag count check) s = .next ((s.taken .vehicle).sent .vehicle
      (finalReply tag (.planSeal count check) (if (s.port .vehicle).slot ≠ none then .busy else .refused)
        (.plan s.pth.standby (s.bank s.pth.standby).state))))
    ∧ (∀ (tag count : Byte) (check : BitVec 16) (s : State), s.ready .vehicle tag (.planSeal count check) →
        (s.port .vehicle).slot = none → (s.bank s.pth.standby).state = .filling → 1 ≤ count.toNat → count.toNat ≤ 64 →
        ∃ t, exec (.planSeal .vehicle tag count check) s = .next t
          ∧ t.bank s.pth.standby = { s.bank s.pth.standby with state := .sealing count.toNat check.toNat }
          ∧ t.bank (otherBank s.pth.standby) = s.bank (otherBank s.pth.standby)
          ∧ (t.port .vehicle).slot = some { tag, order := .planSeal, bank := s.pth.standby }
          ∧ (t.port .vehicle).outbound = (s.port .vehicle).outbound
              ++ [acceptance tag (.planSeal count check) (.plan s.pth.standby (.sealing count.toNat check.toNat))]
          ∧ t.loop = s.loop ∧ t.eff = s.eff ∧ t.flt = s.flt)
    ∧ ∀ (s : State) (x : Slot) (count check : Nat) (es : List Entry),
        (s.bank s.pth.standby).state = .sealing count check → (s.port .vehicle).slot = some x → x.order = .planSeal →
        x.bank = s.pth.standby → es = ((s.bank s.pth.standby).slots.take count).filterMap id →
        ∃ t r, exec .planSealCompletion s = .next t
          ∧ (t.bank s.pth.standby).state = r
          ∧ r = (if ((s.bank s.pth.standby).slots.take count).any Option.isNone = true then BankState.bad .gap
                 else if ¬ es.Pairwise (fun a b => a.distance ≤ b.distance) then .bad .order
                 else if ¬ es.Pairwise (fun a b => a.id ≠ b.id ∨ a.junction?.isSome ≠ b.junction?.isSome) then
                   .bad .duplicate
                 else if planCheck es = check ∨ (planCheck es = 0 ∧ check = 65535)
                     ∨ (planCheck es = 65535 ∧ check = 0) then .ready
                 else .bad .check)
          ∧ (∀ i, t.entryAt s.pth.standby i = if i < count then s.entryAt s.pth.standby i else none)
          ∧ t.bank (otherBank s.pth.standby) = s.bank (otherBank s.pth.standby)
          ∧ (t.port .vehicle).slot = none
          ∧ (t.port .vehicle).outbound = (s.port .vehicle).outbound
              ++ [completionReply x.tag 16 (if r = .ready then .done else .bad) (.plan s.pth.standby r)]
          ∧ t.eff = s.eff ∧ t.flt = s.flt

/-- The check of a plan (R25): the five words of a junction entry and of a stop entry, each entry's in order, and their
ones-complement sum. For words of 16 bits the sum stays in 16 bits and is that of the words to the modulus 65535; it is 0
only when every word is 0. -/
def Obligations.PlanCheckIsOnesComplement : Prop :=
  (∀ (id distance : Nat) (j : Junction) (code : Nat), (j.leg, code) ∈ [(Leg.straight, 0), (.left, 1), (.right, 2)] →
    checkWords { id := id, distance := distance, point := .junction j }
      = [4096 + id, distance / 65536, distance % 65536, code * 4096 + j.lead / 10, j.limit])
    ∧ (∀ (id distance : Nat) (z : Stop) (mode side : Nat),
        (z.mode, mode) ∈ [(StopMode.request, 0), (.always, 1), (.pass, 2)] →
        (z.side, side) ∈ [(Side.left, 0), (.right, 1), (.both, 2)] →
        checkWords { id := id, distance := distance, point := .stop z }
          = [8192 + id, distance / 65536, distance % 65536, mode * 4096 + side * 1024, 0])
    ∧ ∀ es : List Entry, (∀ e ∈ es, ∀ w ∈ checkWords e, w ≤ 65535) →
        planCheck es ≤ 65535
          ∧ planCheck es % 65535 = (es.flatMap checkWords).sum % 65535
          ∧ (planCheck es = 0 ↔ ∀ e ∈ es, ∀ w ∈ checkWords e, w = 0)

/-- PLAN_SWITCH (R26): BUSY with the slot occupied, REFUSED unless the standby bank is READY; else the switch takes place
at once without a live plan, and is pending with one. A pending switch takes place at the count close that finds
standstill, no live junction ASKED, MOVING or LOCKED, and the dwell state RUNNING or DWELL, and completes with DONE;
until then nothing of it happens (R27). What a switch does is switchMade (R28 to R30). PLAN_WITHDRAW (R31) ends a pending
switch: it completes with WITHDRAWN and the withdraw is DONE, the bank staying as it is; with none pending it is REFUSED.
That WITHDRAWN goes out before that DONE, and that an idle transmitter begins after the last of the switch's REQUESTs
(R111), are the model's choice (log entries 11 and 27). -/
def Obligations.PlanSwitchTurnsTheBanks : Prop :=
  (∀ (tag : Byte) (s : State), s.ready .vehicle tag .planSwitch →
    if (s.port .vehicle).slot ≠ none ∨ (s.bank s.pth.standby).state ≠ .ready then
      exec (.planSwitch .vehicle tag) s = .next ((s.taken .vehicle).sent .vehicle
        (finalReply tag .planSwitch (if (s.port .vehicle).slot ≠ none then .busy else .refused)
          (.plan s.pth.standby (s.bank s.pth.standby).state)))
    else if s.liveBank = none then
      ∃ t, exec (.planSwitch .vehicle tag) s = .next t
        ∧ switchMade s t ∧ transmitterBegun s.loop.queue { s.loop with queue := t.loop.queue } t.loop
        ∧ (t.port .vehicle).outbound.getLast? = some (finalReply tag .planSwitch .done (.plan s.pth.standby .live))
        ∧ (t.port .vehicle).slot = none
        ∧ t.eff = s.eff ∧ t.aut = s.aut ∧ t.axl = s.axl ∧ t.snd = s.snd
    else
      exec (.planSwitch .vehicle tag) s = .next
        (({ s.taken .vehicle with pth.pendingSwitch := true }).setPort .vehicle
          { (s.taken .vehicle).port .vehicle with
            slot := some { tag, order := .planSwitch, bank := s.pth.standby }
            outbound := (s.port .vehicle).outbound ++ [acceptance tag .planSwitch (.plan s.pth.standby .ready)] }))
    ∧ (∀ (s : State) (x : Slot), s.pth.pendingSwitch = true → (s.port .vehicle).slot = some x → x.order = .planSwitch →
        ∃ t, exec .countClose s = .next t ∧ ∀ (v : State) (holds : Prop), v = s.beforeSwitch →
          (holds ↔ v.standstill = true ∧ (v.stp.dwell = .running ∨ v.stp.dwell = .dwell)
            ∧ ∀ y ∈ v.liveEntries, ∀ j, y.2.point = .junction j →
                j.state ≠ .asked ∧ j.state ≠ .moving ∧ j.state ≠ .locked) →
          (holds → (∃ w, switchMade v w ∧ t.pth = w.pth ∧ t.stp = w.stp
                ∧ transmitterBegun s.loop.queue { v.loop with queue := w.loop.queue } t.loop)
              ∧ (t.port .vehicle).slot = none
              ∧ (t.port .vehicle).outbound = (s.port .vehicle).outbound
                  ++ completionReply x.tag 17 .done (.plan x.bank (t.bank x.bank).state)
                    :: (if s.ord.pictureCount < 4 then [] else [.picture t.picture]))
            ∧ (¬ holds → t.pth = v.pth ∧ transmitterBegun s.loop.queue v.loop t.loop ∧ t.stp = v.stp ∧ (t.port .vehicle).slot = some x
                ∧ (t.port .vehicle).outbound = (s.port .vehicle).outbound
                    ++ if s.ord.pictureCount < 4 then [] else [.picture t.picture]))
    ∧ ∀ (tag : Byte) (s : State), s.ready .vehicle tag .planWithdraw →
        (∀ x : Slot, s.pth.pendingSwitch = true → (s.port .vehicle).slot = some x → x.order = .planSwitch →
          exec (.planWithdraw .vehicle tag) s = .next
            (({ s.taken .vehicle with pth.pendingSwitch := false }).setPort .vehicle
              { (s.taken .vehicle).port .vehicle with
                slot := none
                outbound := (s.port .vehicle).outbound
                  ++ [completionReply x.tag 17 .withdrawn (.plan x.bank (s.bank x.bank).state),
                      finalReply tag .planWithdraw .done (.plan s.pth.standby (s.bank s.pth.standby).state)] }))
          ∧ (s.pth.pendingSwitch = false →
              exec (.planWithdraw .vehicle tag) s = .next ((s.taken .vehicle).sent .vehicle
                (finalReply tag .planWithdraw .refused (.plan s.pth.standby (s.bank s.pth.standby).state))))

/-! ### JCT (chapter 5) -/

/-- For the live plan's entry with the telegram's junction id and exchange number (R92, R93, R117): an ACCEPT in ASKED
makes it MOVING with 6.0 s to run and changes nothing else; a SET in ASKED or MOVING makes it LOCKED with its timer
stopped, then an outstanding SETTLE completes if no other exchange is in progress (R102), and nothing else changes. -/
def Obligations.AcceptAndSetAdvanceTheExchange : Prop :=
  ∀ (tram : BitVec 14) (id : BitVec 12) (n : BitVec 4) (s : State) (b : BankName) (i : Nat) (e : Entry) (j : Junction),
    id ≠ 0 → tram ≠ 0 → (tram.toNat : Int) = s.cfg .tramId → s.hasJunction id.toNat b i e j → j.number = n →
    (j.state = .asked → exec (.accept tram id n) s = .next (s.withSlot b i
        (some { e with point := .junction { j with state := .moving, timer := .running 24000 0 } })))
      ∧ (j.state = .asked ∨ j.state = .moving →
          ∃ t, exec (.setLocked tram id n) s = .next t
            ∧ settleCompleted (s.withSlot b i
                (some { e with point := .junction { j with state := .locked, timer := .stopped } })) t)

/-- A REFUSE of an exchange in progress, and the expiry of its running timer (R93, R94): the entry becomes REFUSED with
the reason carried, or LOST, its timer stopped; JUNCTION_REFUSED (NOTICE) or JUNCTION_LOST (RESTRICT) is stored at the
tail, once a full queue has given up the record that R169 names; each port's settle list is offered the id (R101); then an
outstanding SETTLE completes with it if no other exchange is in progress (R102), and nothing else changes. -/
def Obligations.RefusedAndLostJunctionsAreReported : Prop :=
  ∀ (s : State) (id : Nat) (b : BankName) (i : Nat) (e : Entry) (j : Junction), s.hasJunction id b i e j →
    j.state = .asked ∨ j.state = .moving →
    ∀ (command : Instr) (x : JunctionState) (k : FaultKind) (c : FaultClass),
      (∃ (tram : BitVec 14) (w : BitVec 12) (q : BitVec 3) (y : Reason),
          tram ≠ 0 ∧ w ≠ 0 ∧ (tram.toNat : Int) = s.cfg .tramId ∧ w.toNat = id
            ∧ (q, y) ∈ [(1, Reason.occupied), (2, .conflict), (3, .failed), (4, .badLeg)]
            ∧ command = .refuse tram w j.number q ∧ x = .refused y ∧ k = .junctionRefused ∧ c = .notice)
        ∨ (j.timer ≠ .stopped ∧ command = .exchangeTimerExpiry id ∧ x = .lost ∧ k = .junctionLost ∧ c = .restrict) →
      ∃ t u, exec command s = .next t ∧ settleCompleted u t
        ∧ u = { s.withSlot b i (some { e with point := .junction { j with state := x, timer := .stopped } }) with
            flt := u.flt, jct := u.jct }
        ∧ faultsRaised s.pth.p [(k, c, .junction id)] s.flt u.flt
        ∧ ∀ p, u.jct.lists.get p =
            if id ∈ (s.jct.lists.get p).ids then s.jct.lists.get p
            else if (s.jct.lists.get p).ids.length < 8 then
              { s.jct.lists.get p with ids := (s.jct.lists.get p).ids ++ [id] }
            else { s.jct.lists.get p with more := true }

/-- A LOCK_LOST of a LOCKED entry makes it LOST (R95). Below the stand start the fault LOCK_LOST is a RESTRICT record and
the latch stays; at or above it, the fault is of STOP class: with the latch clear and no such record unacknowledged, it is
stored so and sets the latch (R166). Its record stands at the tail, once a full queue has given up a record (R169). -/
def Obligations.LockLostTakesItsClassFromThePosition : Prop :=
  ∀ (tram : BitVec 14) (w : BitVec 12) (s : State) (b : BankName) (i : Nat) (e : Entry) (j : Junction),
    w ≠ 0 → tram ≠ 0 → (tram.toNat : Int) = s.cfg .tramId → s.hasJunction w.toNat b i e j → j.state = .locked →
    s.flt.latch = false → (∀ r ∈ s.flt.queue, r.acked ≠ some false) →
    ∃ t r, exec (.lockLost tram w j.number) s = .next t
      ∧ t.pth = (s.withSlot b i (some { e with point := .junction { j with state := .lost, timer := .stopped } })).pth
      ∧ (∃ room, roomMade s.flt.queue room ∧ t.flt.queue = room ++ [r])
      ∧ r.kind = .lockLost ∧ r.key = .junction w.toNat ∧ r.p = s.pth.p ∧ r.tag = none
      ∧ (if e.distance - s.cfgNat .standLen ≤ s.pth.p then
          r.cls = .stop ∧ r.acked = some false ∧ t.flt.latch = true
        else r.cls = .restrict ∧ r.acked = none ∧ t.flt.latch = false)
      ∧ t.flt.halt = s.flt.halt ∧ t.flt.serial = (if s.flt.serial = 65535 then 1 else s.flt.serial + 1)
      ∧ t.eff = s.eff ∧ t.aut = s.aut ∧ t.axl = s.axl ∧ t.loop = s.loop ∧ t.stp = s.stp ∧ t.snd = s.snd ∧ t.ord = s.ord

/-- A telegram that bears another tram's id, junction id 0, or no current exchange changes nothing (R92, R117), nor does a
REFUSE whose reason is none of the four (R117, R203): ACCEPT counts in ASKED alone, SET and REFUSE in ASKED and MOVING,
LOCK_LOST in LOCKED alone. The states with a SETTLE outstanding are those that the law of SettleHandsTheListOver keeps. -/
def Obligations.StrayAnswersChangeNothing : Prop :=
  ∀ (tram : BitVec 14) (w : BitVec 12) (n : BitVec 4) (q : BitVec 3) (s : State),
    (q.toNat = 0 ∨ 4 < q.toNat → exec (.refuse tram w n q) s = .next s)
      ∧ (tram = 0 ∨ w = 0 ∨ (tram.toNat : Int) ≠ s.cfg .tramId →
        exec (.accept tram w n) s = .next s ∧ exec (.setLocked tram w n) s = .next s
          ∧ exec (.refuse tram w n q) s = .next s ∧ exec (.lockLost tram w n) s = .next s)
      ∧ ((∀ b i e j, s.hasJunction w.toNat b i e j → j.number = n → j.state ≠ .asked) →
          exec (.accept tram w n) s = .next s)
      ∧ ((∀ p, s.settleOutstanding p = true → s.exchangeInProgress = true) →
          (∀ b i e j, s.hasJunction w.toNat b i e j → j.number = n → j.state ≠ .asked ∧ j.state ≠ .moving) →
          exec (.setLocked tram w n) s = .next s ∧ exec (.refuse tram w n q) s = .next s)
      ∧ ((∀ b i e j, s.hasJunction w.toNat b i e j → j.number = n → j.state ≠ .locked) →
          exec (.lockLost tram w n) s = .next s)

/-- RETRY and OVERRIDE (R96, R97): REFUSED where the live plan has no junction of that id that is REFUSED or LOST. RETRY
below the junction's distance makes a REQUEST with the next exchange number: taken by LOOP, whose idle transmitter begins
with it, the entry is ASKED with that number; not taken (eight queued, or one for this junction), it is due and the entry
WAITING. At the distance and beyond RETRY is REFUSED. OVERRIDE makes the entry ON_SIGHT with its timer stopped. -/
def Obligations.RetryAsksAgainAndOverrideTakesOnSight : Prop :=
  ∀ (p : Port) (tag : Byte) (w : BitVec 16) (s : State),
    (∀ (o : Order) (command : Instr),
        (o = .retry w ∧ command = .retry p tag w) ∨ (o = .override w ∧ command = .override p tag w) → s.ready p tag o →
        (∀ b i e j, s.hasJunction w.toNat b i e j → j.state ≠ .lost ∧ ∀ x, j.state ≠ .refused x) →
        exec command s = .next ((s.taken p).sent p (finalReply tag o .refused .none)))
      ∧ ∀ (b : BankName) (i : Nat) (e : Entry) (j : Junction),
        s.hasJunction w.toNat b i e j → (j.state = .lost ∨ ∃ x, j.state = .refused x) →
        (s.ready p tag (.retry w) → s.pth.p < e.distance →
          ∃ t m, exec (.retry p tag w) s = .next t
            ∧ m = { kind := .request j.leg, tram := s.cfgNat .tramId, junction := w.toNat, number := j.number + 1 }
            ∧ (if s.loop.queue.length < 8 ∧ ∀ q ∈ s.loop.queue, q.telegram.junction ≠ w.toNat then
                transmitterBegun s.loop.queue { s.loop with
                    queue := s.loop.queue ++ [{ telegram := m, bank := b, index := i, entryStands := true }] } t.loop
                  ∧ t.pth = (s.withSlot b i (some { e with
                      point := .junction { j with state := .asked, number := j.number + 1, timer := .stopped } })).pth
              else
                t.loop = s.loop ∧ t.pth = (s.withSlot b i (some { e with
                  point := .junction { j with state := .waiting, due := j.due ++ [m] } })).pth)
            ∧ (t.port p).outbound = (s.port p).outbound ++ [finalReply tag (.retry w) .done .none]
            ∧ t.aut = s.aut ∧ t.axl = s.axl ∧ t.eff = s.eff ∧ t.jct = s.jct ∧ t.stp = s.stp ∧ t.snd = s.snd
            ∧ t.flt = s.flt)
          ∧ (s.ready p tag (.retry w) → e.distance ≤ s.pth.p →
              exec (.retry p tag w) s = .next ((s.taken p).sent p (finalReply tag (.retry w) .refused .none)))
          ∧ (s.ready p tag (.override w) →
              exec (.override p tag w) s = .next (((s.taken p).withSlot b i
                (some { e with point := .junction { j with state := .onSight, timer := .stopped } })).sent p
                  (finalReply tag (.override w) .done .none)))

/-! ### LOOP (chapter 6) -/

/-- A transmission's completion (R113): the telegram leaves the queue and the gap starts; a REQUEST starts the stopped timer
of its ASKED entry at 2.0 s, and any other report changes nothing (R91); then the due heads are offered in the order of R90,
and nothing else changes. Said where no due CANCEL would merge with a REQUEST still queued. -/
def Obligations.CompletionStartsTheExchangeTimer : Prop :=
  ∀ (s : State) (k : Nat) (q : QueuedTelegram) (rest : List QueuedTelegram),
    s.loop.transmitter = .sending k → s.loop.queue = q :: rest →
    (∀ x ∈ s.dueHeads, x.telegram.kind = .cancel → ∀ y ∈ rest, y.telegram.junction = x.telegram.junction →
      isRequest y.telegram = false) →
    ∃ t u, exec .transmissionCompletion s = .next t ∧ offeredAgain u t
      ∧ u = { s with
          pth := u.pth
          loop := { s.loop with queue := rest, transmitter := .gap 0, data := u.loop.data, strobe := u.loop.strobe } }
      ∧ (80 ≤ k → u.loop.data = s.loop.data ∧ u.loop.strobe = s.loop.strobe)
      ∧ (∀ b i e j leg, q.telegram.kind = .request leg → s.hasJunction q.telegram.junction b i e j → j.state = .asked →
          j.number = q.telegram.number → j.timer = .stopped →
          u.pth = (s.withSlot b i (some { e with point := .junction { j with timer := .running 8000 0 } })).pth)
      ∧ ((∀ b i e j leg, q.telegram.kind = .request leg → s.hasJunction q.telegram.junction b i e j →
            ¬ (j.state = .asked ∧ j.number = q.telegram.number ∧ j.timer = .stopped)) → u.pth = s.pth)

/-- The transmitter's other events (R111, R114): at the end of the gap it is IDLE with an empty queue, and else sends the
first bit of the head telegram; at each bit time within a telegram it sends the next bit. A bit changes exactly one line,
and leaves the data line at its level. -/
def Obligations.OneLineChangesAtEachBit : Prop :=
  ∀ s : State,
    (∀ n, s.loop.transmitter = .gap n → s.loop.queue = [] →
      exec .gapEnd s = .next { s with loop.transmitter := .idle })
      ∧ (∀ n q rest, s.loop.transmitter = .gap n → s.loop.queue = q :: rest →
          ∃ t, exec .gapEnd s = .next t ∧ t.loop.transmitter = .sending 1
            ∧ (frameBits q.telegram)[0]? = some t.loop.data
            ∧ (t.loop.data ≠ s.loop.data ↔ t.loop.strobe = s.loop.strobe)
            ∧ t = { s with loop.transmitter := .sending 1, loop.data := t.loop.data, loop.strobe := t.loop.strobe })
      ∧ (∀ k q rest, s.loop.transmitter = .sending k → s.loop.queue = q :: rest → k < 80 →
          ∃ t, exec .outboundBitTime s = .next t ∧ t.loop.transmitter = .sending (k + 1)
            ∧ (frameBits q.telegram)[k]? = some t.loop.data
            ∧ (t.loop.data ≠ s.loop.data ↔ t.loop.strobe = s.loop.strobe)
            ∧ t = { s with loop.transmitter := .sending (k + 1), loop.data := t.loop.data, loop.strobe := t.loop.strobe })

/-- The inbound decoder (R114, R116): one line's change brings a bit, the data level after it, which the first 16 bits
test against the start pattern; both lines' change, a wrong start bit, and 2 still bit times in a frame give SKIP; 8 still
bit times in SKIP give QUIET. -/
def Obligations.InboundLinesBringBits : Prop :=
  ∀ (s : State) (c : LineChange) (bit : Bool), bit = (if c = .strobe then s.loop.inboundData else !s.loop.inboundData) →
    (c = .both → exec (.inboundLineChange c) s
        = .next { s with loop.decoder := .skip, loop.inboundData := bit, loop.still := 0 })
      ∧ (c ≠ .both → s.loop.decoder = .skip → exec (.inboundLineChange c) s
          = .next { s with loop.inboundData := bit, loop.still := 0 })
      ∧ (c ≠ .both → s.loop.decoder = .quiet → exec (.inboundLineChange c) s
          = .next { s with
              loop.decoder := if bit = true then .receiving [true] else .skip
              loop.inboundData := bit
              loop.still := 0 })
      ∧ (∀ bits, c ≠ .both → s.loop.decoder = .receiving bits → bits.length < 79 → exec (.inboundLineChange c) s
          = .next { s with
              loop.decoder :=
                if bits.length < 16 ∧ startPattern[bits.length]? ≠ some bit then .skip else .receiving (bits ++ [bit])
              loop.inboundData := bit
              loop.still := 0 })
      ∧ (∀ bits, s.loop.decoder = .receiving bits →
          exec .inboundFrameCutOff s = .next { s with loop.decoder := .skip })
      ∧ (s.loop.decoder = .skip → exec .inboundGapEnd s = .next { s with loop.decoder := .quiet })

/-- A wayside telegram's 80 bits on the lines, from a QUIET decoder, have exactly the effect of the command it stands for
(R114 to R118, R203): every field of the telegram is read as it was sent. Its first change comes to a QUIET decoder, its
last leaves the decoder in SKIP. -/
def Obligations.AFrameOnTheLinesIsDelivered : Prop :=
  ∀ (f : InboundFields) (s u : State), f.kind < 16 → s.loop.decoder = .quiet →
    u = { s with
      loop.decoder := .skip, loop.still := 0, loop.inboundData := ((waysideFrame f).getLast?.getD false) } →
    runCommands ((changesFor s.loop.inboundData (waysideFrame f)).map Instr.inboundLineChange) s
      = match waysideCommand f with
        | some c => exec c u
        | none => .next u

/-! ### ORD: frames, checks and replies (chapters 10 and 11) -/

/-- The frame by which a master sends an order (spec 11.1, 11.2), arriving with a place free, puts exactly that order, with
its tag and every operand byte, at the tail of the port's queue, and changes nothing else (R181). -/
def Obligations.AnOrderFrameJoinsItsQueue : Prop :=
  ∀ (p : Port) (tag : Byte) (o : Order) (s : State), (s.port p).queue.length < 8 →
    exec (.frameArrival p (orderFrame tag o)) s
      = .next (s.setPort p { s.port p with queue := (s.port p).queue ++ [{ tag, order := o }] })

/-- The other outcomes of an arrival (R181, R201): a frame of another length than its length byte gives, or with a wrong
frame check, is discarded; one whose code and payload length are no order's is answered UNKNOWN; an order for a queue of 8
is answered FULL. Tag and code are echoed and nothing else changes. -/
def Obligations.OtherFramesAreDroppedOrAnswered : Prop :=
  ∀ (p : Port) (s : State),
    (∀ (length : Byte) (rest : List Byte), rest.length ≠ length.toNat →
      exec (.frameArrival p (length :: rest)) s = .next s)
      ∧ (∀ (length : Byte) (body check : List Byte), check.length = 2 → body.length + 2 = length.toNat →
          check ≠ envelopeCheck (length :: body) → exec (.frameArrival p (length :: (body ++ check))) s = .next s)
      ∧ (∀ (tag code : Byte) (payload : List Byte), payload.length ≤ 251 →
          (∀ o : Order, codeByte o = code → (orderPayload o).length ≠ payload.length) →
          exec (.frameArrival p (envelope (tag :: code :: payload)).tail) s
            = .next (s.sent p (.reply { tag, code, status := .unknown, stage := .final, results := .none })))
      ∧ (∀ (tag : Byte) (o : Order), 8 ≤ (s.port p).queue.length →
          exec (.frameArrival p (orderFrame tag o)) s = .next (s.sent p (finalReply tag o .full .none)))

/-- The inbound receiver byte by byte (R201), and the outbound side (R183). Hunting, it ignores every byte but 165; a length
byte below 4 or a pause makes it hunt again; it collects the bytes between; the whole of a frame of the length given has
the effect of its arrival. A sent frame gives place to the next one. -/
def Obligations.BytesMakeAFrame : Prop :=
  ∀ (p : Port) (s : State),
    (∀ b : Byte, (s.port p).receiver = .hunting → b ≠ 165 → exec (.orderLinkByteArrival p b) s = .next s)
      ∧ ((s.port p).receiver = .hunting → exec (.orderLinkByteArrival p 165) s
          = .next (s.setPort p { s.port p with receiver := .started, pause := 0 }))
      ∧ (∀ b : Byte, (s.port p).receiver = .started → exec (.orderLinkByteArrival p b) s
          = .next (s.setPort p { s.port p with
              receiver := if b.toNat < 4 then .hunting else .collecting b [], pause := 0 }))
      ∧ (∀ (b n : Byte) (bytes : List Byte), (s.port p).receiver = .collecting n bytes →
          bytes.length + 1 < n.toNat → exec (.orderLinkByteArrival p b) s
            = .next (s.setPort p { s.port p with receiver := .collecting n (bytes ++ [b]), pause := 0 }))
      ∧ (∀ (n : Byte) (rest : List Byte), (s.port p).receiver = .hunting → 4 ≤ n.toNat → rest.length = n.toNat →
          runCommands ((165 :: n :: rest).map (Instr.orderLinkByteArrival p)) s
            = exec (.frameArrival p (n :: rest)) (s.setPort p { s.port p with receiver := .hunting, pause := 0 }))
      ∧ exec (.orderFrameCutOff p) s
          = .next (s.setPort p { s.port p with receiver := .hunting, pause := 0 })
      ∧ exec (.outboundFrameSent p) s
          = .next (s.setPort p { s.port p with outbound := (s.port p).outbound.tail })

/-- The checks at the taking of any order on any port, in their order (R184 to R187, R16): the first that fails is
answered, the order has left its queue and consumed the preface record, and nothing else changes; PROTECT also stores
its NOTICE with the order's tag (R191). A plan order's reply carries the standby bank (R19). -/
def Obligations.ChecksAnswerInOrder : Prop :=
  ∀ (p : Port) (q : QueuedOrder) (s : State) (r : Results), s.atHead p q.tag q.order →
    r = (if isPlanOrder q.order = true then .plan s.pth.standby (s.bank s.pth.standby).state else .none) →
    if portAllows p q.order = false then
      exec (takingCommand p q) s = .next ((s.taken p).sent p (finalReply q.tag q.order .wrongPort r))
    else if s.ord.run = false ∧ admittedUnconfigured q.order = false then
      exec (takingCommand p q) s = .next ((s.taken p).sent p (finalReply q.tag q.order .unconfigured r))
    else if s.flt.halt = true ∧ admittedInHalt q.order = false then
      exec (takingCommand p q) s = .next ((s.taken p).sent p (finalReply q.tag q.order .lockedOut r))
    else if isProtected q.order = true
        ∧ (s.port p).preface ≠ some { code := codeByte q.order, payload := orderPayload q.order } then
      ∃ f x, exec (takingCommand p q) s
          = .next (({ s.taken p with flt := f }).sent p (finalReply q.tag q.order .protect r))
        ∧ f.queue.getLast? = some x ∧ x.kind = .protect ∧ x.cls = .notice ∧ x.key = .none ∧ x.tag = some q.tag
        ∧ x.p = s.pth.p ∧ x.serial = s.flt.serial ∧ f.latch = s.flt.latch ∧ f.halt = s.flt.halt
    else
      needsLiveEnd q.order = true → deskEnd p ≠ none → s.liveEnd ≠ deskEnd p →
        exec (takingCommand p q) s = .next ((s.taken p).sent p (finalReply q.tag q.order .notLive r))

/-- Every order taken but RESTART (which empties the queues) is answered (R182, R183, R190): the last frame made for its
port is a reply with its tag and code; it has left the queue; the preface record is consumed, and PREFACE alone may set it
anew; an acceptance bears DONE and stands for an order in the slot. Other ports' queues and records stay. That the reply
is the last frame also where the taking completes a deferred order of its port is the model's choice (log entry 11). -/
def Obligations.EveryOrderIsAnswered : Prop :=
  ∀ (p : Port) (q : QueuedOrder) (s : State), s.atHead p q.tag q.order → q.order ≠ .restart →
    ∃ t y, exec (takingCommand p q) s = .next t
      ∧ (t.port p).outbound.getLast? = some (.reply y) ∧ y.tag = q.tag ∧ y.code = codeByte q.order
      ∧ (t.port p).queue = (s.port p).queue.tail
      ∧ ((∀ c x1 x2 x3, q.order ≠ .preface c x1 x2 x3) → (t.port p).preface = none)
      ∧ (y.stage = .accepted → y.status = .done ∧ ∃ x, (t.port p).slot = some x ∧ x.tag = q.tag)
      ∧ ∀ p', p' ≠ p → (t.port p').queue = (s.port p').queue ∧ (t.port p').preface = (s.port p').preface

/-- PREFACE (R190, R202): the record holds the code with the bytes that OVERRIDE (code 10), CUT (26) or FORCE_RELEASE (24)
has; any other code is REFUSED and the record, consumed at the taking, stays absent. -/
def Obligations.PrefaceSetsTheRecord : Prop :=
  ∀ (p : Port) (tag code x y z : Byte) (s : State) (r : Option Preface), s.ready p tag (.preface code x y z) →
    r = (if code = 10 then some ⟨10, [x, y]⟩ else if code = 26 then some ⟨26, [x, y, z]⟩
         else if code = 24 then some ⟨24, []⟩ else none) →
    exec (.preface p tag code x y z) s = .next
      (((s.taken p).setPort p { (s.taken p).port p with preface := r }).sent p
        (finalReply tag (.preface code x y z) (if r.isSome = true then .done else .refused) .none))

/-- The parameters with their numbers (spec 11.2) and ranges: CONFIG clamps a value to its parameter's range and answers
CLAMPED, stores it at once in UNCONFIGURED, makes it wait in RUN at standstill, and is REFUSED for another number, in RUN
while moving, and for TRAM_ID 0 in RUN (R192); a count close brings every waiting value into force (R193). -/
def Obligations.ConfigStoresOrWaits : Prop :=
  (∀ (tag n : Byte) (v : BitVec 16) (s : State), s.ready .vehicle tag (.config n v) →
    (n.toNat = 0 ∨ 12 < n.toNat ∨ (s.ord.run = true ∧ s.standstill = false) →
        exec (.config .vehicle tag n v) s
          = .next ((s.taken .vehicle).sent .vehicle (finalReply tag (.config n v) .refused .none)))
      ∧ ∀ (q : Param) (lo hi x : Int) (status : Status),
          (n.toNat, q, lo, hi) ∈ [(1, Param.pulseDist, (1000 : Int), (20000 : Int)), (2, .tramLen, 1000, 6000),
            (3, .tramId, 0, 9999), (4, .trim, -16, 15), (5, .jerkUp, 5, 200), (6, .jerkDown, 5, 200),
            (7, .lineSpeed, 2000, 22000), (8, .crawl, 500, 2800), (9, .approachLen, 1000, 20000),
            (10, .standLen, 200, 3000), (11, .stopWindow, 100, 2000), (12, .handoverTime, 30, 300)] →
          x = max lo (min hi v.toInt) → status = (if x = v.toInt then .done else .clamped) →
          (s.ord.run = false → exec (.config .vehicle tag n v) s
              = .next (({ s.taken .vehicle with ord.config := s.ord.config.set q x }).sent .vehicle
                  (finalReply tag (.config n v) status (.config n x))))
            ∧ (s.ord.run = true → s.standstill = true → (q ≠ .tramId ∨ x ≠ 0) → exec (.config .vehicle tag n v) s
              = .next (({ s.taken .vehicle with ord.waiting := s.ord.waiting.set q (some x) }).sent .vehicle
                  (finalReply tag (.config n v) status (.config n x))))
            ∧ (s.ord.run = true → q = .tramId → x = 0 → exec (.config .vehicle tag n v) s
              = .next ((s.taken .vehicle).sent .vehicle (finalReply tag (.config n v) .refused .none))))
    ∧ ∀ s : State, ∃ t, exec .countClose s = .next t
        ∧ ∀ q, t.cfg q = (s.ord.waiting.get q).getD (s.cfg q) ∧ t.ord.waiting.get q = none

/-- CONFIG_DONE (R194): DONE in RUN without change; REFUSED with TRAM_ID 0 in force; else the operating state is RUN, which
check 2 and the count close read. TRAM_ID is not 0 in RUN: no command and no tick makes it so. -/
def Obligations.ConfigDoneEntersRun : Prop :=
  (∀ (tag : Byte) (s : State), s.ready .vehicle tag .configDone →
    exec (.configDone .vehicle tag) s = .next
      (if s.ord.run = true then (s.taken .vehicle).sent .vehicle (finalReply tag .configDone .done .none)
       else if s.cfg .tramId = 0 then (s.taken .vehicle).sent .vehicle (finalReply tag .configDone .refused .none)
       else ({ s.taken .vehicle with ord.run := true }).sent .vehicle (finalReply tag .configDone .done .none)))
    ∧ ∀ s t : State, (s.ord.run = true → s.cfg .tramId ≠ 0) → s.ord.waiting.get .tramId ≠ some 0 → step s = .next t →
        (t.ord.run = true → t.cfg .tramId ≠ 0) ∧ t.ord.waiting.get .tramId ≠ some 0

/-- IDENT and READ_FAULT (R195, R171), on every port, in UNCONFIGURED, RUN and HALT: nothing changes but that the order is
taken and answered. IDENT carries the identity; READ_FAULT the record at the position, or none, with the number of records
held, and is REFUSED above 15. -/
def Obligations.IdentAndReadFaultOnlyAnswer : Prop :=
  (∀ (p : Port) (tag : Byte) (s : State), s.atHead p tag .ident →
    exec (.ident p tag) s = .next ((s.taken p).sent p (finalReply tag .ident .done .ident)))
    ∧ resultBytes .ident = [122, 5, 2, 3, 64, 16, 8, 4, 26, 10]
    ∧ ∀ (p : Port) (tag n : Byte) (s : State), s.atHead p tag (.readFault n) →
        (15 < n.toNat → exec (.readFault p tag n) s
            = .next ((s.taken p).sent p (finalReply tag (.readFault n) .refused .none)))
          ∧ (n.toNat ≤ 15 → s.flt.queue.length ≤ n.toNat → exec (.readFault p tag n) s
              = .next ((s.taken p).sent p
                  (finalReply tag (.readFault n) .done (.fault none s.flt.queue.length))))
          ∧ (∀ r, n.toNat ≤ 15 → s.flt.queue[n.toNat]? = some r → exec (.readFault p tag n) s
              = .next ((s.taken p).sent p
                  (finalReply tag (.readFault n) .done (.fault (some r) s.flt.queue.length))))

/-- FAULT_TAKE (R170): the first record from position 0 that is no unacknowledged STOP record is removed and carried by the
reply with the number left; with no such record nothing changes and the reply carries none. -/
def Obligations.FaultTakeRemovesTheOldest : Prop :=
  ∀ (tag : Byte) (s : State), s.ready .vehicle tag .faultTake →
    (∀ a r b, s.flt.queue = a ++ r :: b → (∀ x ∈ a, x.acked = some false) → r.acked ≠ some false →
      exec (.faultTake .vehicle tag) s = .next (({ s.taken .vehicle with flt.queue := a ++ b }).sent .vehicle
        (finalReply tag .faultTake .done (.fault (some r) (a ++ b).length))))
      ∧ ((∀ x ∈ s.flt.queue, x.acked = some false) →
          exec (.faultTake .vehicle tag) s = .next ((s.taken .vehicle).sent .vehicle
            (finalReply tag .faultTake .done (.fault none s.flt.queue.length))))

/-- SETTLE (R102): BUSY with the port's slot occupied; outstanding, with an acceptance without results, while an entry of
the live plan is ASKED or MOVING; else answered at once with the port's list and MORE, the list emptied. An outstanding one
completes so, on every port at once, where no entry is ASKED or MOVING any more: at every command but a cold reset and a
RESTART, after the command's other effects, so that an id the same event has added (R101) is in it. Each step keeps that a
SETTLE is outstanding only while an exchange is in progress. -/
def Obligations.SettleHandsTheListOver : Prop :=
  (∀ (p : Port) (tag : Byte) (s : State), s.ready p tag .settle →
    ((s.port p).slot ≠ none →
        exec (.settle p tag) s = .next ((s.taken p).sent p (finalReply tag .settle .busy .none)))
      ∧ ((s.port p).slot = none →
          (∃ x ∈ s.liveEntries, ∃ j, x.2.point = .junction j ∧ (j.state = .asked ∨ j.state = .moving)) →
          exec (.settle p tag) s = .next ((s.taken p).setPort p { (s.taken p).port p with
            slot := some { tag, order := .settle, bank := s.pth.standby }
            outbound := (s.port p).outbound ++ [acceptance tag .settle .none] }))
      ∧ ((s.port p).slot = none →
          (∀ x ∈ s.liveEntries, ∀ j, x.2.point = .junction j → j.state ≠ .asked ∧ j.state ≠ .moving) →
          exec (.settle p tag) s = .next
            (({ s.taken p with jct.lists := s.jct.lists.set p { ids := [], more := false } }).sent p
              (finalReply tag .settle .done (.settle (s.jct.lists.get p).ids (s.jct.lists.get p).more)))))
    ∧ (∀ s : State, settleCompleted s (settleCheck s))
    ∧ (∀ (s : State) (id : Nat) (b : BankName) (i : Nat) (e : Entry) (j : Junction) (p : Port) (x : Slot)
        (command : Instr) (ids : List Nat) (more : Bool),
        s.hasJunction id b i e j → j.state = .asked ∨ j.state = .moving →
        (∀ y ∈ s.liveEntries, y.1 ≠ i → ∀ k, y.2.point = .junction k → k.state ≠ .asked ∧ k.state ≠ .moving) →
        (s.port p).slot = some x → x.order = .settle →
        (∃ (tram : BitVec 14) (w : BitVec 12), tram ≠ 0 ∧ w ≠ 0 ∧ (tram.toNat : Int) = s.cfg .tramId ∧ w.toNat = id
            ∧ command = .setLocked tram w j.number ∧ ids = (s.jct.lists.get p).ids ∧ more = (s.jct.lists.get p).more)
          ∨ (((∃ (tram : BitVec 14) (w : BitVec 12) (q : BitVec 3), tram ≠ 0 ∧ w ≠ 0
                ∧ (tram.toNat : Int) = s.cfg .tramId ∧ w.toNat = id ∧ 1 ≤ q.toNat ∧ q.toNat ≤ 4
                ∧ command = .refuse tram w j.number q)
              ∨ (j.timer ≠ .stopped ∧ command = .exchangeTimerExpiry id))
            ∧ if id ∈ (s.jct.lists.get p).ids then ids = (s.jct.lists.get p).ids ∧ more = (s.jct.lists.get p).more
              else if (s.jct.lists.get p).ids.length < 8 then
                ids = (s.jct.lists.get p).ids ++ [id] ∧ more = (s.jct.lists.get p).more
              else ids = (s.jct.lists.get p).ids ∧ more = true) →
        ∃ t, exec command s = .next t ∧ (t.port p).slot = none
          ∧ (t.port p).outbound = (s.port p).outbound ++ [completionReply x.tag 28 .done (.settle ids more)]
          ∧ t.jct.lists.get p = { ids := [], more := false })
    ∧ (∀ (c : Instr) (s t : State) (p : Port) (x : Slot),
        c ≠ .coldReset → (∀ q tag, c ≠ .restart q tag) → exec c s = .next t →
        (s.port p).slot = some x → x.order = .settle → s.exchangeInProgress = true →
        (t.exchangeInProgress = true → (t.port p).slot = some x)
          ∧ (t.exchangeInProgress = false → (t.port p).slot = none
              ∧ t.jct.lists.get p = { ids := [], more := false }
              ∧ ∃ ids more, completionReply x.tag 28 .done (.settle ids more) ∈ (t.port p).outbound))
    ∧ ∀ s t : State, (∀ p, s.settleOutstanding p = true → s.exchangeInProgress = true) → step s = .next t →
        ∀ p, t.settleOutstanding p = true → t.exchangeInProgress = true

/-- RESTART (R198, R199): REFUSED while moving; else on every port the deferred order and then each waiting order are
answered INTERRUPTED, on the vehicle link after the DONE of the RESTART, and slot, queue and preface record are empty. That
the INTERRUPTED of a waiting plan order, one that was never taken, bears the standby bank with its state as RESTART leaves it
is the model's reading (log entry 13). A CLEARING bank is EMPTY, a SEALING one FILLING with its entries, no switch is pending
(R42, R21, R24). LOOP is in its gap, its queue emptied; the CANCELs and RELEASEs it held are due again, each live junction
ASKED, MOVING or LOCKED is WAITING with its give-up and a new REQUEST due, and the due heads are offered (R105, R90). AUT is
VACANT, the lever record reset, the hold APPLIED, every sounder IDLE; p, E, the configuration, the faults, the doors, AXL
and the settle lists stay. -/
def Obligations.RestartInterruptsEverything : Prop :=
  ∀ (tag : Byte) (s : State), s.ready .vehicle tag .restart →
    (s.standstill = false → exec (.restart .vehicle tag) s
        = .next ((s.taken .vehicle).sent .vehicle (finalReply tag .restart .refused .none)))
      ∧ (s.standstill = true → ∃ t, exec (.restart .vehicle tag) s = .next t
          ∧ (∀ p, (t.port p).queue = [] ∧ (t.port p).slot = none ∧ (t.port p).preface = none)
          ∧ (∀ p, ∃ done, (t.port p).outbound
                = (s.port p).outbound ++ (if p = .vehicle then [finalReply tag .restart .done .none] else []) ++ done
                  ++ (((s.taken .vehicle).port p).queue.map fun q => finalReply q.tag q.order .interrupted
                      (if isPlanOrder q.order = true then .plan s.pth.standby (t.bank s.pth.standby).state else .none))
              ∧ ((s.port p).slot = none → done = [])
              ∧ ∀ x, (s.port p).slot = some x →
                  ∃ r, done = [completionReply x.tag (deferredCode x.order) .interrupted r])
          ∧ (t.aut.authority = .vacant ∧ t.aut.keys = s.aut.keys ∧ t.aut.lastLive = s.aut.lastLive
              ∧ t.aut.keyLost = false ∧ t.aut.gripHeld = false ∧ t.aut.handover = .stopped ∧ t.aut.silence = .stopped
              ∧ t.aut.vigilance = .stopped)
          ∧ (t.eff.e = s.eff.e ∧ t.eff.held = true ∧ t.eff.rollback = false ∧ t.eff.l = 0 ∧ t.eff.d = 0
              ∧ t.eff.selector = .neutral ∧ t.eff.taken = .forward ∧ t.eff.settleCount = max 10 s.eff.settleCount
              ∧ t.eff.settleReason = (if s.eff.settleCount < 10 then .restart else s.eff.settleReason))
          ∧ (∀ c, (t.snd.channel c).state = .idle ∧ (t.snd.channel c).queue = [] ∧ (t.snd.channel c).tone = .off)
          ∧ t.loop = { s.loop with queue := t.loop.queue, transmitter := .gap 0 }
          ∧ (t.liveBank = s.liveBank ∧ t.pth.p = s.pth.p ∧ t.pth.rem = s.pth.rem ∧ t.pth.pendingSwitch = false)
          ∧ (∀ x y, (s.bank s.pth.standby).state = .sealing x y →
              (t.bank s.pth.standby).state = .filling
                ∧ ∀ i, (t.entryAt s.pth.standby i).isSome = (s.entryAt s.pth.standby i).isSome)
          ∧ ((s.bank s.pth.standby).state = .clearing →
              (t.bank s.pth.standby).state = .empty ∧ (t.bank s.pth.standby).entries = [])
          ∧ (∃ u v, restartMade s u ∧ offeredAgain u v ∧ t.pth = v.pth ∧ t.loop.queue = v.loop.queue)
          ∧ (∀ x ∈ t.liveEntries, ∀ j, x.2.point = .junction j → j.state ≠ .moving ∧ j.state ≠ .locked)
          ∧ t.axl = s.axl ∧ t.stp = s.stp ∧ t.flt = s.flt ∧ t.jct = s.jct ∧ t.ord.run = s.ord.run
          ∧ t.ord.config = s.ord.config ∧ t.ord.waiting = s.ord.waiting ∧ t.ord.pictureCount = s.ord.pictureCount)

/-- The picture count rises at each count close; the one that finds it at 4 returns it to 0 and makes one picture of the
state for all three ports, behind the frames made before; no other count close makes one (R196). -/
def Obligations.APictureEveryFifthClose : Prop :=
  ∀ s : State, ∃ t, exec .countClose s = .next t
    ∧ t.ord.pictureCount = (if s.ord.pictureCount < 4 then s.ord.pictureCount + 1 else 0)
    ∧ ∀ p, ∃ l, (∀ f ∈ l, ∃ r, f = OutFrame.reply r)
        ∧ (t.port p).outbound = (s.port p).outbound ++ l
            ++ (if s.ord.pictureCount < 4 then [] else [OutFrame.picture t.picture])

/-! ### AUT (chapter 1) and the orders of the live end -/

/-- KEY from a desk (R3, R4, R202): a byte other than 0 and 1 is REFUSED; a report of the state held, and one from an end
that is not live, changes at most the key state; ON from the live end ends the key-lost condition; OFF at standstill offers
authority and opens the window; OFF while moving marks the key lost and, with no STOP fault open, stores KEY_OFF_MOVING and
sets the brake latch. At the first count close at standstill the key-lost end offers authority and opens the window (R5);
any other count close leaves AUT, but for the vigilance timer, and the lever record. -/
def Obligations.KeysMoveAuthority : Prop :=
  (∀ (p : Port) (tag k : Byte) (c : CabEnd) (on : Bool) (s u : State), s.ready p tag (.key k) → deskEnd p = some c →
    on = decide (k = 1) → u = { s.taken p with aut.keys := s.aut.keys.set c on } →
    (1 < k.toNat → exec (.key p tag k) s = .next ((s.taken p).sent p (finalReply tag (.key k) .refused .none)))
      ∧ (k.toNat ≤ 1 → s.aut.keys.get c = on →
          exec (.key p tag k) s = .next ((s.taken p).sent p (finalReply tag (.key k) .done .none)))
      ∧ (k.toNat ≤ 1 → s.liveEnd ≠ some c →
          exec (.key p tag k) s = .next (u.sent p (finalReply tag (.key k) .done .none)))
      ∧ (k = 1 → s.liveEnd = some c → s.aut.keys.get c = false →
          exec (.key p tag k) s = .next (({ u with aut.keyLost := false }).sent p (finalReply tag (.key k) .done .none)))
      ∧ (k = 0 → s.liveEnd = some c → s.aut.keys.get c = true → s.standstill = true →
          ∃ t, exec (.key p tag k) s = .next t
            ∧ t.aut = { u.aut with
                authority := .offered c, keyLost := false, silence := .stopped, vigilance := .stopped
                handover := .running ((s.cfg .handoverTime).toNat * 4000) 0 }
            ∧ t.eff = { s.eff with l := 0, selector := .neutral, taken := .forward, d := 0 }
            ∧ (t.port p).outbound = (s.port p).outbound ++ [finalReply tag (.key k) .done .none]
            ∧ t.axl = s.axl ∧ t.pth = s.pth ∧ t.jct = s.jct ∧ t.loop = s.loop ∧ t.stp = s.stp ∧ t.flt = s.flt
            ∧ t.snd.chime = s.snd.chime ∧ t.ord.run = s.ord.run ∧ t.ord.config = s.ord.config)
      ∧ (k = 0 → s.liveEnd = some c → s.aut.keys.get c = true → s.standstill = false → s.flt.latch = false →
          (∀ r ∈ s.flt.queue, r.acked ≠ some false) →
          ∃ f r, exec (.key p tag k) s = .next (({ u with aut.keyLost := true, flt := f }).sent p
              (finalReply tag (.key k) .done .none))
            ∧ f.queue.getLast? = some r ∧ r.kind = .keyOffMoving ∧ r.cls = .stop ∧ r.key = .cab c ∧ r.p = s.pth.p
            ∧ r.tag = none ∧ r.acked = some false ∧ f.latch = true ∧ f.halt = s.flt.halt))
    ∧ ∀ s : State, ∃ t, exec .countClose s = .next t
        ∧ (∀ c, s.liveEnd = some c → s.aut.keyLost = true → t.standstill = true →
            t.aut = { s.aut with
                authority := .offered c, keyLost := false, silence := .stopped, vigilance := .stopped
                handover := .running ((t.cfg .handoverTime).toNat * 4000) 0 }
              ∧ t.eff.l = 0 ∧ t.eff.selector = .neutral ∧ t.eff.taken = .forward ∧ t.eff.d = 0)
        ∧ (s.liveEnd = none ∨ s.aut.keyLost = false ∨ t.standstill = false →
            t.aut = { s.aut with vigilance := t.aut.vigilance }
              ∧ t.eff.l = s.eff.l ∧ t.eff.selector = s.eff.selector ∧ t.eff.taken = s.eff.taken ∧ t.eff.d = s.eff.d)

/-- A KEY ON never grants authority (R6): of all commands CLAIM alone makes an end live; with no live end a KEY, ON or OFF,
taken from either desk's queue records the key state and nothing more, so it neither grants authority nor closes the
window. -/
def Obligations.KeyOnNeverGrantsAuthority : Prop :=
  (∀ (c : Instr) (s t : State) (cab : CabEnd), exec c s = .next t → t.aut.authority = .live cab →
      s.aut.authority = .live cab ∨ ∃ p tag, c = .claim p tag)
    ∧ ∀ (p : Port) (tag k : Byte) (c : CabEnd) (s : State), s.ready p tag (.key k) → deskEnd p = some c →
        (s.port p).queue ≠ [] → k.toNat ≤ 1 → s.liveEnd = none →
        exec (.key p tag k) s = .next (({ s.taken p with aut.keys := s.aut.keys.set c (decide (k = 1)) }).sent p
          (finalReply tag (.key k) .done .none))

/-- CLAIM from a desk (R7, R8): DONE without change from the live end; REFUSED with the other end live, the key OFF, or
moving; else granted: AUT's fields, the lever record reset, settle AUTHORITY 10 offered. The direction end's own claim
keeps plan and position; the other's retires the live plan, with p and the remainder 0 and the request record dropped (R32,
R131); a switch that was pending then takes place, and completes with DONE (R27). That CLAIM's own DONE goes out after a
SETTLE of its port that the retirement completes, and that an idle transmitter begins after the last telegram made (R111),
are the model's choice (log entries 11 and 27). -/
def Obligations.ClaimGrantsAuthority : Prop :=
  ∀ (p : Port) (tag : Byte) (c : CabEnd) (s : State), s.ready p tag .claim → deskEnd p = some c →
    (s.liveEnd = some c →
        exec (.claim p tag) s = .next ((s.taken p).sent p (finalReply tag .claim .done .none)))
      ∧ (s.liveEnd ≠ some c → (s.liveEnd ≠ none ∨ s.aut.keys.get c = false ∨ s.standstill = false) →
          exec (.claim p tag) s = .next ((s.taken p).sent p (finalReply tag .claim .refused .none)))
      ∧ (s.liveEnd = none → s.aut.keys.get c = true → s.standstill = true →
          ∃ t, exec (.claim p tag) s = .next t
            ∧ t.aut = { s.aut with
                authority := .live c, keyLost := false, handover := .stopped, silence := .running 1200 0
                gripHeld := false, vigilance := .stopped, lastLive := some c }
            ∧ t.eff = { s.eff with
                l := 0, selector := .neutral, taken := .forward, d := 0
                settleCount := max 10 s.eff.settleCount
                settleReason := if s.eff.settleCount < 10 then .authority else s.eff.settleReason }
            ∧ (t.port p).outbound.getLast? = some (finalReply tag .claim .done .none)
            ∧ t.axl = s.axl ∧ t.snd = s.snd ∧ t.ord.run = s.ord.run ∧ t.ord.config = s.ord.config
            ∧ (if s.directionEnd = c then
                t.pth = s.pth ∧ t.loop = s.loop ∧ t.stp = s.stp ∧ t.flt = s.flt ∧ t.jct = s.jct
              else t.pth.p = 0 ∧ t.pth.rem = 0 ∧ t.pth.pendingSwitch = false
                ∧ transmitterBegun s.loop.queue { s.loop with queue := t.loop.queue } t.loop
                ∧ (s.liveBank ≠ none → s.pth.pendingSwitch = false → t.stp.request = none
                    ∧ ∀ r y, s.stp.request = some r → s.target = some y →
                        ∃ f, t.flt.queue.getLast? = some f ∧ f.kind = .requestDropped ∧ f.cls = .notice
                          ∧ f.key = .stop y.2.id ∧ f.tag = none)
                ∧ (s.pth.pendingSwitch = false → t.liveBank = none
                    ∧ ∀ b, s.liveBank = some b → (t.bank b).state = .stale)
                ∧ (∀ x : Slot, s.pth.pendingSwitch = true → (s.port .vehicle).slot = some x → x.order = .planSwitch →
                    (t.port .vehicle).slot = none
                      ∧ completionReply x.tag 17 .done (.plan x.bank (t.bank x.bank).state)
                        ∈ (t.port .vehicle).outbound
                      ∧ ∃ u : State, switchMade u t ∧ u.liveBank = none ∧ u.pth.standby = s.pth.standby
                          ∧ ((∀ y ∈ (s.bank s.pth.standby).entries, ∀ j, y.2.point = .junction j → j.due = []) →
                              u.bank s.pth.standby = s.bank s.pth.standby)
                          ∧ (∀ b, s.liveBank = some b → (u.bank b).state = .stale)
                          ∧ (s.liveBank ≠ none → u.stp.request = none))))

/-- FORCE_RELEASE (R11): REFUSED while moving, DONE without change in VACANT; else VACANT with every timer stopped, the
lever record reset and manual sounding let go (R154), keys, grip and last live end kept. The handover timer's expiry
(R10) makes OFFERED_n VACANT and changes nothing else. -/
def Obligations.AuthorityEndsByReleaseAndExpiry : Prop :=
  (∀ (tag : Byte) (s : State), s.ready .vehicle tag .forceRelease →
    (s.standstill = false → exec (.forceRelease .vehicle tag) s
        = .next ((s.taken .vehicle).sent .vehicle (finalReply tag .forceRelease .refused .none)))
      ∧ (s.standstill = true → s.aut.authority = .vacant → exec (.forceRelease .vehicle tag) s
          = .next ((s.taken .vehicle).sent .vehicle (finalReply tag .forceRelease .done .none)))
      ∧ (s.standstill = true → s.aut.authority ≠ .vacant →
          ∃ x, exec (.forceRelease .vehicle tag) s = .next (({ s.taken .vehicle with
              aut := { s.aut with
                authority := .vacant, keyLost := false, handover := .stopped, silence := .stopped
                vigilance := .stopped }
              eff := { s.eff with l := 0, selector := .neutral, taken := .forward, d := 0 }
              snd := x }).sent .vehicle (finalReply tag .forceRelease .done .none))
            ∧ x.chime = s.snd.chime ∧ x.night = s.snd.night
            ∧ (∀ k left letGo, s.snd.bell.state = .stroke k left letGo →
                x.bell = { s.snd.bell with state := .stroke k left true })
            ∧ (∀ n letGo, s.snd.horn.state = .blast n letGo → n < 1200 →
                x.horn = { s.snd.horn with state := .blast n true })))
    ∧ ∀ (s : State) (c : CabEnd), s.aut.authority = .offered c →
        exec .handoverTimerExpiry s = .next { s with aut.authority := .vacant, aut.handover := .stopped }

/-- The expiry of the running silence or vigilance timer with end c live (R13, R15, R166). With the latch clear it stores
DESK_SILENT or VIGILANCE, keyed by the end, and sets the latch. With an open record of that kind, only its repeat count
rises, to 255 at most. With the latch set by another kind it enters HALT: the record, LOCKOUT after it, each once a full queue
has given up a record (R169), and E, both codes, hold and emergency brake at once (R65, R176). A count close starts the
vigilance timer, stops and clears it, or leaves it, as the conditions of R14 then hold or not. -/
def Obligations.WatchesRaiseStops : Prop :=
  (∀ (s : State) (c : CabEnd) (command : Instr) (k : FaultKind), s.liveEnd = some c →
    ((command = .silenceTimerExpiry ∧ k = .deskSilent ∧ s.aut.silence ≠ .stopped)
      ∨ (command = .vigilanceTimerExpiry ∧ k = .vigilance ∧ ∃ n, s.aut.vigilance = .running n)) →
    ∃ t, exec command s = .next t
      ∧ t.aut.authority = s.aut.authority ∧ t.axl = s.axl ∧ t.pth = s.pth ∧ t.jct = s.jct ∧ t.loop = s.loop
      ∧ t.stp = s.stp ∧ t.ord = s.ord
      ∧ (k = .deskSilent → t.aut.silence = .stopped ∧ t.aut.vigilance = .stopped)
      ∧ (k = .vigilance → t.aut = { s.aut with vigilance := .expired } ∧ t.snd = s.snd)
      ∧ ((∀ r ∈ s.flt.queue, r.acked ≠ some false) → s.flt.latch = false →
          t.eff = s.eff ∧ t.flt.latch = true ∧ t.flt.halt = s.flt.halt
            ∧ ∃ room r, roomMade s.flt.queue room ∧ t.flt.queue = room ++ [r] ∧ r.kind = k ∧ r.cls = .stop ∧ r.key = .cab c ∧ r.p = s.pth.p
                ∧ r.tag = none ∧ r.count = 1 ∧ r.acked = some false ∧ r.serial = s.flt.serial)
      ∧ ((∃ r ∈ s.flt.queue, r.kind = k ∧ r.acked = some false) →
          t.eff = s.eff ∧ t.flt = { s.flt with
            queue := (s.flt.queue.map fun r =>
              if r.kind = k ∧ r.acked = some false then { r with count := min 255 (r.count + 1) } else r) })
      ∧ ((∀ r ∈ s.flt.queue, r.kind = k → r.acked ≠ some false) → s.flt.latch = true → s.flt.halt = false →
          t.flt.halt = true ∧ t.flt.latch = true
            ∧ t.eff = { s.eff with e := 0, c1 := 0, c2 := 0, held := true, emergencyBrake := true }
            ∧ ∃ a b first second, roomMade s.flt.queue first ∧ roomMade (first ++ [a]) second
                ∧ t.flt.queue = second ++ [b] ∧ a.kind = k ∧ a.key = .cab c ∧ b.kind = .lockout
                ∧ b.key = .none ∧ a.cls = .stop ∧ b.cls = .stop ∧ a.acked = some false ∧ b.acked = some false
                ∧ b.p = s.pth.p))
    ∧ ∀ s : State, s.faultsKept → ∃ t, exec .countClose s = .next t ∧ vigilanceKept s.aut.vigilance t

/-- ACK (R173, R174): REFUSED while moving or with D other than −1000; DONE with 0 with the latch clear; else every
unacknowledged STOP record is acknowledged in its place, the latch clear, settle LATCH 10 offered, the vigilance timer
started afresh if a suspension ends and its conditions hold (R15), and the reply carries how many there were. -/
def Obligations.AckClearsTheLatch : Prop :=
  ∀ (p : Port) (tag : Byte) (s : State), s.ready p tag .ack →
    (s.standstill = false ∨ s.eff.d ≠ -1000 →
        exec (.ack p tag) s = .next ((s.taken p).sent p (finalReply tag .ack .refused .none)))
      ∧ (s.standstill = true → s.eff.d = -1000 → s.flt.latch = false →
          exec (.ack p tag) s = .next ((s.taken p).sent p (finalReply tag .ack .done (.ack 0))))
      ∧ (s.standstill = true → s.eff.d = -1000 → s.flt.latch = true →
          ∃ t, exec (.ack p tag) s = .next t
            ∧ t.flt = { s.flt with
                latch := false
                queue := s.flt.queue.map fun r =>
                  if r.acked = some false then { r with acked := some true } else r }
            ∧ t.eff = { s.eff with
                settleCount := max 10 s.eff.settleCount
                settleReason := (if s.eff.settleCount < 10 then .latch else s.eff.settleReason) }
            ∧ t.aut = { s.aut with vigilance := t.aut.vigilance } ∧ vigilanceKept s.aut.vigilance t
            ∧ (t.port p).outbound = (s.port p).outbound ++ [finalReply tag .ack .done
                (.ack (s.flt.queue.filter fun r => r.acked == some false).length)]
            ∧ t.axl = s.axl ∧ t.pth = s.pth ∧ t.jct = s.jct ∧ t.loop = s.loop ∧ t.stp = s.stp ∧ t.snd = s.snd)

/-! ### EFF (chapter 4) -/

/-- LEVER from the live end's desk (R12, R14, R59 to R61): grip, silence timer and vigilance timer whatever the reply; L, −128 as −127; a
selector byte above 2, or a direction change while moving, is REFUSED and the selector kept; a direction change at
standstill offers settle DIRECTION 25; D is formed anew. -/
def Obligations.LeverIsTaken : Prop :=
  ∀ (p : Port) (tag l g x : Byte) (s : State) (change : Prop), s.ready p tag (.lever l g x) →
    (change ↔ (x = 0 ∧ s.eff.taken = .reverse) ∨ (x = 2 ∧ s.eff.taken = .forward)) →
    ∃ t status, exec (.lever p tag l g x) s = .next t
      ∧ t.aut = { s.aut with
          gripHeld := decide (g = 1), silence := .running 1200 0, vigilance := t.aut.vigilance }
      ∧ vigilanceKept s.aut.vigilance t
      ∧ t.eff.l = max (-127) l.toInt
      ∧ (∀ d : Int, d = (if t.eff.l.natAbs ≤ 4 then 0
            else t.eff.l.sign * (((t.eff.l.natAbs - 4) * 1000 + 61) / 123 : Nat)) →
          t.eff.d = if t.eff.selector = .neutral then min d 0 else d)
      ∧ (2 < x.toNat ∨ (change ∧ s.standstill = false) →
          status = .refused ∧ t.eff.selector = s.eff.selector ∧ t.eff.taken = s.eff.taken)
      ∧ (x = 1 → status = .done ∧ t.eff.selector = .neutral ∧ t.eff.taken = s.eff.taken)
      ∧ (x = 0 → ¬ change → status = .done ∧ t.eff.selector = .forward ∧ t.eff.taken = .forward)
      ∧ (x = 2 → ¬ change → status = .done ∧ t.eff.selector = .reverse ∧ t.eff.taken = .reverse)
      ∧ (x = 0 → change → s.standstill = true → status = .done ∧ t.eff.selector = .forward ∧ t.eff.taken = .forward)
      ∧ (x = 2 → change → s.standstill = true → status = .done ∧ t.eff.selector = .reverse ∧ t.eff.taken = .reverse)
      ∧ t.eff = { s.eff with
          l := t.eff.l, selector := t.eff.selector, taken := t.eff.taken, d := t.eff.d
          settleCount := t.eff.settleCount, settleReason := t.eff.settleReason }
      ∧ (change ∧ s.standstill = true ∧ s.eff.settleCount < 25 →
          t.eff.settleCount = 25 ∧ t.eff.settleReason = .direction)
      ∧ (¬ (change ∧ s.standstill = true ∧ s.eff.settleCount < 25) →
          t.eff.settleCount = s.eff.settleCount ∧ t.eff.settleReason = s.eff.settleReason)
      ∧ (t.port p).outbound = (s.port p).outbound ++ [finalReply tag (.lever l g x) status .none]
      ∧ t.axl = s.axl ∧ t.pth = s.pth ∧ t.jct = s.jct ∧ t.loop = s.loop ∧ t.stp = s.stp ∧ t.snd = s.snd ∧ t.flt = s.flt

/-- An emergency input's change sets its level, and its capture when it becomes active, and nothing else (R66). A count close
clears both captures, and leaves the sand on exactly while an IN bogie's factor is below 700 or the latch is set (R56). In
RUN, with the latch clear and an input seen, it sets the latch, asserts the emergency brake, raises EMERGENCY_BRAKE for
each end seen, End 1 first, and asks for HORN program 6 (R67). With the latch set it clears it at standstill, with no
input seen and no live end or D at −1000, offering settle EMERGENCY 25 before stage 6; else the latch stays and nothing
more is raised (R68). E is −1000 while latched, 0 in HALT, where the brake stays asserted (R65, R69). -/
def Obligations.EmergencyInputsBrake : Prop :=
  (∀ (c : CabEnd) (active : Bool) (s : State), ∃ t, exec (.emergencyInput c active) s = .next t
    ∧ (t.eff.inputs.get c).active = active
    ∧ ((t.eff.inputs.get c).capture = true ↔ (s.eff.inputs.get c).capture = true
        ∨ (active = true ∧ (s.eff.inputs.get c).active = false))
    ∧ t.eff.inputs.get (otherEnd c) = s.eff.inputs.get (otherEnd c)
    ∧ t = { s with eff.inputs := t.eff.inputs })
    ∧ ∀ s : State, ∃ t, exec .countClose s = .next t
        ∧ (∀ d, (t.eff.inputs.get d).capture = false ∧ (t.eff.inputs.get d).active = (s.eff.inputs.get d).active)
        ∧ (t.axl.sand = true ↔ t.eff.latch = true
            ∨ ∃ b, (t.axl.bogie b).cut = false ∧ (t.axl.bogie b).adhesion < 700)
        ∧ ∀ (seen : CabEnd → Prop) (clears : Prop),
            (∀ c, seen c ↔ (s.eff.inputs.get c).active = true ∨ (s.eff.inputs.get c).capture = true) →
            (clears ↔ t.standstill = true ∧ (∀ c, ¬ seen c) ∧ (t.liveEnd = none ∨ t.eff.d = -1000)) →
            s.ord.run = true →
            (s.eff.latch = false → (∃ c, seen c) →
                t.eff.latch = true ∧ t.eff.emergencyBrake = true ∧ t.eff.e = (if s.flt.halt = true then 0 else -1000)
                  ∧ t.eff.settleCount = s.eff.settleCount
                  ∧ (s.aut.keyLost = false → programAsked .horn s.snd.night 6 s.snd.horn t.snd.horn)
                  ∧ (t.flt.queue.length < 16 → ∃ (a rs z : List FaultRecord) (ends : List CabEnd),
                      t.flt.queue = a ++ rs ++ z ∧ ends.Sublist [.one, .two] ∧ (∀ c, c ∈ ends ↔ seen c)
                        ∧ rs.map (fun r => (r.kind, r.cls, r.key))
                          = ends.map (fun c => (FaultKind.emergencyBrake, FaultClass.notice, FaultKey.cab c))
                        ∧ (∀ r ∈ rs, r.p = t.pth.p ∧ r.tag = none) ∧ ∀ r ∈ z, r.kind = .rollback))
              ∧ (s.eff.latch = true → ¬ clears →
                t.eff.latch = true ∧ t.eff.emergencyBrake = true ∧ t.eff.e = (if s.flt.halt = true then 0 else -1000)
                  ∧ t.eff.settleCount = s.eff.settleCount
                  ∧ (t.eff.overspeed = true → s.eff.overspeed = true))
              ∧ (s.eff.latch = true → clears →
                t.eff.latch = false ∧ t.eff.emergencyBrake = s.flt.halt ∧ (s.flt.halt = true → t.eff.e = 0)
                  ∧ t.eff.settleCount = (if s.flt.halt = true then max 25 s.eff.settleCount
                      else max 25 s.eff.settleCount - 1)
                  ∧ (s.eff.settleCount < 25 → t.eff.settleReason = .emergency))
              ∧ (s.eff.latch = true → (s.aut.keyLost = false → t.snd.horn = s.snd.horn)
                  ∧ (t.flt.queue.length < 16 → t.flt.queue.filter (fun r => r.kind == .emergencyBrake)
                      = s.flt.queue.filter fun r => r.kind == .emergencyBrake))

/-- At every count close the cap in force is the least of LINE_SPEED, the zone cap but under REVERSE (R100), and CRAWL
under REVERSE, under UNKNOWN, and with no live plan or after its end (R74); the travel sense follows selector and
direction end (R80). In RUN, out of HALT, with the emergency latch clear and no input seen, or at the clearing of the
latch (R68): T is D, −200 with no live end, −1000 with the brake latch set; then −200 at most while the dwell state is not
RUNNING, 0 at most while a settle count remains or above the cap, −300 at most above the cap + 1400, where OVERSPEED is
noted once (R70 to R75). E moves toward T by one step of R76. Each code word is its bogie's share at the neutral point
with the trim, within 1..4095, or 0 when CUT (R78, R79). The hold brake is applied after 10 standstills without power or at
a rollback, and released by E of 150 or more (R81, R82). -/
def Obligations.EffortFollowsTheStages : Prop :=
  (∀ s : State, ∃ t zone, exec .countClose s = .next t ∧ t.isZoneCap zone
    ∧ t.eff.cap = min (min (t.cfg .lineSpeed) (if t.eff.selector = .reverse then t.cfg .crawl else zone))
        (if t.axl.record.unknown = true ∨ t.liveBank = none ∨ t.pth.planEnd = true then t.cfg .crawl
          else t.cfg .lineSpeed)
    ∧ t.eff.sense = (if t.eff.selector = .reverse then otherEnd t.directionEnd else t.directionEnd)
    ∧ (t.vSel ≤ t.eff.cap → t.eff.overspeed = false))
    ∧ ∀ s : State, s.ord.run = true → s.flt.halt = false → ∃ t, exec .countClose s = .next t
        ∧ (∀ (held : Int) (count : Nat),
            (∀ c, (s.eff.inputs.get c).active = false ∧ (s.eff.inputs.get c).capture = false) →
            (s.eff.latch = false ∧ held = s.eff.e ∧ count = s.eff.settleCount)
              ∨ (s.eff.latch = true ∧ t.standstill = true ∧ (t.liveEnd = none ∨ t.eff.d = -1000)
                ∧ held = -1000 ∧ count = max 25 s.eff.settleCount) →
            t.eff.latch = false ∧ t.eff.emergencyBrake = false ∧ t.eff.settleCount = count - 1
              ∧ (t.eff.overspeed = true ↔ t.eff.cap + 1400 < t.vSel ∨ (s.eff.overspeed = true ∧ t.eff.cap < t.vSel))
              ∧ (t.eff.cap + 1400 < t.vSel → 0 ≤ t.eff.cap → s.eff.overspeed = false →
                  ∃ r, t.flt.queue.getLast? = some r ∧ r.kind = .overspeed ∧ r.cls = .notice ∧ r.key = .none
                    ∧ r.p = t.pth.p ∧ r.tag = none)
              ∧ (∀ (t1 t2 t3 target : Int),
                  t1 = (if t.flt.latch = true then -1000 else if t.liveEnd = none then -200 else t.eff.d) →
                  t2 = (if t.stp.dwell = .running then t1 else min t1 (-200)) →
                  t3 = (if 0 < count then min t2 0 else t2) →
                  target = (if t.eff.cap + 1400 < t.vSel then min t3 (-300) else if t.eff.cap < t.vSel then min t3 0
                    else t3) →
                  t.eff.e =
                    if target = held then held
                    else if 0 ≤ held ∧ held < target then min (held + t.cfg .jerkUp) target
                    else if 0 < held ∧ target < held then max (max (held - t.cfg .jerkDown) target) 0
                    else if held ≤ 0 ∧ target < held then max (held - t.cfg .jerkUp) target
                    else min (min (held + t.cfg .jerkDown) target) 0))
        ∧ (∀ (b : Bogie) (code : Nat) (x : Int), code = (match b with | .b1 => t.eff.c1 | .b2 => t.eff.c2) →
            x = Int.tdiv (t.eff.e * (t.axl.bogie b).adhesion) 1000 * 2047 →
            (code : Int) = if (t.axl.bogie b).cut = true then 0
              else max 1 (min 4095 (2048 + t.cfg .trim + x.sign * (((x.natAbs + 500) / 1000 : Nat) : Int))))
        ∧ t.eff.runCounter = (if t.standstill = true ∧ t.eff.e ≤ 0 then min 10 (s.eff.runCounter + 1) else 0)
        ∧ (s.eff.held = false → t.vSel < -150 → 0 ≤ t.eff.d →
            t.eff.held = true ∧ t.eff.rollback = true ∧ ∃ r, t.flt.queue.getLast? = some r ∧ r.kind = .rollback
              ∧ r.cls = .notice ∧ r.key = .none ∧ r.p = t.pth.p ∧ r.tag = none)
        ∧ (s.eff.held = false → ¬ (t.vSel < -150 ∧ 0 ≤ t.eff.d) →
            (t.eff.held = true ↔ t.eff.runCounter = 10) ∧ t.eff.rollback = s.eff.rollback)
        ∧ (s.eff.held = true → ∀ lifts : Prop,
            (lifts ↔ 150 ≤ t.eff.e ∧ t.eff.selector ≠ .neutral ∧ (s.eff.rollback = false ∨ t.standstill = true)) →
            (lifts → t.eff.held = false ∧ t.eff.rollback = false)
              ∧ (¬ lifts → t.eff.held = true ∧ t.eff.rollback = s.eff.rollback))

/-- A count close in UNCONFIGURED or in HALT (R64, R65, R81): E and both code words are 0, the hold state is APPLIED and the
run counter counts standstills; the emergency brake follows the inputs in UNCONFIGURED, where the latch stays, and stays
asserted in HALT. -/
def Obligations.EffortIsZeroOutsideService : Prop :=
  ∀ s : State, s.ord.run = false ∨ s.flt.halt = true →
    ∃ t, exec .countClose s = .next t
      ∧ t.eff.e = 0 ∧ t.eff.c1 = 0 ∧ t.eff.c2 = 0 ∧ t.eff.held = true ∧ t.ord.run = s.ord.run ∧ t.flt.halt = s.flt.halt
      ∧ t.eff.runCounter = (if t.standstill = true then min 10 (s.eff.runCounter + 1) else 0)
      ∧ (s.ord.run = false → t.eff.latch = s.eff.latch ∧ t.eff.settleCount = s.eff.settleCount
          ∧ (t.eff.emergencyBrake = true ↔
              ∃ c, (s.eff.inputs.get c).active = true ∨ (s.eff.inputs.get c).capture = true))
      ∧ (s.ord.run = true → t.eff.emergencyBrake = true)

/-! ### STP (chapter 7) -/

/-- A sample of the 26 buttons (R122): a level equal to the debounced state clears the run count, a differing one raises
it, and the third in a row changes the state, a release also at 20 s of pressed time (the model's choice, log entry 25). A
button PRESSED for 20 s is marked STUCK, with a NOTICE keyed by its number (R123). Presses with the dwell state RUNNING and
a target act on its request record, with CHIME program 8 at its creation and 9 at its first ACCESS press; others change no
record and ask for no chime (R127). The command BUTTON_STUCK marks a PRESSED button without the mark whatever its pressed
time, which it sets to 20 s (the model's choice, log entry 18), with the same NOTICE, and changes nothing else. -/
def Obligations.ButtonsAreDebounced : Prop :=
  (∀ (s : State) (levels : List Bool), levels.length = 26 → s.stp.buttons.length = 26 → s.stp.levels.length = 26 →
    ∃ t, exec (.buttonSample levels) s = .next t ∧ t.stp.levels = levels ∧ t.stp.buttons.length = 26
      ∧ (∀ (n : Nat) (d : Debouncer) (x : Bool), s.stp.buttons[n]? = some d → levels[n]? = some x →
          ∃ d', t.stp.buttons[n]? = some d'
            ∧ (x ≠ d.pressed → 2 ≤ d.run → d' = { pressed := x, run := 0, time := 0, stuck := false })
            ∧ (x = d.pressed ∨ d.run < 2 → d' = { d with
                run := if x = d.pressed then 0 else d.run + 1
                time := if d.pressed = true then min 2000 (d.time + 1) else 0
                stuck := d.stuck || (d.pressed && decide (2000 ≤ d.time + 1)) }))
      ∧ (∀ stuck : Nat → Prop,
          (∀ n, stuck n ↔ ∃ d x, s.stp.buttons[n]? = some d ∧ levels[n]? = some x ∧ d.pressed = true ∧ d.stuck = false
            ∧ 2000 ≤ d.time + 1 ∧ (x = true ∨ d.run < 2)) →
          ((∀ n, ¬ stuck n) → t.flt = s.flt)
            ∧ (t.flt.queue.length < 16 → ∃ rs : List FaultRecord, t.flt.queue = s.flt.queue ++ rs
                ∧ (rs.map FaultRecord.key).Nodup ∧ (∀ n, stuck n ↔ ∃ r ∈ rs, r.key = .button (n + 1))
                ∧ ∀ r ∈ rs, r.kind = .buttonStuck ∧ r.cls = .notice ∧ r.p = s.pth.p ∧ r.tag = none
                  ∧ ∃ n, r.key = .button (n + 1)))
      ∧ (∀ press : List Nat,
          press = ((List.range 26).filter fun n => (s.stp.buttons[n]?).any fun d =>
            !d.pressed && decide (2 ≤ d.run) && (levels[n]?).getD false) →
          (s.stp.dwell ≠ .running ∨ s.target = none ∨ press = [] → t.stp.request = s.stp.request ∧ t.snd = s.snd)
            ∧ (s.stp.dwell = .running → s.target ≠ none → press ≠ [] →
                (∃ r, t.stp.request = some r ∧ ∀ old : RequestRecord,
                  old = s.stp.request.getD
                    ⟨false, false, ⟨false, false, false, false, false, false⟩, s.pth.p, 0⟩ →
                  r = { ordinary := old.ordinary || press.any (· < 24)
                        access := old.access || press.any (24 ≤ ·)
                        zones :=
                          { z1 := old.zones.z1 || press.any (· < 6)
                            z2 := old.zones.z2 || press.any (fun n => 6 ≤ n && n < 12)
                            z3 := old.zones.z3 || press.any (fun n => 12 ≤ n && n < 18)
                            z4 := old.zones.z4 || press.any (fun n => 18 ≤ n && n < 24)
                            aL := old.zones.aL || press.any (· == 24)
                            aR := old.zones.aR || press.any (· == 25) }
                        firstP := old.firstP
                        count := min 255 (old.count + press.length) })
                  ∧ t.snd = { s.snd with chime := t.snd.chime }
                  ∧ ∃ y, (if s.stp.request = none then programAsked .chime s.snd.night 8 s.snd.chime y
                      else y = s.snd.chime)
                    ∧ if (press.any fun n => 24 ≤ n) = true ∧ s.stp.request.any RequestRecord.access = false then
                        programAsked .chime s.snd.night 9 y t.snd.chime
                      else t.snd.chime = y))
      ∧ t.stp.dwell = s.stp.dwell ∧ t.stp.dwellRecord = s.stp.dwellRecord ∧ t.aut = s.aut ∧ t.axl = s.axl
      ∧ t.pth = s.pth ∧ t.eff = s.eff ∧ t.jct = s.jct ∧ t.loop = s.loop ∧ t.ord = s.ord ∧ t.flt.latch = s.flt.latch)
    ∧ ∀ (s : State) (n : Nat) (d : Debouncer), s.stp.buttons[n]? = some d → d.pressed = true → d.stuck = false →
        ∃ f r, exec (.buttonStuck (n + 1)) s = .next { s with
            stp.buttons := s.stp.buttons.set n { d with stuck := true, time := 2000 }, flt := f }
          ∧ f.queue.getLast? = some r ∧ r.kind = .buttonStuck ∧ r.cls = .notice ∧ r.key = .button (n + 1)
          ∧ r.p = s.pth.p ∧ r.tag = none ∧ r.serial = s.flt.serial ∧ f.latch = s.flt.latch ∧ f.halt = s.flt.halt

/-- DOORS from the live end's desk (R133 to R135): REFUSED for a byte that is no side, in CLOSING or UNSECURED, moving, or
with E above 0. In RUNNING it enters DWELL with the sides asked; in DWELL the sides become the union. A target within its
window is served unless this dwell has served a stop: its state SERVED, its record cleared and carried by the reply, its
access sides the dwell's wish; a target outside its window is not. A ramp that is wanted is granted on the served stop's
ramp side where that is among the permit sides, and once granted stays. -/
def Obligations.DoorsGrantPermits : Prop :=
  ∀ (p : Port) (tag x r : Byte) (s : State), s.ready p tag (.doors x r) →
    (x = 0 ∨ 3 < x.toNat ∨ s.stp.dwell = .closing ∨ s.stp.dwell = .unsecured ∨ s.standstill = false ∨ 0 < s.eff.e →
        exec (.doors p tag x r) s = .next ((s.taken p).sent p (finalReply tag (.doors x r) .refused .none)))
      ∧ ∀ (side : Side) (d : DwellRecord), (x, side) ∈ [(1, Side.left), (2, .right), (3, .both)] →
          s.standstill = true → s.eff.e ≤ 0 →
          (s.stp.dwell = .running ∧ d = { sides := none, ramp := none, served := none, wish := ⟨false, false⟩ })
            ∨ (s.stp.dwell = .dwell ∧ s.stp.dwellRecord = some d) →
          ∃ t d' served, exec (.doors p tag x r) s = .next t
            ∧ t.stp.dwell = .dwell ∧ t.stp.dwellRecord = some d'
            ∧ d'.sides = (if d.sides = none ∨ d.sides = some side then some side else some .both)
            ∧ (t.port p).outbound = (s.port p).outbound
                ++ [finalReply tag (.doors x r) .done (.doors d'.sides d'.ramp served)]
            ∧ (d.served = none → ∀ i e z, s.target = some (i, e) → e.point = .stop z →
                e.distance ≤ s.pth.p + s.cfgNat .stopWindow → s.pth.p < e.distance + s.cfgNat .stopWindow →
                d'.served = some (e.id, z.side) ∧ served = some (e.id, s.stp.request) ∧ t.stp.request = none
                  ∧ (d'.wish.aL = true ↔ ∃ q, s.stp.request = some q ∧ q.zones.aL = true)
                  ∧ (d'.wish.aR = true ↔ ∃ q, s.stp.request = some q ∧ q.zones.aR = true)
                  ∧ ∃ b, s.liveBank = some b
                      ∧ t.pth = (s.withSlot b i (some { e with point := .stop { z with state := .served } })).pth)
            ∧ (d.served ≠ none
                  ∨ (∀ i e, s.target = some (i, e) → s.pth.p + s.cfgNat .stopWindow < e.distance
                      ∨ e.distance + s.cfgNat .stopWindow ≤ s.pth.p) →
                d'.served = d.served ∧ d'.wish = d.wish ∧ served = none ∧ t.stp.request = s.stp.request
                  ∧ t.pth = s.pth)
            ∧ (d.ramp ≠ none → d'.ramp = d.ramp)
            ∧ (d'.served = none → d'.ramp = d.ramp)
            ∧ (∀ id platform ramp, d.ramp = none → d'.served = some (id, platform) →
                ramp = (if platform = .right ∨ (platform = .both ∧ d'.wish.aR = true ∧ d'.wish.aL = false) then RampSide.right
                  else .left) →
                d'.ramp = if (d'.wish.aL = true ∨ d'.wish.aR = true ∨ r ≠ 0)
                    ∧ (d'.sides = some .both ∨ (d'.sides = some .left ∧ ramp = .left)
                      ∨ (d'.sides = some .right ∧ ramp = .right)) then
                  some ramp else none)
            ∧ t.eff = s.eff ∧ t.aut = s.aut ∧ t.axl = s.axl ∧ t.jct = s.jct ∧ t.loop = s.loop ∧ t.snd = s.snd
            ∧ t.flt = s.flt

/-- CLOSE in DWELL withdraws the permits, sets the report NOT_LOCKED and enters CLOSING (R137); elsewhere it is REFUSED.
DOOR_STATE and a change of the ramp input are recorded (R139, R140): secure, CLOSING and UNSECURED end in RUNNING with
settle DOORS 5 and, from CLOSING, BELL program 2 (R138); in RUNNING, not secure at standstill with E at 0 or below gives
UNSECURED; else, with no STOP fault open, DOOR_OPEN_MOVING is stored and the latch set. A count close in RUNNING at
standstill, with E at 0 or below before its computation, finds the same, raises nothing of it and gives UNSECURED (R141). -/
def Obligations.ClosingSecuresTheTram : Prop :=
  (∀ (p : Port) (tag : Byte) (s : State), s.ready p tag .close →
    (s.stp.dwell ≠ .dwell →
        exec (.close p tag) s = .next ((s.taken p).sent p (finalReply tag .close .refused .none)))
      ∧ (∀ d, s.stp.dwell = .dwell → s.stp.dwellRecord = some d →
          exec (.close p tag) s = .next (({ s.taken p with
              stp.dwell := .closing
              stp.doorsLocked := false
              stp.dwellRecord := some { d with sides := none, ramp := none } }).sent p
            (finalReply tag .close .done .none))))
    ∧ (∀ (command : Instr) (s u : State),
        (∃ tag k, command = .doorState .vehicle tag k ∧ s.ready .vehicle tag (.doorState k)
            ∧ u = ({ s.taken .vehicle with stp.doorsLocked := decide (k = 1) }).sent .vehicle
                (finalReply tag (.doorState k) .done .none))
          ∨ (∃ stowed, command = .rampStowedChange stowed ∧ stowed ≠ s.stp.rampStowed
              ∧ u = { s with stp.rampStowed := stowed }) →
        ∃ t, exec command s = .next t
          ∧ (u.stp.doorsLocked = true → u.stp.rampStowed = true → s.stp.dwell = .closing ∨ s.stp.dwell = .unsecured →
              t = { u with
                stp.dwell := .running, stp.dwellRecord := none
                eff.settleCount := max 5 s.eff.settleCount
                eff.settleReason := (if s.eff.settleCount < 5 then .doors else s.eff.settleReason)
                snd := t.snd }
              ∧ (s.stp.dwell = .unsecured → t.snd = s.snd)
              ∧ (s.stp.dwell = .closing → s.snd.bell.state = .idle → s.snd.bell.queue = [] →
                  t.snd.bell = { s.snd.bell with
                    state := .program 2 1 600 false, tone := .high, full := !s.snd.night }))
          ∧ (s.stp.dwell = .closing ∨ s.stp.dwell = .unsecured ∨ s.stp.dwell = .dwell →
              u.stp.doorsLocked = false ∨ u.stp.rampStowed = false ∨ s.stp.dwell = .dwell → t = u)
          ∧ (s.stp.dwell = .running → (command = .rampStowedChange true ∨ ∃ tag, command = .doorState .vehicle tag 1) →
              t = u)
          ∧ (s.stp.dwell = .running →
              (command = .rampStowedChange false ∨ ∃ tag k, k ≠ 1 ∧ command = .doorState .vehicle tag k) →
              if s.standstill = true ∧ s.eff.e ≤ 0 then t = { u with stp.dwell := .unsecured }
              else s.flt.latch = false → (∀ r ∈ s.flt.queue, r.acked ≠ some false) →
                t = { u with flt := t.flt } ∧ t.flt.latch = true ∧ t.flt.halt = s.flt.halt
                  ∧ ∃ r, t.flt.queue.getLast? = some r ∧ r.kind = .doorOpenMoving ∧ r.cls = .stop ∧ r.key = .none
                      ∧ r.p = s.pth.p ∧ r.tag = none ∧ r.acked = some false))
    ∧ ∀ s : State, ∃ t, exec .countClose s = .next t
        ∧ t.stp = { s.stp with
            request := t.stp.request
            dwell := if s.stp.dwell = .running ∧ t.standstill = true ∧ s.eff.e ≤ 0
                ∧ (s.stp.doorsLocked = false ∨ s.stp.rampStowed = false) then .unsecured else s.stp.dwell }
        ∧ t.flt.latch = s.flt.latch ∧ t.flt.halt = s.flt.halt

/-! ### SND (chapter 8) -/

/-- The vehicle link's sound orders (R147, R156 to R158). SOUND is REFUSED outside 1..10; else the request on the program's
channel is MERGED with the running program or a queued one, QUEUED behind a sounding, or STARTED on an IDLE channel at its
first step, and the reply carries channel and outcome. SOUND_BREAK empties a channel's queue and marks a running program, and is REFUSED
for a byte above 2. LEVEL sets the level alone. -/
def Obligations.SoundOrdersReachTheChannels : Prop :=
  (∀ (tag n : Byte) (s : State), s.ready .vehicle tag (.sound n) →
    (n = 0 ∨ 10 < n.toNat → exec (.sound .vehicle tag n) s
        = .next ((s.taken .vehicle).sent .vehicle (finalReply tag (.sound n) .refused .none)))
      ∧ ∀ (c : Channel) (x y : ChannelRecord) (k : SoundOutcome), 1 ≤ n.toNat → n.toNat ≤ 10 →
          c = (if n.toNat ≤ 4 then .bell else if n.toNat ≤ 7 then .horn else .chime) → x = s.snd.channel c →
          (k = .merged ∧ y = x ∧ (n.toNat ∈ x.queue ∨ ∃ step left, x.state = .program n.toNat step left false))
            ∨ (k = .queued ∧ x.state ≠ .idle ∧ n.toNat ∉ x.queue ∧ x.queue.length < 4
                ∧ (∀ step left, x.state ≠ .program n.toNat step left false)
                ∧ y = { x with queue := x.queue ++ [n.toNat] })
            ∨ (∃ tone time, k = .started ∧ x.state = .idle ∧ x.queue = []
                ∧ (programSteps n.toNat)[0]? = some (tone, time)
                ∧ y = { x with
                    state := .program n.toNat 1 time false, tone := tone, full := (c == .horn || !s.snd.night) }) →
          exec (.sound .vehicle tag n) s
            = .next (({ s.taken .vehicle with snd := s.snd.setChannel c y }).sent .vehicle
                (finalReply tag (.sound n) .done (.sound c k))))
    ∧ (∀ (tag n : Byte) (s : State), s.ready .vehicle tag (.soundBreak n) → 2 < n.toNat →
        exec (.soundBreak .vehicle tag n) s
          = .next ((s.taken .vehicle).sent .vehicle (finalReply tag (.soundBreak n) .refused .none)))
    ∧ (∀ (tag n : Byte) (c : Channel) (x : ChannelRecord) (s : State), s.ready .vehicle tag (.soundBreak n) →
        (n, c) ∈ [(0, Channel.bell), (1, .horn), (2, .chime)] → x = s.snd.channel c →
        ∃ y, exec (.soundBreak .vehicle tag n) s
            = .next (({ s.taken .vehicle with snd := s.snd.setChannel c y }).sent .vehicle
                (finalReply tag (.soundBreak n) .done .none))
          ∧ (∀ m step left mark, x.state = .program m step left mark →
              y = { x with queue := [], state := .program m step left true })
          ∧ ((∀ m step left mark, x.state ≠ .program m step left mark) → y = { x with queue := [] }))
    ∧ ∀ (tag n : Byte) (s : State), s.ready .vehicle tag (.level n) →
        exec (.level .vehicle tag n) s = .next
          (if n.toNat ≤ 1 then
            ({ s.taken .vehicle with snd.night := decide (n = 1) }).sent .vehicle (finalReply tag (.level n) .done .none)
          else (s.taken .vehicle).sent .vehicle (finalReply tag (.level n) .refused .none))

/-- Manual sounding from the live end's desk (R150, R152, R153): HOLD takes the channel over from a program or from IDLE, or
withdraws a let-go; LET_GO marks the bell's stroke and the horn's blast, and ends a blast of 300 ms at once. Another operand
is REFUSED. -/
def Obligations.ManualSoundingTakesTheChannel : Prop :=
  ∀ (p : Port) (tag n : Byte) (s : State) (c : Channel) (command : Instr) (o : Order) (x : ChannelRecord),
    ((c = .bell ∧ command = .bell p tag n ∧ o = .bell n) ∨ (c = .horn ∧ command = .horn p tag n ∧ o = .horn n)) →
    s.ready p tag o → x = s.snd.channel c →
    (1 < n.toNat → exec command s = .next ((s.taken p).sent p (finalReply tag o .refused .none)))
      ∧ ∀ y : ChannelRecord,
          (n = 1 ∧ c = .bell ∧ (x.state = .idle ∨ ∃ m k l b, x.state = .program m k l b)
              ∧ y = { x with state := .stroke 1 600 false, tone := .high, full := !s.snd.night })
            ∨ (n = 1 ∧ c = .horn ∧ (x.state = .idle ∨ ∃ m k l b, x.state = .program m k l b)
              ∧ y = { x with state := .blast 0 false, tone := .high, full := true })
            ∨ (∃ k l b, x.state = .stroke k l b ∧ y = { x with state := .stroke k l (decide (n = 0)) } ∧ n.toNat ≤ 1)
            ∨ (∃ m b, x.state = .blast m b ∧ y = { x with state := .blast m (decide (n = 0)) } ∧ n.toNat ≤ 1
                ∧ (n = 0 → m < 1200))
            ∨ (∃ m b, n = 0 ∧ c = .horn ∧ x.state = .blast m b ∧ 1200 ≤ m ∧ x.queue = []
                ∧ y = { x with state := .idle, tone := .off })
            ∨ (n = 0 ∧ (x.state = .idle ∨ ∃ m k l b, x.state = .program m k l b) ∧ y = x) →
          exec command s = .next
            (({ s.taken p with snd := s.snd.setChannel c y }).sent p (finalReply tag o .done .none))

/-- The events of the sounders (R148, R152, R153). At a step's expiry the next step starts, unless the program was at its
last step or bears the break mark: then the oldest program of the queue starts at its first step, or the channel is IDLE.
The bell's stroke goes from step 1 to step 2; its end starts the next stroke, or ends a sounding let go; a let-go blast
ends when it has sounded 300 ms. The ten programs' steps are those of R146, in ticks. -/
def Obligations.SoundersGoStepByStep : Prop :=
  [1, 2, 3, 4, 5, 6, 7, 8, 9, 10].map programSteps
    = [[(.high, 600), (.off, 1400)],
       [(.high, 600), (.off, 600), (.high, 600), (.off, 1600)],
       [(.high, 480), (.off, 480), (.high, 480), (.off, 480), (.high, 480), (.off, 1200)],
       [(.high, 600), (.off, 600)],
       [(.high, 2000), (.off, 800)],
       [(.low, 6000), (.off, 1200)],
       [(.high, 1600), (.low, 1600), (.off, 800)],
       [(.high, 1200), (.low, 2000), (.off, 800)],
       [(.low, 1200), (.high, 1200), (.low, 1200), (.off, 800)],
       [(.high, 800), (.off, 800)]]
  ∧ ∀ (s : State) (c : Channel) (x y z : ChannelRecord), x = s.snd.channel c →
    (x.queue = [] ∧ y = { x with state := .idle, tone := .off })
      ∨ (∃ n rest tone time, x.queue = n :: rest ∧ (programSteps n)[0]? = some (tone, time)
          ∧ y = { x with
              state := .program n 1 time false, queue := rest, tone := tone, full := (c == .horn || !s.snd.night) }) →
    (∀ n k l tone time, x.state = .program n k l false → 1 ≤ k → (programSteps n)[k]? = some (tone, time) →
        exec (.stepExpiry c) s = .next { s with snd := s.snd.setChannel c { x with
          state := .program n (k + 1) time false, tone := tone, full := (c == .horn || !s.snd.night) } })
      ∧ (∀ n k l b, x.state = .program n k l b → b = true ∨ (programSteps n).length ≤ k →
          exec (.stepExpiry c) s = .next { s with snd := s.snd.setChannel c y })
      ∧ (c = .bell → z = { x with state := .stroke 1 600 false, tone := .high, full := !s.snd.night } →
          (∀ l b, x.state = .stroke 1 l b → exec (.stepExpiry .bell) s = .next { s with
              snd.bell := { x with state := .stroke 2 600 b, tone := .off, full := !s.snd.night } })
            ∧ (∀ l, x.state = .stroke 2 l false → exec .bellStrokeEnd s = .next { s with snd.bell := z })
            ∧ (∀ l, x.state = .stroke 2 l true → exec .bellStrokeEnd s = .next { s with snd.bell := y }))
      ∧ (c = .horn →
          (∀ m, x.state = .blast m true → exec .hornMinimum s = .next { s with snd.horn := y })
            ∧ (∀ m, x.state = .blast m false →
                exec .hornMinimum s = .next { s with snd.horn := { x with state := .blast 1200 false } }))

/-! ### What every step keeps -/

/-- Every step keeps the bounds of the queues and lists (R101, R109, R147, R182): 8 orders a port, 8 telegrams with no
junction twice, 8 ids with none twice in a settle list, 4 programs of the ten with none twice on a channel, and none
queued on an IDLE one (R146, R148). -/
def Obligations.EveryStepKeepsTheQueueBounds : Prop :=
  ∀ s t : State, s.queuesBounded → step s = .next t → t.queuesBounded

/-- Every step keeps the fault queue's law (R162, R163, R166, R168) and the latch's (R166, R172, R176, R187): at most 16
records and one unacknowledged STOP record of a kind; the brake latch set exactly while one is held; HALT only with the
latch. In HALT E and both code words are 0, the hold APPLIED and the emergency brake asserted. -/
def Obligations.EveryStepKeepsTheFaultLaws : Prop :=
  ∀ s t : State, s.faultsKept → s.latchKept → s.lockedDown → step s = .next t →
    t.faultsKept ∧ t.latchKept ∧ t.lockedDown

/-- Every step keeps each parameter in its range (R192) and E at 0 or below while the dwell state is not RUNNING (R71,
R143). -/
def Obligations.EveryStepHoldsTheDwell : Prop :=
  ∀ s t : State, s.configInRange → s.dwellBraked → step s = .next t → t.configInRange ∧ t.dwellBraked

/-- Every step keeps AUT's fields in agreement with the authority state (R1, R10, R12, R14). -/
def Obligations.EveryStepKeepsAuthorityConsistent : Prop :=
  ∀ s t : State, s.authorityKept → step s = .next t → t.authorityKept

/-- The state after reset meets every law that the steps keep. -/
def Obligations.ResetMeetsEveryLaw : Prop :=
  State.reset.queuesBounded ∧ State.reset.faultsKept ∧ State.reset.latchKept ∧ State.reset.lockedDown
    ∧ State.reset.configInRange ∧ State.reset.dwellBraked ∧ State.reset.authorityKept
    ∧ (State.reset.ord.run = true → State.reset.cfg .tramId ≠ 0) ∧ State.reset.ord.waiting.get .tramId ≠ some 0
    ∧ ∀ p, State.reset.settleOutstanding p = false

/-- Every command answers a next state, leaving the waiting commands and the model's clock alone. CONFIG_DONE alone enters
RUN, a cold reset alone leaves RUN or HALT, a count close or a cold reset alone changes the speed record (R52, R176, R186),
and with AUT's fields consistent CLAIM or a cold reset alone moves the direction end (R2). -/
def Obligations.FewCommandsChangeTheModes : Prop :=
  ∀ (c : Instr) (s : State), ∃ t, exec c s = .next t ∧ t.pending = s.pending ∧ t.clock = s.clock
    ∧ (s.ord.run = false → t.ord.run = true → ∃ p tag, c = .configDone p tag)
    ∧ (s.ord.run = true → t.ord.run = false → c = .coldReset)
    ∧ (s.flt.halt = true → t.flt.halt = false → c = .coldReset)
    ∧ (t.axl.record ≠ s.axl.record → c = .countClose ∨ c = .coldReset)
    ∧ (s.authorityKept → t.directionEnd ≠ s.directionEnd → (∃ p tag, c = .claim p tag) ∨ c = .coldReset)
end

