-- ==== Sys2Proof/Laws/State.lean ====
section
/-! SUPPORT. Laws/State.lean: what each named update of State changes and leaves, one lemma per field. -/

namespace Sys2Proof.Machine


/-! ### A port, a bank, a channel replaced -/

@[simp] theorem setPort_aut (p : Port) (c : PortContext) (s : State) : (s.setPort p c).aut = s.aut := rfl
@[simp] theorem setPort_axl (p : Port) (c : PortContext) (s : State) : (s.setPort p c).axl = s.axl := rfl
@[simp] theorem setPort_pth (p : Port) (c : PortContext) (s : State) : (s.setPort p c).pth = s.pth := rfl
@[simp] theorem setPort_eff (p : Port) (c : PortContext) (s : State) : (s.setPort p c).eff = s.eff := rfl
@[simp] theorem setPort_jct (p : Port) (c : PortContext) (s : State) : (s.setPort p c).jct = s.jct := rfl
@[simp] theorem setPort_loop (p : Port) (c : PortContext) (s : State) : (s.setPort p c).loop = s.loop := rfl
@[simp] theorem setPort_stp (p : Port) (c : PortContext) (s : State) : (s.setPort p c).stp = s.stp := rfl
@[simp] theorem setPort_snd (p : Port) (c : PortContext) (s : State) : (s.setPort p c).snd = s.snd := rfl
@[simp] theorem setPort_flt (p : Port) (c : PortContext) (s : State) : (s.setPort p c).flt = s.flt := rfl
@[simp] theorem setPort_pending (p : Port) (c : PortContext) (s : State) : (s.setPort p c).pending = s.pending := rfl
@[simp] theorem setPort_clock (p : Port) (c : PortContext) (s : State) : (s.setPort p c).clock = s.clock := rfl
@[simp] theorem setBank_aut (b : BankName) (x : Bank) (s : State) : (s.setBank b x).aut = s.aut := by cases b <;> rfl
@[simp] theorem setBank_axl (b : BankName) (x : Bank) (s : State) : (s.setBank b x).axl = s.axl := by cases b <;> rfl
@[simp] theorem setBank_eff (b : BankName) (x : Bank) (s : State) : (s.setBank b x).eff = s.eff := by cases b <;> rfl
@[simp] theorem setBank_jct (b : BankName) (x : Bank) (s : State) : (s.setBank b x).jct = s.jct := by cases b <;> rfl
@[simp] theorem setBank_loop (b : BankName) (x : Bank) (s : State) : (s.setBank b x).loop = s.loop := by cases b <;> rfl
@[simp] theorem setBank_stp (b : BankName) (x : Bank) (s : State) : (s.setBank b x).stp = s.stp := by cases b <;> rfl
@[simp] theorem setBank_snd (b : BankName) (x : Bank) (s : State) : (s.setBank b x).snd = s.snd := by cases b <;> rfl
@[simp] theorem setBank_flt (b : BankName) (x : Bank) (s : State) : (s.setBank b x).flt = s.flt := by cases b <;> rfl
@[simp] theorem setBank_ord (b : BankName) (x : Bank) (s : State) : (s.setBank b x).ord = s.ord := by cases b <;> rfl
@[simp] theorem setBank_pending (b : BankName) (x : Bank) (s : State) : (s.setBank b x).pending = s.pending := by cases b <;> rfl
@[simp] theorem setBank_clock (b : BankName) (x : Bank) (s : State) : (s.setBank b x).clock = s.clock := by cases b <;> rfl
@[simp] theorem modPort_aut (p : Port) (f : PortContext → PortContext) (s : State) : (modPort p f s).aut = s.aut := rfl
@[simp] theorem modPort_axl (p : Port) (f : PortContext → PortContext) (s : State) : (modPort p f s).axl = s.axl := rfl
@[simp] theorem modPort_pth (p : Port) (f : PortContext → PortContext) (s : State) : (modPort p f s).pth = s.pth := rfl
@[simp] theorem modPort_eff (p : Port) (f : PortContext → PortContext) (s : State) : (modPort p f s).eff = s.eff := rfl
@[simp] theorem modPort_jct (p : Port) (f : PortContext → PortContext) (s : State) : (modPort p f s).jct = s.jct := rfl
@[simp] theorem modPort_loop (p : Port) (f : PortContext → PortContext) (s : State) : (modPort p f s).loop = s.loop := rfl
@[simp] theorem modPort_stp (p : Port) (f : PortContext → PortContext) (s : State) : (modPort p f s).stp = s.stp := rfl
@[simp] theorem modPort_snd (p : Port) (f : PortContext → PortContext) (s : State) : (modPort p f s).snd = s.snd := rfl
@[simp] theorem modPort_flt (p : Port) (f : PortContext → PortContext) (s : State) : (modPort p f s).flt = s.flt := rfl
@[simp] theorem modPort_pending (p : Port) (f : PortContext → PortContext) (s : State) : (modPort p f s).pending = s.pending := rfl
@[simp] theorem modPort_clock (p : Port) (f : PortContext → PortContext) (s : State) : (modPort p f s).clock = s.clock := rfl
@[simp] theorem pushFrame_aut (p : Port) (f : OutFrame) (s : State) : (pushFrame p f s).aut = s.aut := rfl
@[simp] theorem pushFrame_axl (p : Port) (f : OutFrame) (s : State) : (pushFrame p f s).axl = s.axl := rfl
@[simp] theorem pushFrame_pth (p : Port) (f : OutFrame) (s : State) : (pushFrame p f s).pth = s.pth := rfl
@[simp] theorem pushFrame_eff (p : Port) (f : OutFrame) (s : State) : (pushFrame p f s).eff = s.eff := rfl
@[simp] theorem pushFrame_jct (p : Port) (f : OutFrame) (s : State) : (pushFrame p f s).jct = s.jct := rfl
@[simp] theorem pushFrame_loop (p : Port) (f : OutFrame) (s : State) : (pushFrame p f s).loop = s.loop := rfl
@[simp] theorem pushFrame_stp (p : Port) (f : OutFrame) (s : State) : (pushFrame p f s).stp = s.stp := rfl
@[simp] theorem pushFrame_snd (p : Port) (f : OutFrame) (s : State) : (pushFrame p f s).snd = s.snd := rfl
@[simp] theorem pushFrame_flt (p : Port) (f : OutFrame) (s : State) : (pushFrame p f s).flt = s.flt := rfl
@[simp] theorem pushFrame_pending (p : Port) (f : OutFrame) (s : State) : (pushFrame p f s).pending = s.pending := rfl
@[simp] theorem pushFrame_clock (p : Port) (f : OutFrame) (s : State) : (pushFrame p f s).clock = s.clock := rfl
@[simp] theorem pushReply_aut (p : Port) (r : Reply) (s : State) : (pushReply p r s).aut = s.aut := rfl
@[simp] theorem pushReply_axl (p : Port) (r : Reply) (s : State) : (pushReply p r s).axl = s.axl := rfl
@[simp] theorem pushReply_pth (p : Port) (r : Reply) (s : State) : (pushReply p r s).pth = s.pth := rfl
@[simp] theorem pushReply_eff (p : Port) (r : Reply) (s : State) : (pushReply p r s).eff = s.eff := rfl
@[simp] theorem pushReply_jct (p : Port) (r : Reply) (s : State) : (pushReply p r s).jct = s.jct := rfl
@[simp] theorem pushReply_loop (p : Port) (r : Reply) (s : State) : (pushReply p r s).loop = s.loop := rfl
@[simp] theorem pushReply_stp (p : Port) (r : Reply) (s : State) : (pushReply p r s).stp = s.stp := rfl
@[simp] theorem pushReply_snd (p : Port) (r : Reply) (s : State) : (pushReply p r s).snd = s.snd := rfl
@[simp] theorem pushReply_flt (p : Port) (r : Reply) (s : State) : (pushReply p r s).flt = s.flt := rfl
@[simp] theorem pushReply_pending (p : Port) (r : Reply) (s : State) : (pushReply p r s).pending = s.pending := rfl
@[simp] theorem pushReply_clock (p : Port) (r : Reply) (s : State) : (pushReply p r s).clock = s.clock := rfl
@[simp] theorem modChannel_aut (c : Channel) (f : ChannelRecord → ChannelRecord) (s : State) : (modChannel c f s).aut = s.aut := rfl
@[simp] theorem modChannel_axl (c : Channel) (f : ChannelRecord → ChannelRecord) (s : State) : (modChannel c f s).axl = s.axl := rfl
@[simp] theorem modChannel_pth (c : Channel) (f : ChannelRecord → ChannelRecord) (s : State) : (modChannel c f s).pth = s.pth := rfl
@[simp] theorem modChannel_eff (c : Channel) (f : ChannelRecord → ChannelRecord) (s : State) : (modChannel c f s).eff = s.eff := rfl
@[simp] theorem modChannel_jct (c : Channel) (f : ChannelRecord → ChannelRecord) (s : State) : (modChannel c f s).jct = s.jct := rfl
@[simp] theorem modChannel_loop (c : Channel) (f : ChannelRecord → ChannelRecord) (s : State) : (modChannel c f s).loop = s.loop := rfl
@[simp] theorem modChannel_stp (c : Channel) (f : ChannelRecord → ChannelRecord) (s : State) : (modChannel c f s).stp = s.stp := rfl
@[simp] theorem modChannel_flt (c : Channel) (f : ChannelRecord → ChannelRecord) (s : State) : (modChannel c f s).flt = s.flt := rfl
@[simp] theorem modChannel_ord (c : Channel) (f : ChannelRecord → ChannelRecord) (s : State) : (modChannel c f s).ord = s.ord := rfl
@[simp] theorem modChannel_pending (c : Channel) (f : ChannelRecord → ChannelRecord) (s : State) : (modChannel c f s).pending = s.pending := rfl
@[simp] theorem modChannel_clock (c : Channel) (f : ChannelRecord → ChannelRecord) (s : State) : (modChannel c f s).clock = s.clock := rfl
@[simp] theorem modEntry_aut (b : BankName) (i : Nat) (f : Entry → Entry) (s : State) : (s.modEntry b i f).aut = s.aut := by simp [State.modEntry]
@[simp] theorem modEntry_axl (b : BankName) (i : Nat) (f : Entry → Entry) (s : State) : (s.modEntry b i f).axl = s.axl := by simp [State.modEntry]
@[simp] theorem modEntry_eff (b : BankName) (i : Nat) (f : Entry → Entry) (s : State) : (s.modEntry b i f).eff = s.eff := by simp [State.modEntry]
@[simp] theorem modEntry_jct (b : BankName) (i : Nat) (f : Entry → Entry) (s : State) : (s.modEntry b i f).jct = s.jct := by simp [State.modEntry]
@[simp] theorem modEntry_loop (b : BankName) (i : Nat) (f : Entry → Entry) (s : State) : (s.modEntry b i f).loop = s.loop := by simp [State.modEntry]
@[simp] theorem modEntry_stp (b : BankName) (i : Nat) (f : Entry → Entry) (s : State) : (s.modEntry b i f).stp = s.stp := by simp [State.modEntry]
@[simp] theorem modEntry_snd (b : BankName) (i : Nat) (f : Entry → Entry) (s : State) : (s.modEntry b i f).snd = s.snd := by simp [State.modEntry]
@[simp] theorem modEntry_flt (b : BankName) (i : Nat) (f : Entry → Entry) (s : State) : (s.modEntry b i f).flt = s.flt := by simp [State.modEntry]
@[simp] theorem modEntry_ord (b : BankName) (i : Nat) (f : Entry → Entry) (s : State) : (s.modEntry b i f).ord = s.ord := by simp [State.modEntry]
@[simp] theorem modEntry_pending (b : BankName) (i : Nat) (f : Entry → Entry) (s : State) : (s.modEntry b i f).pending = s.pending := by simp [State.modEntry]
@[simp] theorem modEntry_clock (b : BankName) (i : Nat) (f : Entry → Entry) (s : State) : (s.modEntry b i f).clock = s.clock := by simp [State.modEntry]
@[simp] theorem modJunction_aut (b : BankName) (i : Nat) (f : Junction → Junction) (s : State) : (s.modJunction b i f).aut = s.aut := by simp [State.modJunction]
@[simp] theorem modJunction_axl (b : BankName) (i : Nat) (f : Junction → Junction) (s : State) : (s.modJunction b i f).axl = s.axl := by simp [State.modJunction]
@[simp] theorem modJunction_eff (b : BankName) (i : Nat) (f : Junction → Junction) (s : State) : (s.modJunction b i f).eff = s.eff := by simp [State.modJunction]
@[simp] theorem modJunction_jct (b : BankName) (i : Nat) (f : Junction → Junction) (s : State) : (s.modJunction b i f).jct = s.jct := by simp [State.modJunction]
@[simp] theorem modJunction_loop (b : BankName) (i : Nat) (f : Junction → Junction) (s : State) : (s.modJunction b i f).loop = s.loop := by simp [State.modJunction]
@[simp] theorem modJunction_stp (b : BankName) (i : Nat) (f : Junction → Junction) (s : State) : (s.modJunction b i f).stp = s.stp := by simp [State.modJunction]
@[simp] theorem modJunction_snd (b : BankName) (i : Nat) (f : Junction → Junction) (s : State) : (s.modJunction b i f).snd = s.snd := by simp [State.modJunction]
@[simp] theorem modJunction_flt (b : BankName) (i : Nat) (f : Junction → Junction) (s : State) : (s.modJunction b i f).flt = s.flt := by simp [State.modJunction]
@[simp] theorem modJunction_ord (b : BankName) (i : Nat) (f : Junction → Junction) (s : State) : (s.modJunction b i f).ord = s.ord := by simp [State.modJunction]
@[simp] theorem modJunction_pending (b : BankName) (i : Nat) (f : Junction → Junction) (s : State) : (s.modJunction b i f).pending = s.pending := by simp [State.modJunction]
@[simp] theorem modJunction_clock (b : BankName) (i : Nat) (f : Junction → Junction) (s : State) : (s.modJunction b i f).clock = s.clock := by simp [State.modJunction]
@[simp] theorem modStop_aut (b : BankName) (i : Nat) (f : Stop → Stop) (s : State) : (s.modStop b i f).aut = s.aut := by simp [State.modStop]
@[simp] theorem modStop_axl (b : BankName) (i : Nat) (f : Stop → Stop) (s : State) : (s.modStop b i f).axl = s.axl := by simp [State.modStop]
@[simp] theorem modStop_eff (b : BankName) (i : Nat) (f : Stop → Stop) (s : State) : (s.modStop b i f).eff = s.eff := by simp [State.modStop]
@[simp] theorem modStop_jct (b : BankName) (i : Nat) (f : Stop → Stop) (s : State) : (s.modStop b i f).jct = s.jct := by simp [State.modStop]
@[simp] theorem modStop_loop (b : BankName) (i : Nat) (f : Stop → Stop) (s : State) : (s.modStop b i f).loop = s.loop := by simp [State.modStop]
@[simp] theorem modStop_stp (b : BankName) (i : Nat) (f : Stop → Stop) (s : State) : (s.modStop b i f).stp = s.stp := by simp [State.modStop]
@[simp] theorem modStop_snd (b : BankName) (i : Nat) (f : Stop → Stop) (s : State) : (s.modStop b i f).snd = s.snd := by simp [State.modStop]
@[simp] theorem modStop_flt (b : BankName) (i : Nat) (f : Stop → Stop) (s : State) : (s.modStop b i f).flt = s.flt := by simp [State.modStop]
@[simp] theorem modStop_ord (b : BankName) (i : Nat) (f : Stop → Stop) (s : State) : (s.modStop b i f).ord = s.ord := by simp [State.modStop]
@[simp] theorem modStop_pending (b : BankName) (i : Nat) (f : Stop → Stop) (s : State) : (s.modStop b i f).pending = s.pending := by simp [State.modStop]
@[simp] theorem modStop_clock (b : BankName) (i : Nat) (f : Stop → Stop) (s : State) : (s.modStop b i f).clock = s.clock := by simp [State.modStop]

@[simp] theorem get_set_port {α : Type} (t : PerPort α) (p : Port) (x : α) : (t.set p x).get p = x := by cases p <;> rfl

theorem get_set_port_ne {α : Type} (t : PerPort α) {p q : Port} (x : α) (h : q ≠ p) : (t.set p x).get q = t.get q := by
  cases p <;> cases q <;> first | rfl | exact absurd rfl h

@[simp] theorem get_set_end {α : Type} (t : PerEnd α) (c : CabEnd) (x : α) : (t.set c x).get c = x := by cases c <;> rfl

theorem get_set_end_ne {α : Type} (t : PerEnd α) {c d : CabEnd} (x : α) (h : d ≠ c) : (t.set c x).get d = t.get d := by
  cases c <;> cases d <;> first | rfl | exact absurd rfl h

@[simp] theorem get_set_axle {α : Type} (t : PerAxle α) (a : Axle) (x : α) : (t.set a x).get a = x := by cases a <;> rfl

theorem get_set_axle_ne {α : Type} (t : PerAxle α) {a b : Axle} (x : α) (h : b ≠ a) : (t.set a x).get b = t.get b := by
  cases a <;> cases b <;> first | rfl | exact absurd rfl h

@[simp] theorem get_map_axle {α β : Type} (f : α → β) (t : PerAxle α) (a : Axle) : (t.map f).get a = f (t.get a) := by
  cases a <;> rfl

@[simp] theorem get_set_table {α : Type} (t : Table α) (q : Param) (x : α) : (t.set q x).get q = x := by cases q <;> rfl

theorem get_set_table_ne {α : Type} (t : Table α) {q r : Param} (x : α) (h : r ≠ q) : (t.set q x).get r = t.get r := by
  cases q <;> cases r <;> first | rfl | exact absurd rfl h

@[simp] theorem channel_setChannel (x : Snd) (c : Channel) (y : ChannelRecord) : (x.setChannel c y).channel c = y := by
  cases c <;> rfl

theorem channel_setChannel_ne (x : Snd) {c d : Channel} (y : ChannelRecord) (h : d ≠ c) :
    (x.setChannel c y).channel d = x.channel d := by
  cases c <;> cases d <;> first | rfl | exact absurd rfl h

@[simp] theorem night_setChannel (x : Snd) (c : Channel) (y : ChannelRecord) : (x.setChannel c y).night = x.night := by
  cases c <;> rfl

@[simp] theorem bank_setBank (b : BankName) (x : Bank) (s : State) : (s.setBank b x).bank b = x := by cases b <;> rfl

theorem bank_setBank_ne {b c : BankName} (x : Bank) (s : State) (h : c ≠ b) : (s.setBank b x).bank c = s.bank c := by
  cases b <;> cases c <;> first | rfl | exact absurd rfl h

@[simp] theorem otherBank_otherBank (b : BankName) : otherBank (otherBank b) = b := by cases b <;> rfl

@[simp] theorem otherBank_ne (b : BankName) : otherBank b ≠ b := by cases b <;> decide

@[simp] theorem port_setPort (p : Port) (c : PortContext) (s : State) : (s.setPort p c).port p = c := by
  simp [State.port, State.setPort]

theorem port_setPort_ne {p q : Port} (c : PortContext) (s : State) (h : q ≠ p) : (s.setPort p c).port q = s.port q := by
  simp [State.port, State.setPort, get_set_port_ne _ _ h]

@[simp] theorem port_modPort (p : Port) (f : PortContext → PortContext) (s : State) :
    (modPort p f s).port p = f (s.port p) := by simp [modPort]

theorem port_modPort_ne {p q : Port} (f : PortContext → PortContext) (s : State) (h : q ≠ p) :
    (modPort p f s).port q = s.port q := by simp [modPort, port_setPort_ne _ _ h]

@[simp] theorem setBank_pth_p (b : BankName) (x : Bank) (s : State) : (s.setBank b x).pth.p = s.pth.p := by
  cases b <;> rfl

@[simp] theorem setBank_pth_rem (b : BankName) (x : Bank) (s : State) : (s.setBank b x).pth.rem = s.pth.rem := by
  cases b <;> rfl

@[simp] theorem setBank_pth_standby (b : BankName) (x : Bank) (s : State) : (s.setBank b x).pth.standby = s.pth.standby := by
  cases b <;> rfl

@[simp] theorem setBank_pth_firedEnd (b : BankName) (x : Bank) (s : State) : (s.setBank b x).pth.firedEnd = s.pth.firedEnd := by
  cases b <;> rfl

@[simp] theorem setBank_pth_planEnd (b : BankName) (x : Bank) (s : State) : (s.setBank b x).pth.planEnd = s.pth.planEnd := by
  cases b <;> rfl

@[simp] theorem setBank_pth_pendingSwitch (b : BankName) (x : Bank) (s : State) : (s.setBank b x).pth.pendingSwitch = s.pth.pendingSwitch := by
  cases b <;> rfl

@[simp] theorem setBank_pth_opTicks (b : BankName) (x : Bank) (s : State) : (s.setBank b x).pth.opTicks = s.pth.opTicks := by
  cases b <;> rfl

@[simp] theorem modJunction_pth_p (b : BankName) (i : Nat) (f : Junction → Junction) (s : State) :
    (s.modJunction b i f).pth.p = s.pth.p := by
  simp [State.modJunction, State.modEntry]

@[simp] theorem modJunction_pth_rem (b : BankName) (i : Nat) (f : Junction → Junction) (s : State) :
    (s.modJunction b i f).pth.rem = s.pth.rem := by
  simp [State.modJunction, State.modEntry]

@[simp] theorem modJunction_pth_standby (b : BankName) (i : Nat) (f : Junction → Junction) (s : State) :
    (s.modJunction b i f).pth.standby = s.pth.standby := by
  simp [State.modJunction, State.modEntry]

@[simp] theorem modJunction_pth_firedEnd (b : BankName) (i : Nat) (f : Junction → Junction) (s : State) :
    (s.modJunction b i f).pth.firedEnd = s.pth.firedEnd := by
  simp [State.modJunction, State.modEntry]

@[simp] theorem modJunction_pth_planEnd (b : BankName) (i : Nat) (f : Junction → Junction) (s : State) :
    (s.modJunction b i f).pth.planEnd = s.pth.planEnd := by
  simp [State.modJunction, State.modEntry]

@[simp] theorem modJunction_pth_pendingSwitch (b : BankName) (i : Nat) (f : Junction → Junction) (s : State) :
    (s.modJunction b i f).pth.pendingSwitch = s.pth.pendingSwitch := by
  simp [State.modJunction, State.modEntry]

@[simp] theorem modJunction_pth_opTicks (b : BankName) (i : Nat) (f : Junction → Junction) (s : State) :
    (s.modJunction b i f).pth.opTicks = s.pth.opTicks := by
  simp [State.modJunction, State.modEntry]

@[simp] theorem modStop_pth_p (b : BankName) (i : Nat) (f : Stop → Stop) (s : State) :
    (s.modStop b i f).pth.p = s.pth.p := by
  simp [State.modStop, State.modEntry]

@[simp] theorem modStop_pth_rem (b : BankName) (i : Nat) (f : Stop → Stop) (s : State) :
    (s.modStop b i f).pth.rem = s.pth.rem := by
  simp [State.modStop, State.modEntry]

@[simp] theorem modStop_pth_standby (b : BankName) (i : Nat) (f : Stop → Stop) (s : State) :
    (s.modStop b i f).pth.standby = s.pth.standby := by
  simp [State.modStop, State.modEntry]

@[simp] theorem modStop_pth_firedEnd (b : BankName) (i : Nat) (f : Stop → Stop) (s : State) :
    (s.modStop b i f).pth.firedEnd = s.pth.firedEnd := by
  simp [State.modStop, State.modEntry]

@[simp] theorem modStop_pth_planEnd (b : BankName) (i : Nat) (f : Stop → Stop) (s : State) :
    (s.modStop b i f).pth.planEnd = s.pth.planEnd := by
  simp [State.modStop, State.modEntry]

@[simp] theorem modStop_pth_pendingSwitch (b : BankName) (i : Nat) (f : Stop → Stop) (s : State) :
    (s.modStop b i f).pth.pendingSwitch = s.pth.pendingSwitch := by
  simp [State.modStop, State.modEntry]

@[simp] theorem modStop_pth_opTicks (b : BankName) (i : Nat) (f : Stop → Stop) (s : State) :
    (s.modStop b i f).pth.opTicks = s.pth.opTicks := by
  simp [State.modStop, State.modEntry]

@[simp] theorem setPort_ord_run (p : Port) (c : PortContext) (s : State) : (s.setPort p c).ord.run = s.ord.run := rfl

@[simp] theorem setPort_ord_config (p : Port) (c : PortContext) (s : State) : (s.setPort p c).ord.config = s.ord.config := rfl

@[simp] theorem setPort_ord_waiting (p : Port) (c : PortContext) (s : State) : (s.setPort p c).ord.waiting = s.ord.waiting := rfl

@[simp] theorem setPort_ord_pictureCount (p : Port) (c : PortContext) (s : State) : (s.setPort p c).ord.pictureCount = s.ord.pictureCount := rfl

@[simp] theorem modPort_ord_run (p : Port) (c : PortContext → PortContext) (s : State) : (modPort p c s).ord.run = s.ord.run := rfl

@[simp] theorem modPort_ord_config (p : Port) (c : PortContext → PortContext) (s : State) : (modPort p c s).ord.config = s.ord.config := rfl

@[simp] theorem modPort_ord_waiting (p : Port) (c : PortContext → PortContext) (s : State) : (modPort p c s).ord.waiting = s.ord.waiting := rfl

@[simp] theorem modPort_ord_pictureCount (p : Port) (c : PortContext → PortContext) (s : State) : (modPort p c s).ord.pictureCount = s.ord.pictureCount := rfl

@[simp] theorem pushFrame_ord_run (p : Port) (c : OutFrame) (s : State) : (pushFrame p c s).ord.run = s.ord.run := rfl

@[simp] theorem pushFrame_ord_config (p : Port) (c : OutFrame) (s : State) : (pushFrame p c s).ord.config = s.ord.config := rfl

@[simp] theorem pushFrame_ord_waiting (p : Port) (c : OutFrame) (s : State) : (pushFrame p c s).ord.waiting = s.ord.waiting := rfl

@[simp] theorem pushFrame_ord_pictureCount (p : Port) (c : OutFrame) (s : State) : (pushFrame p c s).ord.pictureCount = s.ord.pictureCount := rfl

@[simp] theorem pushReply_ord_run (p : Port) (c : Reply) (s : State) : (pushReply p c s).ord.run = s.ord.run := rfl

@[simp] theorem pushReply_ord_config (p : Port) (c : Reply) (s : State) : (pushReply p c s).ord.config = s.ord.config := rfl

@[simp] theorem pushReply_ord_waiting (p : Port) (c : Reply) (s : State) : (pushReply p c s).ord.waiting = s.ord.waiting := rfl

@[simp] theorem pushReply_ord_pictureCount (p : Port) (c : Reply) (s : State) : (pushReply p c s).ord.pictureCount = s.ord.pictureCount := rfl

end Sys2Proof.Machine
end

