-- ==== Sys2Proof/Laws/Frames.lean ====
section
/-! SUPPORT. Laws/Frames.lean: which blocks each shared operation leaves as they are, one lemma per block. -/

namespace Sys2Proof.Machine

/-- A fold keeps what each of its steps keeps. -/
theorem foldl_keeps {α β γ : Type} {g : β → γ} {f : β → α → β} (h : ∀ b a, g (f b a) = g b) :
    ∀ (l : List α) (b : β), g (l.foldl f b) = g b
  | [], _ => rfl
  | a :: l, b => (foldl_keeps h l (f b a)).trans (h b a)

/-! ### FLT (chapter 9) -/

@[simp] theorem storeFault_aut (k : FaultKind) (c : FaultClass) (key : FaultKey) (tag : Option Byte) (s : State) : (storeFault k c key tag s).aut = s.aut := rfl
@[simp] theorem storeFault_axl (k : FaultKind) (c : FaultClass) (key : FaultKey) (tag : Option Byte) (s : State) : (storeFault k c key tag s).axl = s.axl := rfl
@[simp] theorem storeFault_pth (k : FaultKind) (c : FaultClass) (key : FaultKey) (tag : Option Byte) (s : State) : (storeFault k c key tag s).pth = s.pth := rfl
@[simp] theorem storeFault_eff (k : FaultKind) (c : FaultClass) (key : FaultKey) (tag : Option Byte) (s : State) : (storeFault k c key tag s).eff = s.eff := rfl
@[simp] theorem storeFault_jct (k : FaultKind) (c : FaultClass) (key : FaultKey) (tag : Option Byte) (s : State) : (storeFault k c key tag s).jct = s.jct := rfl
@[simp] theorem storeFault_loop (k : FaultKind) (c : FaultClass) (key : FaultKey) (tag : Option Byte) (s : State) : (storeFault k c key tag s).loop = s.loop := rfl
@[simp] theorem storeFault_stp (k : FaultKind) (c : FaultClass) (key : FaultKey) (tag : Option Byte) (s : State) : (storeFault k c key tag s).stp = s.stp := rfl
@[simp] theorem storeFault_snd (k : FaultKind) (c : FaultClass) (key : FaultKey) (tag : Option Byte) (s : State) : (storeFault k c key tag s).snd = s.snd := rfl
@[simp] theorem storeFault_ord (k : FaultKind) (c : FaultClass) (key : FaultKey) (tag : Option Byte) (s : State) : (storeFault k c key tag s).ord = s.ord := rfl
@[simp] theorem storeFault_pending (k : FaultKind) (c : FaultClass) (key : FaultKey) (tag : Option Byte) (s : State) : (storeFault k c key tag s).pending = s.pending := rfl
@[simp] theorem storeFault_clock (k : FaultKind) (c : FaultClass) (key : FaultKey) (tag : Option Byte) (s : State) : (storeFault k c key tag s).clock = s.clock := rfl
@[simp] theorem raiseNotice_aut (k : FaultKind) (key : FaultKey) (s : State) : (raiseNotice k key s).aut = s.aut := rfl
@[simp] theorem raiseNotice_axl (k : FaultKind) (key : FaultKey) (s : State) : (raiseNotice k key s).axl = s.axl := rfl
@[simp] theorem raiseNotice_pth (k : FaultKind) (key : FaultKey) (s : State) : (raiseNotice k key s).pth = s.pth := rfl
@[simp] theorem raiseNotice_eff (k : FaultKind) (key : FaultKey) (s : State) : (raiseNotice k key s).eff = s.eff := rfl
@[simp] theorem raiseNotice_jct (k : FaultKind) (key : FaultKey) (s : State) : (raiseNotice k key s).jct = s.jct := rfl
@[simp] theorem raiseNotice_loop (k : FaultKind) (key : FaultKey) (s : State) : (raiseNotice k key s).loop = s.loop := rfl
@[simp] theorem raiseNotice_stp (k : FaultKind) (key : FaultKey) (s : State) : (raiseNotice k key s).stp = s.stp := rfl
@[simp] theorem raiseNotice_snd (k : FaultKind) (key : FaultKey) (s : State) : (raiseNotice k key s).snd = s.snd := rfl
@[simp] theorem raiseNotice_ord (k : FaultKind) (key : FaultKey) (s : State) : (raiseNotice k key s).ord = s.ord := rfl
@[simp] theorem raiseNotice_pending (k : FaultKind) (key : FaultKey) (s : State) : (raiseNotice k key s).pending = s.pending := rfl
@[simp] theorem raiseNotice_clock (k : FaultKind) (key : FaultKey) (s : State) : (raiseNotice k key s).clock = s.clock := rfl
@[simp] theorem raiseRestrict_aut (k : FaultKind) (key : FaultKey) (s : State) : (raiseRestrict k key s).aut = s.aut := rfl
@[simp] theorem raiseRestrict_axl (k : FaultKind) (key : FaultKey) (s : State) : (raiseRestrict k key s).axl = s.axl := rfl
@[simp] theorem raiseRestrict_pth (k : FaultKind) (key : FaultKey) (s : State) : (raiseRestrict k key s).pth = s.pth := rfl
@[simp] theorem raiseRestrict_eff (k : FaultKind) (key : FaultKey) (s : State) : (raiseRestrict k key s).eff = s.eff := rfl
@[simp] theorem raiseRestrict_jct (k : FaultKind) (key : FaultKey) (s : State) : (raiseRestrict k key s).jct = s.jct := rfl
@[simp] theorem raiseRestrict_loop (k : FaultKind) (key : FaultKey) (s : State) : (raiseRestrict k key s).loop = s.loop := rfl
@[simp] theorem raiseRestrict_stp (k : FaultKind) (key : FaultKey) (s : State) : (raiseRestrict k key s).stp = s.stp := rfl
@[simp] theorem raiseRestrict_snd (k : FaultKind) (key : FaultKey) (s : State) : (raiseRestrict k key s).snd = s.snd := rfl
@[simp] theorem raiseRestrict_ord (k : FaultKind) (key : FaultKey) (s : State) : (raiseRestrict k key s).ord = s.ord := rfl
@[simp] theorem raiseRestrict_pending (k : FaultKind) (key : FaultKey) (s : State) : (raiseRestrict k key s).pending = s.pending := rfl
@[simp] theorem raiseRestrict_clock (k : FaultKind) (key : FaultKey) (s : State) : (raiseRestrict k key s).clock = s.clock := rfl
@[simp] theorem mergeFault_aut (k : FaultKind) (s : State) : (mergeFault k s).aut = s.aut := rfl
@[simp] theorem mergeFault_axl (k : FaultKind) (s : State) : (mergeFault k s).axl = s.axl := rfl
@[simp] theorem mergeFault_pth (k : FaultKind) (s : State) : (mergeFault k s).pth = s.pth := rfl
@[simp] theorem mergeFault_eff (k : FaultKind) (s : State) : (mergeFault k s).eff = s.eff := rfl
@[simp] theorem mergeFault_jct (k : FaultKind) (s : State) : (mergeFault k s).jct = s.jct := rfl
@[simp] theorem mergeFault_loop (k : FaultKind) (s : State) : (mergeFault k s).loop = s.loop := rfl
@[simp] theorem mergeFault_stp (k : FaultKind) (s : State) : (mergeFault k s).stp = s.stp := rfl
@[simp] theorem mergeFault_snd (k : FaultKind) (s : State) : (mergeFault k s).snd = s.snd := rfl
@[simp] theorem mergeFault_ord (k : FaultKind) (s : State) : (mergeFault k s).ord = s.ord := rfl
@[simp] theorem mergeFault_pending (k : FaultKind) (s : State) : (mergeFault k s).pending = s.pending := rfl
@[simp] theorem mergeFault_clock (k : FaultKind) (s : State) : (mergeFault k s).clock = s.clock := rfl
@[simp] theorem enterHalt_aut (s : State) : (enterHalt s).aut = s.aut := rfl
@[simp] theorem enterHalt_axl (s : State) : (enterHalt s).axl = s.axl := rfl
@[simp] theorem enterHalt_pth (s : State) : (enterHalt s).pth = s.pth := rfl
@[simp] theorem enterHalt_jct (s : State) : (enterHalt s).jct = s.jct := rfl
@[simp] theorem enterHalt_loop (s : State) : (enterHalt s).loop = s.loop := rfl
@[simp] theorem enterHalt_stp (s : State) : (enterHalt s).stp = s.stp := rfl
@[simp] theorem enterHalt_snd (s : State) : (enterHalt s).snd = s.snd := rfl
@[simp] theorem enterHalt_ord (s : State) : (enterHalt s).ord = s.ord := rfl
@[simp] theorem enterHalt_pending (s : State) : (enterHalt s).pending = s.pending := rfl
@[simp] theorem enterHalt_clock (s : State) : (enterHalt s).clock = s.clock := rfl
@[simp] theorem raiseStop_aut (k : FaultKind) (key : FaultKey) (s : State) : (raiseStop k key s).aut = s.aut := by unfold raiseStop; (try dsimp only); (repeat' split) <;> simp
@[simp] theorem raiseStop_axl (k : FaultKind) (key : FaultKey) (s : State) : (raiseStop k key s).axl = s.axl := by unfold raiseStop; (try dsimp only); (repeat' split) <;> simp
@[simp] theorem raiseStop_pth (k : FaultKind) (key : FaultKey) (s : State) : (raiseStop k key s).pth = s.pth := by unfold raiseStop; (try dsimp only); (repeat' split) <;> simp
@[simp] theorem raiseStop_jct (k : FaultKind) (key : FaultKey) (s : State) : (raiseStop k key s).jct = s.jct := by unfold raiseStop; (try dsimp only); (repeat' split) <;> simp
@[simp] theorem raiseStop_loop (k : FaultKind) (key : FaultKey) (s : State) : (raiseStop k key s).loop = s.loop := by unfold raiseStop; (try dsimp only); (repeat' split) <;> simp
@[simp] theorem raiseStop_stp (k : FaultKind) (key : FaultKey) (s : State) : (raiseStop k key s).stp = s.stp := by unfold raiseStop; (try dsimp only); (repeat' split) <;> simp
@[simp] theorem raiseStop_snd (k : FaultKind) (key : FaultKey) (s : State) : (raiseStop k key s).snd = s.snd := by unfold raiseStop; (try dsimp only); (repeat' split) <;> simp
@[simp] theorem raiseStop_ord (k : FaultKind) (key : FaultKey) (s : State) : (raiseStop k key s).ord = s.ord := by unfold raiseStop; (try dsimp only); (repeat' split) <;> simp
@[simp] theorem raiseStop_pending (k : FaultKind) (key : FaultKey) (s : State) : (raiseStop k key s).pending = s.pending := by unfold raiseStop; (try dsimp only); (repeat' split) <;> simp
@[simp] theorem raiseStop_clock (k : FaultKind) (key : FaultKey) (s : State) : (raiseStop k key s).clock = s.clock := by unfold raiseStop; (try dsimp only); (repeat' split) <;> simp
@[simp] theorem offerSettle_aut (r : SettleReason) (n : Nat) (s : State) : (offerSettle r n s).aut = s.aut := by unfold offerSettle; (try dsimp only); (repeat' split) <;> simp
@[simp] theorem offerSettle_axl (r : SettleReason) (n : Nat) (s : State) : (offerSettle r n s).axl = s.axl := by unfold offerSettle; (try dsimp only); (repeat' split) <;> simp
@[simp] theorem offerSettle_pth (r : SettleReason) (n : Nat) (s : State) : (offerSettle r n s).pth = s.pth := by unfold offerSettle; (try dsimp only); (repeat' split) <;> simp
@[simp] theorem offerSettle_jct (r : SettleReason) (n : Nat) (s : State) : (offerSettle r n s).jct = s.jct := by unfold offerSettle; (try dsimp only); (repeat' split) <;> simp
@[simp] theorem offerSettle_loop (r : SettleReason) (n : Nat) (s : State) : (offerSettle r n s).loop = s.loop := by unfold offerSettle; (try dsimp only); (repeat' split) <;> simp
@[simp] theorem offerSettle_stp (r : SettleReason) (n : Nat) (s : State) : (offerSettle r n s).stp = s.stp := by unfold offerSettle; (try dsimp only); (repeat' split) <;> simp
@[simp] theorem offerSettle_snd (r : SettleReason) (n : Nat) (s : State) : (offerSettle r n s).snd = s.snd := by unfold offerSettle; (try dsimp only); (repeat' split) <;> simp
@[simp] theorem offerSettle_flt (r : SettleReason) (n : Nat) (s : State) : (offerSettle r n s).flt = s.flt := by unfold offerSettle; (try dsimp only); (repeat' split) <;> simp
@[simp] theorem offerSettle_ord (r : SettleReason) (n : Nat) (s : State) : (offerSettle r n s).ord = s.ord := by unfold offerSettle; (try dsimp only); (repeat' split) <;> simp
@[simp] theorem offerSettle_pending (r : SettleReason) (n : Nat) (s : State) : (offerSettle r n s).pending = s.pending := by unfold offerSettle; (try dsimp only); (repeat' split) <;> simp
@[simp] theorem offerSettle_clock (r : SettleReason) (n : Nat) (s : State) : (offerSettle r n s).clock = s.clock := by unfold offerSettle; (try dsimp only); (repeat' split) <;> simp
@[simp] theorem reviseVigilance_axl (s : State) : (reviseVigilance s).axl = s.axl := by unfold reviseVigilance; (try dsimp only); (repeat' split) <;> simp
@[simp] theorem reviseVigilance_pth (s : State) : (reviseVigilance s).pth = s.pth := by unfold reviseVigilance; (try dsimp only); (repeat' split) <;> simp
@[simp] theorem reviseVigilance_eff (s : State) : (reviseVigilance s).eff = s.eff := by unfold reviseVigilance; (try dsimp only); (repeat' split) <;> simp
@[simp] theorem reviseVigilance_jct (s : State) : (reviseVigilance s).jct = s.jct := by unfold reviseVigilance; (try dsimp only); (repeat' split) <;> simp
@[simp] theorem reviseVigilance_loop (s : State) : (reviseVigilance s).loop = s.loop := by unfold reviseVigilance; (try dsimp only); (repeat' split) <;> simp
@[simp] theorem reviseVigilance_stp (s : State) : (reviseVigilance s).stp = s.stp := by unfold reviseVigilance; (try dsimp only); (repeat' split) <;> simp
@[simp] theorem reviseVigilance_snd (s : State) : (reviseVigilance s).snd = s.snd := by unfold reviseVigilance; (try dsimp only); (repeat' split) <;> simp
@[simp] theorem reviseVigilance_flt (s : State) : (reviseVigilance s).flt = s.flt := by unfold reviseVigilance; (try dsimp only); (repeat' split) <;> simp
@[simp] theorem reviseVigilance_ord (s : State) : (reviseVigilance s).ord = s.ord := by unfold reviseVigilance; (try dsimp only); (repeat' split) <;> simp
@[simp] theorem reviseVigilance_pending (s : State) : (reviseVigilance s).pending = s.pending := by unfold reviseVigilance; (try dsimp only); (repeat' split) <;> simp
@[simp] theorem reviseVigilance_clock (s : State) : (reviseVigilance s).clock = s.clock := by unfold reviseVigilance; (try dsimp only); (repeat' split) <;> simp
@[simp] theorem acknowledge_axl (s : State) : (acknowledge s).axl = s.axl := by simp [acknowledge]
@[simp] theorem acknowledge_pth (s : State) : (acknowledge s).pth = s.pth := by simp [acknowledge]
@[simp] theorem acknowledge_jct (s : State) : (acknowledge s).jct = s.jct := by simp [acknowledge]
@[simp] theorem acknowledge_loop (s : State) : (acknowledge s).loop = s.loop := by simp [acknowledge]
@[simp] theorem acknowledge_stp (s : State) : (acknowledge s).stp = s.stp := by simp [acknowledge]
@[simp] theorem acknowledge_snd (s : State) : (acknowledge s).snd = s.snd := by simp [acknowledge]
@[simp] theorem acknowledge_ord (s : State) : (acknowledge s).ord = s.ord := by simp [acknowledge]
@[simp] theorem acknowledge_pending (s : State) : (acknowledge s).pending = s.pending := by simp [acknowledge]
@[simp] theorem acknowledge_clock (s : State) : (acknowledge s).clock = s.clock := by simp [acknowledge]

/-! ### SND (chapter 8) -/

@[simp] theorem requestProgram_aut (n : Nat) (s : State) : ((requestProgram n s).1).aut = s.aut := rfl
@[simp] theorem requestProgram_axl (n : Nat) (s : State) : ((requestProgram n s).1).axl = s.axl := rfl
@[simp] theorem requestProgram_pth (n : Nat) (s : State) : ((requestProgram n s).1).pth = s.pth := rfl
@[simp] theorem requestProgram_eff (n : Nat) (s : State) : ((requestProgram n s).1).eff = s.eff := rfl
@[simp] theorem requestProgram_jct (n : Nat) (s : State) : ((requestProgram n s).1).jct = s.jct := rfl
@[simp] theorem requestProgram_loop (n : Nat) (s : State) : ((requestProgram n s).1).loop = s.loop := rfl
@[simp] theorem requestProgram_stp (n : Nat) (s : State) : ((requestProgram n s).1).stp = s.stp := rfl
@[simp] theorem requestProgram_flt (n : Nat) (s : State) : ((requestProgram n s).1).flt = s.flt := rfl
@[simp] theorem requestProgram_ord (n : Nat) (s : State) : ((requestProgram n s).1).ord = s.ord := rfl
@[simp] theorem requestProgram_pending (n : Nat) (s : State) : ((requestProgram n s).1).pending = s.pending := rfl
@[simp] theorem requestProgram_clock (n : Nat) (s : State) : ((requestProgram n s).1).clock = s.clock := rfl
@[simp] theorem askSound_aut (n : Nat) (s : State) : (askSound n s).aut = s.aut := rfl
@[simp] theorem askSound_axl (n : Nat) (s : State) : (askSound n s).axl = s.axl := rfl
@[simp] theorem askSound_pth (n : Nat) (s : State) : (askSound n s).pth = s.pth := rfl
@[simp] theorem askSound_eff (n : Nat) (s : State) : (askSound n s).eff = s.eff := rfl
@[simp] theorem askSound_jct (n : Nat) (s : State) : (askSound n s).jct = s.jct := rfl
@[simp] theorem askSound_loop (n : Nat) (s : State) : (askSound n s).loop = s.loop := rfl
@[simp] theorem askSound_stp (n : Nat) (s : State) : (askSound n s).stp = s.stp := rfl
@[simp] theorem askSound_flt (n : Nat) (s : State) : (askSound n s).flt = s.flt := rfl
@[simp] theorem askSound_ord (n : Nat) (s : State) : (askSound n s).ord = s.ord := rfl
@[simp] theorem askSound_pending (n : Nat) (s : State) : (askSound n s).pending = s.pending := rfl
@[simp] theorem askSound_clock (n : Nat) (s : State) : (askSound n s).clock = s.clock := rfl
@[simp] theorem forceLetGo_aut (s : State) : (forceLetGo s).aut = s.aut := rfl
@[simp] theorem forceLetGo_axl (s : State) : (forceLetGo s).axl = s.axl := rfl
@[simp] theorem forceLetGo_pth (s : State) : (forceLetGo s).pth = s.pth := rfl
@[simp] theorem forceLetGo_eff (s : State) : (forceLetGo s).eff = s.eff := rfl
@[simp] theorem forceLetGo_jct (s : State) : (forceLetGo s).jct = s.jct := rfl
@[simp] theorem forceLetGo_loop (s : State) : (forceLetGo s).loop = s.loop := rfl
@[simp] theorem forceLetGo_stp (s : State) : (forceLetGo s).stp = s.stp := rfl
@[simp] theorem forceLetGo_flt (s : State) : (forceLetGo s).flt = s.flt := rfl
@[simp] theorem forceLetGo_ord (s : State) : (forceLetGo s).ord = s.ord := rfl
@[simp] theorem forceLetGo_pending (s : State) : (forceLetGo s).pending = s.pending := rfl
@[simp] theorem forceLetGo_clock (s : State) : (forceLetGo s).clock = s.clock := rfl
@[simp] theorem sndRestart_aut (s : State) : (sndRestart s).aut = s.aut := rfl
@[simp] theorem sndRestart_axl (s : State) : (sndRestart s).axl = s.axl := rfl
@[simp] theorem sndRestart_pth (s : State) : (sndRestart s).pth = s.pth := rfl
@[simp] theorem sndRestart_eff (s : State) : (sndRestart s).eff = s.eff := rfl
@[simp] theorem sndRestart_jct (s : State) : (sndRestart s).jct = s.jct := rfl
@[simp] theorem sndRestart_loop (s : State) : (sndRestart s).loop = s.loop := rfl
@[simp] theorem sndRestart_stp (s : State) : (sndRestart s).stp = s.stp := rfl
@[simp] theorem sndRestart_flt (s : State) : (sndRestart s).flt = s.flt := rfl
@[simp] theorem sndRestart_ord (s : State) : (sndRestart s).ord = s.ord := rfl
@[simp] theorem sndRestart_pending (s : State) : (sndRestart s).pending = s.pending := rfl
@[simp] theorem sndRestart_clock (s : State) : (sndRestart s).clock = s.clock := rfl

/-! ### EFF (chapter 4) -/

@[simp] theorem setLever_aut (l : Int) (x : Selector) (d : Direction) (s : State) : (setLever l x d s).aut = s.aut := rfl
@[simp] theorem setLever_axl (l : Int) (x : Selector) (d : Direction) (s : State) : (setLever l x d s).axl = s.axl := rfl
@[simp] theorem setLever_pth (l : Int) (x : Selector) (d : Direction) (s : State) : (setLever l x d s).pth = s.pth := rfl
@[simp] theorem setLever_jct (l : Int) (x : Selector) (d : Direction) (s : State) : (setLever l x d s).jct = s.jct := rfl
@[simp] theorem setLever_loop (l : Int) (x : Selector) (d : Direction) (s : State) : (setLever l x d s).loop = s.loop := rfl
@[simp] theorem setLever_stp (l : Int) (x : Selector) (d : Direction) (s : State) : (setLever l x d s).stp = s.stp := rfl
@[simp] theorem setLever_snd (l : Int) (x : Selector) (d : Direction) (s : State) : (setLever l x d s).snd = s.snd := rfl
@[simp] theorem setLever_flt (l : Int) (x : Selector) (d : Direction) (s : State) : (setLever l x d s).flt = s.flt := rfl
@[simp] theorem setLever_ord (l : Int) (x : Selector) (d : Direction) (s : State) : (setLever l x d s).ord = s.ord := rfl
@[simp] theorem setLever_pending (l : Int) (x : Selector) (d : Direction) (s : State) : (setLever l x d s).pending = s.pending := rfl
@[simp] theorem setLever_clock (l : Int) (x : Selector) (d : Direction) (s : State) : (setLever l x d s).clock = s.clock := rfl
@[simp] theorem resetLever_aut (s : State) : (resetLever s).aut = s.aut := rfl
@[simp] theorem resetLever_axl (s : State) : (resetLever s).axl = s.axl := rfl
@[simp] theorem resetLever_pth (s : State) : (resetLever s).pth = s.pth := rfl
@[simp] theorem resetLever_jct (s : State) : (resetLever s).jct = s.jct := rfl
@[simp] theorem resetLever_loop (s : State) : (resetLever s).loop = s.loop := rfl
@[simp] theorem resetLever_stp (s : State) : (resetLever s).stp = s.stp := rfl
@[simp] theorem resetLever_snd (s : State) : (resetLever s).snd = s.snd := rfl
@[simp] theorem resetLever_flt (s : State) : (resetLever s).flt = s.flt := rfl
@[simp] theorem resetLever_ord (s : State) : (resetLever s).ord = s.ord := rfl
@[simp] theorem resetLever_pending (s : State) : (resetLever s).pending = s.pending := rfl
@[simp] theorem resetLever_clock (s : State) : (resetLever s).clock = s.clock := rfl
@[simp] theorem effRestart_aut (s : State) : (effRestart s).aut = s.aut := by simp [effRestart]
@[simp] theorem effRestart_axl (s : State) : (effRestart s).axl = s.axl := by simp [effRestart]
@[simp] theorem effRestart_pth (s : State) : (effRestart s).pth = s.pth := by simp [effRestart]
@[simp] theorem effRestart_jct (s : State) : (effRestart s).jct = s.jct := by simp [effRestart]
@[simp] theorem effRestart_loop (s : State) : (effRestart s).loop = s.loop := by simp [effRestart]
@[simp] theorem effRestart_stp (s : State) : (effRestart s).stp = s.stp := by simp [effRestart]
@[simp] theorem effRestart_snd (s : State) : (effRestart s).snd = s.snd := by simp [effRestart]
@[simp] theorem effRestart_flt (s : State) : (effRestart s).flt = s.flt := by simp [effRestart]
@[simp] theorem effRestart_ord (s : State) : (effRestart s).ord = s.ord := by simp [effRestart]
@[simp] theorem effRestart_pending (s : State) : (effRestart s).pending = s.pending := by simp [effRestart]
@[simp] theorem effRestart_clock (s : State) : (effRestart s).clock = s.clock := by simp [effRestart]
@[simp] theorem takeLever_aut (l : Int) (x : Option Selector) (s : State) : ((takeLever l x s).1).aut = s.aut := by unfold takeLever; (try dsimp only); (repeat' split) <;> simp
@[simp] theorem takeLever_axl (l : Int) (x : Option Selector) (s : State) : ((takeLever l x s).1).axl = s.axl := by unfold takeLever; (try dsimp only); (repeat' split) <;> simp
@[simp] theorem takeLever_pth (l : Int) (x : Option Selector) (s : State) : ((takeLever l x s).1).pth = s.pth := by unfold takeLever; (try dsimp only); (repeat' split) <;> simp
@[simp] theorem takeLever_jct (l : Int) (x : Option Selector) (s : State) : ((takeLever l x s).1).jct = s.jct := by unfold takeLever; (try dsimp only); (repeat' split) <;> simp
@[simp] theorem takeLever_loop (l : Int) (x : Option Selector) (s : State) : ((takeLever l x s).1).loop = s.loop := by unfold takeLever; (try dsimp only); (repeat' split) <;> simp
@[simp] theorem takeLever_stp (l : Int) (x : Option Selector) (s : State) : ((takeLever l x s).1).stp = s.stp := by unfold takeLever; (try dsimp only); (repeat' split) <;> simp
@[simp] theorem takeLever_snd (l : Int) (x : Option Selector) (s : State) : ((takeLever l x s).1).snd = s.snd := by unfold takeLever; (try dsimp only); (repeat' split) <;> simp
@[simp] theorem takeLever_flt (l : Int) (x : Option Selector) (s : State) : ((takeLever l x s).1).flt = s.flt := by unfold takeLever; (try dsimp only); (repeat' split) <;> simp
@[simp] theorem takeLever_ord (l : Int) (x : Option Selector) (s : State) : ((takeLever l x s).1).ord = s.ord := by unfold takeLever; (try dsimp only); (repeat' split) <;> simp
@[simp] theorem takeLever_pending (l : Int) (x : Option Selector) (s : State) : ((takeLever l x s).1).pending = s.pending := by unfold takeLever; (try dsimp only); (repeat' split) <;> simp
@[simp] theorem takeLever_clock (l : Int) (x : Option Selector) (s : State) : ((takeLever l x s).1).clock = s.clock := by unfold takeLever; (try dsimp only); (repeat' split) <;> simp
@[simp] theorem countSettle_aut (s : State) : (countSettle s).aut = s.aut := by unfold countSettle; (try dsimp only); (repeat' split) <;> simp
@[simp] theorem countSettle_axl (s : State) : (countSettle s).axl = s.axl := by unfold countSettle; (try dsimp only); (repeat' split) <;> simp
@[simp] theorem countSettle_pth (s : State) : (countSettle s).pth = s.pth := by unfold countSettle; (try dsimp only); (repeat' split) <;> simp
@[simp] theorem countSettle_jct (s : State) : (countSettle s).jct = s.jct := by unfold countSettle; (try dsimp only); (repeat' split) <;> simp
@[simp] theorem countSettle_loop (s : State) : (countSettle s).loop = s.loop := by unfold countSettle; (try dsimp only); (repeat' split) <;> simp
@[simp] theorem countSettle_stp (s : State) : (countSettle s).stp = s.stp := by unfold countSettle; (try dsimp only); (repeat' split) <;> simp
@[simp] theorem countSettle_snd (s : State) : (countSettle s).snd = s.snd := by unfold countSettle; (try dsimp only); (repeat' split) <;> simp
@[simp] theorem countSettle_flt (s : State) : (countSettle s).flt = s.flt := by unfold countSettle; (try dsimp only); (repeat' split) <;> simp
@[simp] theorem countSettle_ord (s : State) : (countSettle s).ord = s.ord := by unfold countSettle; (try dsimp only); (repeat' split) <;> simp
@[simp] theorem countSettle_pending (s : State) : (countSettle s).pending = s.pending := by unfold countSettle; (try dsimp only); (repeat' split) <;> simp
@[simp] theorem countSettle_clock (s : State) : (countSettle s).clock = s.clock := by unfold countSettle; (try dsimp only); (repeat' split) <;> simp
@[simp] theorem noteOverspeed_aut (s : State) : (noteOverspeed s).aut = s.aut := by unfold noteOverspeed; (try dsimp only); (repeat' split) <;> simp
@[simp] theorem noteOverspeed_axl (s : State) : (noteOverspeed s).axl = s.axl := by unfold noteOverspeed; (try dsimp only); (repeat' split) <;> simp
@[simp] theorem noteOverspeed_pth (s : State) : (noteOverspeed s).pth = s.pth := by unfold noteOverspeed; (try dsimp only); (repeat' split) <;> simp
@[simp] theorem noteOverspeed_jct (s : State) : (noteOverspeed s).jct = s.jct := by unfold noteOverspeed; (try dsimp only); (repeat' split) <;> simp
@[simp] theorem noteOverspeed_loop (s : State) : (noteOverspeed s).loop = s.loop := by unfold noteOverspeed; (try dsimp only); (repeat' split) <;> simp
@[simp] theorem noteOverspeed_stp (s : State) : (noteOverspeed s).stp = s.stp := by unfold noteOverspeed; (try dsimp only); (repeat' split) <;> simp
@[simp] theorem noteOverspeed_snd (s : State) : (noteOverspeed s).snd = s.snd := by unfold noteOverspeed; (try dsimp only); (repeat' split) <;> simp
@[simp] theorem noteOverspeed_ord (s : State) : (noteOverspeed s).ord = s.ord := by unfold noteOverspeed; (try dsimp only); (repeat' split) <;> simp
@[simp] theorem noteOverspeed_pending (s : State) : (noteOverspeed s).pending = s.pending := by unfold noteOverspeed; (try dsimp only); (repeat' split) <;> simp
@[simp] theorem noteOverspeed_clock (s : State) : (noteOverspeed s).clock = s.clock := by unfold noteOverspeed; (try dsimp only); (repeat' split) <;> simp
@[simp] theorem setEmergency_aut (a b : Bool) (s : State) : (setEmergency a b s).aut = s.aut := by unfold setEmergency; (try dsimp only); (repeat' split) <;> simp
@[simp] theorem setEmergency_axl (a b : Bool) (s : State) : (setEmergency a b s).axl = s.axl := by unfold setEmergency; (try dsimp only); (repeat' split) <;> simp
@[simp] theorem setEmergency_pth (a b : Bool) (s : State) : (setEmergency a b s).pth = s.pth := by unfold setEmergency; (try dsimp only); (repeat' split) <;> simp
@[simp] theorem setEmergency_jct (a b : Bool) (s : State) : (setEmergency a b s).jct = s.jct := by unfold setEmergency; (try dsimp only); (repeat' split) <;> simp
@[simp] theorem setEmergency_loop (a b : Bool) (s : State) : (setEmergency a b s).loop = s.loop := by unfold setEmergency; (try dsimp only); (repeat' split) <;> simp
@[simp] theorem setEmergency_stp (a b : Bool) (s : State) : (setEmergency a b s).stp = s.stp := by unfold setEmergency; (try dsimp only); (repeat' split) <;> simp
@[simp] theorem setEmergency_ord (a b : Bool) (s : State) : (setEmergency a b s).ord = s.ord := by unfold setEmergency; (try dsimp only); (repeat' split) <;> simp
@[simp] theorem setEmergency_pending (a b : Bool) (s : State) : (setEmergency a b s).pending = s.pending := by unfold setEmergency; (try dsimp only); (repeat' split) <;> simp
@[simp] theorem setEmergency_clock (a b : Bool) (s : State) : (setEmergency a b s).clock = s.clock := by unfold setEmergency; (try dsimp only); (repeat' split) <;> simp
@[simp] theorem clearEmergency_aut (s : State) : (clearEmergency s).aut = s.aut := by simp [clearEmergency]
@[simp] theorem clearEmergency_axl (s : State) : (clearEmergency s).axl = s.axl := by simp [clearEmergency]
@[simp] theorem clearEmergency_pth (s : State) : (clearEmergency s).pth = s.pth := by simp [clearEmergency]
@[simp] theorem clearEmergency_jct (s : State) : (clearEmergency s).jct = s.jct := by simp [clearEmergency]
@[simp] theorem clearEmergency_loop (s : State) : (clearEmergency s).loop = s.loop := by simp [clearEmergency]
@[simp] theorem clearEmergency_stp (s : State) : (clearEmergency s).stp = s.stp := by simp [clearEmergency]
@[simp] theorem clearEmergency_snd (s : State) : (clearEmergency s).snd = s.snd := by simp [clearEmergency]
@[simp] theorem clearEmergency_flt (s : State) : (clearEmergency s).flt = s.flt := by simp [clearEmergency]
@[simp] theorem clearEmergency_ord (s : State) : (clearEmergency s).ord = s.ord := by simp [clearEmergency]
@[simp] theorem clearEmergency_pending (s : State) : (clearEmergency s).pending = s.pending := by simp [clearEmergency]
@[simp] theorem clearEmergency_clock (s : State) : (clearEmergency s).clock = s.clock := by simp [clearEmergency]
@[simp] theorem limitEffort_aut (e : Int) (s : State) : (limitEffort e s).aut = s.aut := by simp [limitEffort]
@[simp] theorem limitEffort_axl (e : Int) (s : State) : (limitEffort e s).axl = s.axl := by simp [limitEffort]
@[simp] theorem limitEffort_pth (e : Int) (s : State) : (limitEffort e s).pth = s.pth := by simp [limitEffort]
@[simp] theorem limitEffort_jct (e : Int) (s : State) : (limitEffort e s).jct = s.jct := by simp [limitEffort]
@[simp] theorem limitEffort_loop (e : Int) (s : State) : (limitEffort e s).loop = s.loop := by simp [limitEffort]
@[simp] theorem limitEffort_stp (e : Int) (s : State) : (limitEffort e s).stp = s.stp := by simp [limitEffort]
@[simp] theorem limitEffort_snd (e : Int) (s : State) : (limitEffort e s).snd = s.snd := by simp [limitEffort]
@[simp] theorem limitEffort_ord (e : Int) (s : State) : (limitEffort e s).ord = s.ord := by simp [limitEffort]
@[simp] theorem limitEffort_pending (e : Int) (s : State) : (limitEffort e s).pending = s.pending := by simp [limitEffort]
@[simp] theorem limitEffort_clock (e : Int) (s : State) : (limitEffort e s).clock = s.clock := by simp [limitEffort]
@[simp] theorem countStandstill_aut (s : State) : (countStandstill s).aut = s.aut := rfl
@[simp] theorem countStandstill_axl (s : State) : (countStandstill s).axl = s.axl := rfl
@[simp] theorem countStandstill_pth (s : State) : (countStandstill s).pth = s.pth := rfl
@[simp] theorem countStandstill_jct (s : State) : (countStandstill s).jct = s.jct := rfl
@[simp] theorem countStandstill_loop (s : State) : (countStandstill s).loop = s.loop := rfl
@[simp] theorem countStandstill_stp (s : State) : (countStandstill s).stp = s.stp := rfl
@[simp] theorem countStandstill_snd (s : State) : (countStandstill s).snd = s.snd := rfl
@[simp] theorem countStandstill_flt (s : State) : (countStandstill s).flt = s.flt := rfl
@[simp] theorem countStandstill_ord (s : State) : (countStandstill s).ord = s.ord := rfl
@[simp] theorem countStandstill_pending (s : State) : (countStandstill s).pending = s.pending := rfl
@[simp] theorem countStandstill_clock (s : State) : (countStandstill s).clock = s.clock := rfl
@[simp] theorem reviseHold_aut (s : State) : (reviseHold s).aut = s.aut := by unfold reviseHold; (try dsimp only); (repeat' split) <;> simp
@[simp] theorem reviseHold_axl (s : State) : (reviseHold s).axl = s.axl := by unfold reviseHold; (try dsimp only); (repeat' split) <;> simp
@[simp] theorem reviseHold_pth (s : State) : (reviseHold s).pth = s.pth := by unfold reviseHold; (try dsimp only); (repeat' split) <;> simp
@[simp] theorem reviseHold_jct (s : State) : (reviseHold s).jct = s.jct := by unfold reviseHold; (try dsimp only); (repeat' split) <;> simp
@[simp] theorem reviseHold_loop (s : State) : (reviseHold s).loop = s.loop := by unfold reviseHold; (try dsimp only); (repeat' split) <;> simp
@[simp] theorem reviseHold_stp (s : State) : (reviseHold s).stp = s.stp := by unfold reviseHold; (try dsimp only); (repeat' split) <;> simp
@[simp] theorem reviseHold_snd (s : State) : (reviseHold s).snd = s.snd := by unfold reviseHold; (try dsimp only); (repeat' split) <;> simp
@[simp] theorem reviseHold_ord (s : State) : (reviseHold s).ord = s.ord := by unfold reviseHold; (try dsimp only); (repeat' split) <;> simp
@[simp] theorem reviseHold_pending (s : State) : (reviseHold s).pending = s.pending := by unfold reviseHold; (try dsimp only); (repeat' split) <;> simp
@[simp] theorem reviseHold_clock (s : State) : (reviseHold s).clock = s.clock := by unfold reviseHold; (try dsimp only); (repeat' split) <;> simp
@[simp] theorem runEffort_aut (a b : Bool) (s : State) : (runEffort a b s).aut = s.aut := by unfold runEffort; (try dsimp only); (repeat' split) <;> simp
@[simp] theorem runEffort_axl (a b : Bool) (s : State) : (runEffort a b s).axl = s.axl := by unfold runEffort; (try dsimp only); (repeat' split) <;> simp
@[simp] theorem runEffort_pth (a b : Bool) (s : State) : (runEffort a b s).pth = s.pth := by unfold runEffort; (try dsimp only); (repeat' split) <;> simp
@[simp] theorem runEffort_jct (a b : Bool) (s : State) : (runEffort a b s).jct = s.jct := by unfold runEffort; (try dsimp only); (repeat' split) <;> simp
@[simp] theorem runEffort_loop (a b : Bool) (s : State) : (runEffort a b s).loop = s.loop := by unfold runEffort; (try dsimp only); (repeat' split) <;> simp
@[simp] theorem runEffort_stp (a b : Bool) (s : State) : (runEffort a b s).stp = s.stp := by unfold runEffort; (try dsimp only); (repeat' split) <;> simp
@[simp] theorem runEffort_ord (a b : Bool) (s : State) : (runEffort a b s).ord = s.ord := by unfold runEffort; (try dsimp only); (repeat' split) <;> simp
@[simp] theorem runEffort_pending (a b : Bool) (s : State) : (runEffort a b s).pending = s.pending := by unfold runEffort; (try dsimp only); (repeat' split) <;> simp
@[simp] theorem runEffort_clock (a b : Bool) (s : State) : (runEffort a b s).clock = s.clock := by unfold runEffort; (try dsimp only); (repeat' split) <;> simp
@[simp] theorem runClose_aut (a b : Bool) (s : State) : (runClose a b s).aut = s.aut := by simp [runClose, setCodes]
@[simp] theorem runClose_axl (a b : Bool) (s : State) : (runClose a b s).axl = s.axl := by simp [runClose, setCodes]
@[simp] theorem runClose_pth (a b : Bool) (s : State) : (runClose a b s).pth = s.pth := by simp [runClose, setCodes]
@[simp] theorem runClose_jct (a b : Bool) (s : State) : (runClose a b s).jct = s.jct := by simp [runClose, setCodes]
@[simp] theorem runClose_loop (a b : Bool) (s : State) : (runClose a b s).loop = s.loop := by simp [runClose, setCodes]
@[simp] theorem runClose_stp (a b : Bool) (s : State) : (runClose a b s).stp = s.stp := by simp [runClose, setCodes]
@[simp] theorem runClose_ord (a b : Bool) (s : State) : (runClose a b s).ord = s.ord := by simp [runClose, setCodes]
@[simp] theorem runClose_pending (a b : Bool) (s : State) : (runClose a b s).pending = s.pending := by simp [runClose, setCodes]
@[simp] theorem runClose_clock (a b : Bool) (s : State) : (runClose a b s).clock = s.clock := by simp [runClose, setCodes]
@[simp] theorem haltClose_aut (a b : Bool) (s : State) : (haltClose a b s).aut = s.aut := by unfold haltClose haltEmergency; (repeat' split) <;> simp
@[simp] theorem haltClose_axl (a b : Bool) (s : State) : (haltClose a b s).axl = s.axl := by unfold haltClose haltEmergency; (repeat' split) <;> simp
@[simp] theorem haltClose_pth (a b : Bool) (s : State) : (haltClose a b s).pth = s.pth := by unfold haltClose haltEmergency; (repeat' split) <;> simp
@[simp] theorem haltClose_jct (a b : Bool) (s : State) : (haltClose a b s).jct = s.jct := by unfold haltClose haltEmergency; (repeat' split) <;> simp
@[simp] theorem haltClose_loop (a b : Bool) (s : State) : (haltClose a b s).loop = s.loop := by unfold haltClose haltEmergency; (repeat' split) <;> simp
@[simp] theorem haltClose_stp (a b : Bool) (s : State) : (haltClose a b s).stp = s.stp := by unfold haltClose haltEmergency; (repeat' split) <;> simp
@[simp] theorem haltClose_ord (a b : Bool) (s : State) : (haltClose a b s).ord = s.ord := by unfold haltClose haltEmergency; (repeat' split) <;> simp
@[simp] theorem haltClose_pending (a b : Bool) (s : State) : (haltClose a b s).pending = s.pending := by unfold haltClose haltEmergency; (repeat' split) <;> simp
@[simp] theorem haltClose_clock (a b : Bool) (s : State) : (haltClose a b s).clock = s.clock := by unfold haltClose haltEmergency; (repeat' split) <;> simp
@[simp] theorem unconfiguredClose_aut (a : Bool) (s : State) : (unconfiguredClose a s).aut = s.aut := rfl
@[simp] theorem unconfiguredClose_axl (a : Bool) (s : State) : (unconfiguredClose a s).axl = s.axl := rfl
@[simp] theorem unconfiguredClose_pth (a : Bool) (s : State) : (unconfiguredClose a s).pth = s.pth := rfl
@[simp] theorem unconfiguredClose_jct (a : Bool) (s : State) : (unconfiguredClose a s).jct = s.jct := rfl
@[simp] theorem unconfiguredClose_loop (a : Bool) (s : State) : (unconfiguredClose a s).loop = s.loop := rfl
@[simp] theorem unconfiguredClose_stp (a : Bool) (s : State) : (unconfiguredClose a s).stp = s.stp := rfl
@[simp] theorem unconfiguredClose_snd (a : Bool) (s : State) : (unconfiguredClose a s).snd = s.snd := rfl
@[simp] theorem unconfiguredClose_flt (a : Bool) (s : State) : (unconfiguredClose a s).flt = s.flt := rfl
@[simp] theorem unconfiguredClose_ord (a : Bool) (s : State) : (unconfiguredClose a s).ord = s.ord := rfl
@[simp] theorem unconfiguredClose_pending (a : Bool) (s : State) : (unconfiguredClose a s).pending = s.pending := rfl
@[simp] theorem unconfiguredClose_clock (a : Bool) (s : State) : (unconfiguredClose a s).clock = s.clock := rfl
@[simp] theorem clearCaptures_aut (s : State) : (clearCaptures s).aut = s.aut := rfl
@[simp] theorem clearCaptures_axl (s : State) : (clearCaptures s).axl = s.axl := rfl
@[simp] theorem clearCaptures_pth (s : State) : (clearCaptures s).pth = s.pth := rfl
@[simp] theorem clearCaptures_jct (s : State) : (clearCaptures s).jct = s.jct := rfl
@[simp] theorem clearCaptures_loop (s : State) : (clearCaptures s).loop = s.loop := rfl
@[simp] theorem clearCaptures_stp (s : State) : (clearCaptures s).stp = s.stp := rfl
@[simp] theorem clearCaptures_snd (s : State) : (clearCaptures s).snd = s.snd := rfl
@[simp] theorem clearCaptures_flt (s : State) : (clearCaptures s).flt = s.flt := rfl
@[simp] theorem clearCaptures_ord (s : State) : (clearCaptures s).ord = s.ord := rfl
@[simp] theorem clearCaptures_pending (s : State) : (clearCaptures s).pending = s.pending := rfl
@[simp] theorem clearCaptures_clock (s : State) : (clearCaptures s).clock = s.clock := rfl
@[simp] theorem formCap_aut (s : State) : (formCap s).aut = s.aut := rfl
@[simp] theorem formCap_axl (s : State) : (formCap s).axl = s.axl := rfl
@[simp] theorem formCap_pth (s : State) : (formCap s).pth = s.pth := rfl
@[simp] theorem formCap_jct (s : State) : (formCap s).jct = s.jct := rfl
@[simp] theorem formCap_loop (s : State) : (formCap s).loop = s.loop := rfl
@[simp] theorem formCap_stp (s : State) : (formCap s).stp = s.stp := rfl
@[simp] theorem formCap_snd (s : State) : (formCap s).snd = s.snd := rfl
@[simp] theorem formCap_flt (s : State) : (formCap s).flt = s.flt := rfl
@[simp] theorem formCap_ord (s : State) : (formCap s).ord = s.ord := rfl
@[simp] theorem formCap_pending (s : State) : (formCap s).pending = s.pending := rfl
@[simp] theorem formCap_clock (s : State) : (formCap s).clock = s.clock := rfl
@[simp] theorem effClose_aut (s : State) : (effClose s).aut = s.aut := by unfold effClose; (try dsimp only); (repeat' split) <;> simp
@[simp] theorem effClose_axl (s : State) : (effClose s).axl = s.axl := by unfold effClose; (try dsimp only); (repeat' split) <;> simp
@[simp] theorem effClose_pth (s : State) : (effClose s).pth = s.pth := by unfold effClose; (try dsimp only); (repeat' split) <;> simp
@[simp] theorem effClose_jct (s : State) : (effClose s).jct = s.jct := by unfold effClose; (try dsimp only); (repeat' split) <;> simp
@[simp] theorem effClose_loop (s : State) : (effClose s).loop = s.loop := by unfold effClose; (try dsimp only); (repeat' split) <;> simp
@[simp] theorem effClose_stp (s : State) : (effClose s).stp = s.stp := by unfold effClose; (try dsimp only); (repeat' split) <;> simp
@[simp] theorem effClose_ord (s : State) : (effClose s).ord = s.ord := by unfold effClose; (try dsimp only); (repeat' split) <;> simp
@[simp] theorem effClose_pending (s : State) : (effClose s).pending = s.pending := by unfold effClose; (try dsimp only); (repeat' split) <;> simp
@[simp] theorem effClose_clock (s : State) : (effClose s).clock = s.clock := by unfold effClose; (try dsimp only); (repeat' split) <;> simp

/-! ### JCT and LOOP (chapters 5 and 6) -/

@[simp] theorem loopRestart_aut (s : State) : (loopRestart s).aut = s.aut := rfl
@[simp] theorem loopRestart_axl (s : State) : (loopRestart s).axl = s.axl := rfl
@[simp] theorem loopRestart_pth (s : State) : (loopRestart s).pth = s.pth := rfl
@[simp] theorem loopRestart_eff (s : State) : (loopRestart s).eff = s.eff := rfl
@[simp] theorem loopRestart_jct (s : State) : (loopRestart s).jct = s.jct := rfl
@[simp] theorem loopRestart_stp (s : State) : (loopRestart s).stp = s.stp := rfl
@[simp] theorem loopRestart_snd (s : State) : (loopRestart s).snd = s.snd := rfl
@[simp] theorem loopRestart_flt (s : State) : (loopRestart s).flt = s.flt := rfl
@[simp] theorem loopRestart_ord (s : State) : (loopRestart s).ord = s.ord := rfl
@[simp] theorem loopRestart_pending (s : State) : (loopRestart s).pending = s.pending := rfl
@[simp] theorem loopRestart_clock (s : State) : (loopRestart s).clock = s.clock := rfl
@[simp] theorem forgetEntry_aut (b : BankName) (i : Nat) (s : State) : (forgetEntry b i s).aut = s.aut := rfl
@[simp] theorem forgetEntry_axl (b : BankName) (i : Nat) (s : State) : (forgetEntry b i s).axl = s.axl := rfl
@[simp] theorem forgetEntry_pth (b : BankName) (i : Nat) (s : State) : (forgetEntry b i s).pth = s.pth := rfl
@[simp] theorem forgetEntry_eff (b : BankName) (i : Nat) (s : State) : (forgetEntry b i s).eff = s.eff := rfl
@[simp] theorem forgetEntry_jct (b : BankName) (i : Nat) (s : State) : (forgetEntry b i s).jct = s.jct := rfl
@[simp] theorem forgetEntry_stp (b : BankName) (i : Nat) (s : State) : (forgetEntry b i s).stp = s.stp := rfl
@[simp] theorem forgetEntry_snd (b : BankName) (i : Nat) (s : State) : (forgetEntry b i s).snd = s.snd := rfl
@[simp] theorem forgetEntry_flt (b : BankName) (i : Nat) (s : State) : (forgetEntry b i s).flt = s.flt := rfl
@[simp] theorem forgetEntry_ord (b : BankName) (i : Nat) (s : State) : (forgetEntry b i s).ord = s.ord := rfl
@[simp] theorem forgetEntry_pending (b : BankName) (i : Nat) (s : State) : (forgetEntry b i s).pending = s.pending := rfl
@[simp] theorem forgetEntry_clock (b : BankName) (i : Nat) (s : State) : (forgetEntry b i s).clock = s.clock := rfl
@[simp] theorem forgetEntriesFrom_aut (b : BankName) (i : Nat) (s : State) : (forgetEntriesFrom b i s).aut = s.aut := rfl
@[simp] theorem forgetEntriesFrom_axl (b : BankName) (i : Nat) (s : State) : (forgetEntriesFrom b i s).axl = s.axl := rfl
@[simp] theorem forgetEntriesFrom_pth (b : BankName) (i : Nat) (s : State) : (forgetEntriesFrom b i s).pth = s.pth := rfl
@[simp] theorem forgetEntriesFrom_eff (b : BankName) (i : Nat) (s : State) : (forgetEntriesFrom b i s).eff = s.eff := rfl
@[simp] theorem forgetEntriesFrom_jct (b : BankName) (i : Nat) (s : State) : (forgetEntriesFrom b i s).jct = s.jct := rfl
@[simp] theorem forgetEntriesFrom_stp (b : BankName) (i : Nat) (s : State) : (forgetEntriesFrom b i s).stp = s.stp := rfl
@[simp] theorem forgetEntriesFrom_snd (b : BankName) (i : Nat) (s : State) : (forgetEntriesFrom b i s).snd = s.snd := rfl
@[simp] theorem forgetEntriesFrom_flt (b : BankName) (i : Nat) (s : State) : (forgetEntriesFrom b i s).flt = s.flt := rfl
@[simp] theorem forgetEntriesFrom_ord (b : BankName) (i : Nat) (s : State) : (forgetEntriesFrom b i s).ord = s.ord := rfl
@[simp] theorem forgetEntriesFrom_pending (b : BankName) (i : Nat) (s : State) : (forgetEntriesFrom b i s).pending = s.pending := rfl
@[simp] theorem forgetEntriesFrom_clock (b : BankName) (i : Nat) (s : State) : (forgetEntriesFrom b i s).clock = s.clock := rfl
@[simp] theorem afterTaken_aut (t : Telegram) (b : BankName) (i : Nat) (s : State) : (afterTaken t b i s).aut = s.aut := by unfold afterTaken; (try dsimp only); (repeat' split) <;> simp
@[simp] theorem afterTaken_axl (t : Telegram) (b : BankName) (i : Nat) (s : State) : (afterTaken t b i s).axl = s.axl := by unfold afterTaken; (try dsimp only); (repeat' split) <;> simp
@[simp] theorem afterTaken_eff (t : Telegram) (b : BankName) (i : Nat) (s : State) : (afterTaken t b i s).eff = s.eff := by unfold afterTaken; (try dsimp only); (repeat' split) <;> simp
@[simp] theorem afterTaken_jct (t : Telegram) (b : BankName) (i : Nat) (s : State) : (afterTaken t b i s).jct = s.jct := by unfold afterTaken; (try dsimp only); (repeat' split) <;> simp
@[simp] theorem afterTaken_loop (t : Telegram) (b : BankName) (i : Nat) (s : State) : (afterTaken t b i s).loop = s.loop := by unfold afterTaken; (try dsimp only); (repeat' split) <;> simp
@[simp] theorem afterTaken_stp (t : Telegram) (b : BankName) (i : Nat) (s : State) : (afterTaken t b i s).stp = s.stp := by unfold afterTaken; (try dsimp only); (repeat' split) <;> simp
@[simp] theorem afterTaken_snd (t : Telegram) (b : BankName) (i : Nat) (s : State) : (afterTaken t b i s).snd = s.snd := by unfold afterTaken; (try dsimp only); (repeat' split) <;> simp
@[simp] theorem afterTaken_flt (t : Telegram) (b : BankName) (i : Nat) (s : State) : (afterTaken t b i s).flt = s.flt := by unfold afterTaken; (try dsimp only); (repeat' split) <;> simp
@[simp] theorem afterTaken_ord (t : Telegram) (b : BankName) (i : Nat) (s : State) : (afterTaken t b i s).ord = s.ord := by unfold afterTaken; (try dsimp only); (repeat' split) <;> simp
@[simp] theorem afterTaken_pending (t : Telegram) (b : BankName) (i : Nat) (s : State) : (afterTaken t b i s).pending = s.pending := by unfold afterTaken; (try dsimp only); (repeat' split) <;> simp
@[simp] theorem afterTaken_clock (t : Telegram) (b : BankName) (i : Nat) (s : State) : (afterTaken t b i s).clock = s.clock := by unfold afterTaken; (try dsimp only); (repeat' split) <;> simp
@[simp] theorem offerHeads_aut (l : List (BankName × Nat)) (s : State) : ((offerHeads l s).1).aut = s.aut := by
  induction l generalizing s with
  | nil => rfl
  | cons x l ih =>
    obtain ⟨b, i⟩ := x
    unfold offerHeads
    (repeat' split) <;> simp [ih]
@[simp] theorem offerHeads_axl (l : List (BankName × Nat)) (s : State) : ((offerHeads l s).1).axl = s.axl := by
  induction l generalizing s with
  | nil => rfl
  | cons x l ih =>
    obtain ⟨b, i⟩ := x
    unfold offerHeads
    (repeat' split) <;> simp [ih]
@[simp] theorem offerHeads_eff (l : List (BankName × Nat)) (s : State) : ((offerHeads l s).1).eff = s.eff := by
  induction l generalizing s with
  | nil => rfl
  | cons x l ih =>
    obtain ⟨b, i⟩ := x
    unfold offerHeads
    (repeat' split) <;> simp [ih]
@[simp] theorem offerHeads_jct (l : List (BankName × Nat)) (s : State) : ((offerHeads l s).1).jct = s.jct := by
  induction l generalizing s with
  | nil => rfl
  | cons x l ih =>
    obtain ⟨b, i⟩ := x
    unfold offerHeads
    (repeat' split) <;> simp [ih]
@[simp] theorem offerHeads_stp (l : List (BankName × Nat)) (s : State) : ((offerHeads l s).1).stp = s.stp := by
  induction l generalizing s with
  | nil => rfl
  | cons x l ih =>
    obtain ⟨b, i⟩ := x
    unfold offerHeads
    (repeat' split) <;> simp [ih]
@[simp] theorem offerHeads_snd (l : List (BankName × Nat)) (s : State) : ((offerHeads l s).1).snd = s.snd := by
  induction l generalizing s with
  | nil => rfl
  | cons x l ih =>
    obtain ⟨b, i⟩ := x
    unfold offerHeads
    (repeat' split) <;> simp [ih]
@[simp] theorem offerHeads_flt (l : List (BankName × Nat)) (s : State) : ((offerHeads l s).1).flt = s.flt := by
  induction l generalizing s with
  | nil => rfl
  | cons x l ih =>
    obtain ⟨b, i⟩ := x
    unfold offerHeads
    (repeat' split) <;> simp [ih]
@[simp] theorem offerHeads_ord (l : List (BankName × Nat)) (s : State) : ((offerHeads l s).1).ord = s.ord := by
  induction l generalizing s with
  | nil => rfl
  | cons x l ih =>
    obtain ⟨b, i⟩ := x
    unfold offerHeads
    (repeat' split) <;> simp [ih]
@[simp] theorem offerHeads_pending (l : List (BankName × Nat)) (s : State) : ((offerHeads l s).1).pending = s.pending := by
  induction l generalizing s with
  | nil => rfl
  | cons x l ih =>
    obtain ⟨b, i⟩ := x
    unfold offerHeads
    (repeat' split) <;> simp [ih]
@[simp] theorem offerHeads_clock (l : List (BankName × Nat)) (s : State) : ((offerHeads l s).1).clock = s.clock := by
  induction l generalizing s with
  | nil => rfl
  | cons x l ih =>
    obtain ⟨b, i⟩ := x
    unfold offerHeads
    (repeat' split) <;> simp [ih]
@[simp] theorem reofferWith_aut (n : Nat) (s : State) : (reofferWith n s).aut = s.aut := by
  induction n generalizing s with
  | zero => rfl
  | succ n ih =>
    have h := offerHeads_aut s.offeringOrder s
    unfold reofferWith
    split
    · next t e => rw [ih, ← h, e]
    · next t e => rw [← h, e]
@[simp] theorem reofferWith_axl (n : Nat) (s : State) : (reofferWith n s).axl = s.axl := by
  induction n generalizing s with
  | zero => rfl
  | succ n ih =>
    have h := offerHeads_axl s.offeringOrder s
    unfold reofferWith
    split
    · next t e => rw [ih, ← h, e]
    · next t e => rw [← h, e]
@[simp] theorem reofferWith_eff (n : Nat) (s : State) : (reofferWith n s).eff = s.eff := by
  induction n generalizing s with
  | zero => rfl
  | succ n ih =>
    have h := offerHeads_eff s.offeringOrder s
    unfold reofferWith
    split
    · next t e => rw [ih, ← h, e]
    · next t e => rw [← h, e]
@[simp] theorem reofferWith_jct (n : Nat) (s : State) : (reofferWith n s).jct = s.jct := by
  induction n generalizing s with
  | zero => rfl
  | succ n ih =>
    have h := offerHeads_jct s.offeringOrder s
    unfold reofferWith
    split
    · next t e => rw [ih, ← h, e]
    · next t e => rw [← h, e]
@[simp] theorem reofferWith_stp (n : Nat) (s : State) : (reofferWith n s).stp = s.stp := by
  induction n generalizing s with
  | zero => rfl
  | succ n ih =>
    have h := offerHeads_stp s.offeringOrder s
    unfold reofferWith
    split
    · next t e => rw [ih, ← h, e]
    · next t e => rw [← h, e]
@[simp] theorem reofferWith_snd (n : Nat) (s : State) : (reofferWith n s).snd = s.snd := by
  induction n generalizing s with
  | zero => rfl
  | succ n ih =>
    have h := offerHeads_snd s.offeringOrder s
    unfold reofferWith
    split
    · next t e => rw [ih, ← h, e]
    · next t e => rw [← h, e]
@[simp] theorem reofferWith_flt (n : Nat) (s : State) : (reofferWith n s).flt = s.flt := by
  induction n generalizing s with
  | zero => rfl
  | succ n ih =>
    have h := offerHeads_flt s.offeringOrder s
    unfold reofferWith
    split
    · next t e => rw [ih, ← h, e]
    · next t e => rw [← h, e]
@[simp] theorem reofferWith_ord (n : Nat) (s : State) : (reofferWith n s).ord = s.ord := by
  induction n generalizing s with
  | zero => rfl
  | succ n ih =>
    have h := offerHeads_ord s.offeringOrder s
    unfold reofferWith
    split
    · next t e => rw [ih, ← h, e]
    · next t e => rw [← h, e]
@[simp] theorem reofferWith_pending (n : Nat) (s : State) : (reofferWith n s).pending = s.pending := by
  induction n generalizing s with
  | zero => rfl
  | succ n ih =>
    have h := offerHeads_pending s.offeringOrder s
    unfold reofferWith
    split
    · next t e => rw [ih, ← h, e]
    · next t e => rw [← h, e]
@[simp] theorem reofferWith_clock (n : Nat) (s : State) : (reofferWith n s).clock = s.clock := by
  induction n generalizing s with
  | zero => rfl
  | succ n ih =>
    have h := offerHeads_clock s.offeringOrder s
    unfold reofferWith
    split
    · next t e => rw [ih, ← h, e]
    · next t e => rw [← h, e]
@[simp] theorem reoffer_aut (s : State) : (reoffer s).aut = s.aut := reofferWith_aut _ s
@[simp] theorem reoffer_axl (s : State) : (reoffer s).axl = s.axl := reofferWith_axl _ s
@[simp] theorem reoffer_eff (s : State) : (reoffer s).eff = s.eff := reofferWith_eff _ s
@[simp] theorem reoffer_jct (s : State) : (reoffer s).jct = s.jct := reofferWith_jct _ s
@[simp] theorem reoffer_stp (s : State) : (reoffer s).stp = s.stp := reofferWith_stp _ s
@[simp] theorem reoffer_snd (s : State) : (reoffer s).snd = s.snd := reofferWith_snd _ s
@[simp] theorem reoffer_flt (s : State) : (reoffer s).flt = s.flt := reofferWith_flt _ s
@[simp] theorem reoffer_ord (s : State) : (reoffer s).ord = s.ord := reofferWith_ord _ s
@[simp] theorem reoffer_pending (s : State) : (reoffer s).pending = s.pending := reofferWith_pending _ s
@[simp] theorem reoffer_clock (s : State) : (reoffer s).clock = s.clock := reofferWith_clock _ s
@[simp] theorem startTransmitter_aut (s t : State) : (startTransmitter s t).aut = t.aut := rfl
@[simp] theorem startTransmitter_axl (s t : State) : (startTransmitter s t).axl = t.axl := rfl
@[simp] theorem startTransmitter_pth (s t : State) : (startTransmitter s t).pth = t.pth := rfl
@[simp] theorem startTransmitter_eff (s t : State) : (startTransmitter s t).eff = t.eff := rfl
@[simp] theorem startTransmitter_jct (s t : State) : (startTransmitter s t).jct = t.jct := rfl
@[simp] theorem startTransmitter_stp (s t : State) : (startTransmitter s t).stp = t.stp := rfl
@[simp] theorem startTransmitter_snd (s t : State) : (startTransmitter s t).snd = t.snd := rfl
@[simp] theorem startTransmitter_flt (s t : State) : (startTransmitter s t).flt = t.flt := rfl
@[simp] theorem startTransmitter_ord (s t : State) : (startTransmitter s t).ord = t.ord := rfl
@[simp] theorem startTransmitter_pending (s t : State) : (startTransmitter s t).pending = t.pending := rfl
@[simp] theorem startTransmitter_clock (s t : State) : (startTransmitter s t).clock = t.clock := rfl
@[simp] theorem makeOffer_aut (t : Telegram) (b : BankName) (i : Nat) (s : State) : (makeOffer t b i s).aut = s.aut := by unfold makeOffer; (try dsimp only); (repeat' split) <;> simp
@[simp] theorem makeOffer_axl (t : Telegram) (b : BankName) (i : Nat) (s : State) : (makeOffer t b i s).axl = s.axl := by unfold makeOffer; (try dsimp only); (repeat' split) <;> simp
@[simp] theorem makeOffer_eff (t : Telegram) (b : BankName) (i : Nat) (s : State) : (makeOffer t b i s).eff = s.eff := by unfold makeOffer; (try dsimp only); (repeat' split) <;> simp
@[simp] theorem makeOffer_jct (t : Telegram) (b : BankName) (i : Nat) (s : State) : (makeOffer t b i s).jct = s.jct := by unfold makeOffer; (try dsimp only); (repeat' split) <;> simp
@[simp] theorem makeOffer_stp (t : Telegram) (b : BankName) (i : Nat) (s : State) : (makeOffer t b i s).stp = s.stp := by unfold makeOffer; (try dsimp only); (repeat' split) <;> simp
@[simp] theorem makeOffer_snd (t : Telegram) (b : BankName) (i : Nat) (s : State) : (makeOffer t b i s).snd = s.snd := by unfold makeOffer; (try dsimp only); (repeat' split) <;> simp
@[simp] theorem makeOffer_flt (t : Telegram) (b : BankName) (i : Nat) (s : State) : (makeOffer t b i s).flt = s.flt := by unfold makeOffer; (try dsimp only); (repeat' split) <;> simp
@[simp] theorem makeOffer_ord (t : Telegram) (b : BankName) (i : Nat) (s : State) : (makeOffer t b i s).ord = s.ord := by unfold makeOffer; (try dsimp only); (repeat' split) <;> simp
@[simp] theorem makeOffer_pending (t : Telegram) (b : BankName) (i : Nat) (s : State) : (makeOffer t b i s).pending = s.pending := by unfold makeOffer; (try dsimp only); (repeat' split) <;> simp
@[simp] theorem makeOffer_clock (t : Telegram) (b : BankName) (i : Nat) (s : State) : (makeOffer t b i s).clock = s.clock := by unfold makeOffer; (try dsimp only); (repeat' split) <;> simp
@[simp] theorem passRequestPoint_aut (b : BankName) (i : Nat) (s : State) : (passRequestPoint b i s).aut = s.aut := by unfold passRequestPoint; (try dsimp only); (repeat' split) <;> simp
@[simp] theorem passRequestPoint_axl (b : BankName) (i : Nat) (s : State) : (passRequestPoint b i s).axl = s.axl := by unfold passRequestPoint; (try dsimp only); (repeat' split) <;> simp
@[simp] theorem passRequestPoint_eff (b : BankName) (i : Nat) (s : State) : (passRequestPoint b i s).eff = s.eff := by unfold passRequestPoint; (try dsimp only); (repeat' split) <;> simp
@[simp] theorem passRequestPoint_jct (b : BankName) (i : Nat) (s : State) : (passRequestPoint b i s).jct = s.jct := by unfold passRequestPoint; (try dsimp only); (repeat' split) <;> simp
@[simp] theorem passRequestPoint_stp (b : BankName) (i : Nat) (s : State) : (passRequestPoint b i s).stp = s.stp := by unfold passRequestPoint; (try dsimp only); (repeat' split) <;> simp
@[simp] theorem passRequestPoint_snd (b : BankName) (i : Nat) (s : State) : (passRequestPoint b i s).snd = s.snd := by unfold passRequestPoint; (try dsimp only); (repeat' split) <;> simp
@[simp] theorem passRequestPoint_flt (b : BankName) (i : Nat) (s : State) : (passRequestPoint b i s).flt = s.flt := by unfold passRequestPoint; (try dsimp only); (repeat' split) <;> simp
@[simp] theorem passRequestPoint_ord (b : BankName) (i : Nat) (s : State) : (passRequestPoint b i s).ord = s.ord := by unfold passRequestPoint; (try dsimp only); (repeat' split) <;> simp
@[simp] theorem passRequestPoint_pending (b : BankName) (i : Nat) (s : State) : (passRequestPoint b i s).pending = s.pending := by unfold passRequestPoint; (try dsimp only); (repeat' split) <;> simp
@[simp] theorem passRequestPoint_clock (b : BankName) (i : Nat) (s : State) : (passRequestPoint b i s).clock = s.clock := by unfold passRequestPoint; (try dsimp only); (repeat' split) <;> simp
@[simp] theorem passApproach_aut (b : BankName) (i : Nat) (s : State) : (passApproach b i s).aut = s.aut := by unfold passApproach; (try dsimp only); (repeat' split) <;> simp
@[simp] theorem passApproach_axl (b : BankName) (i : Nat) (s : State) : (passApproach b i s).axl = s.axl := by unfold passApproach; (try dsimp only); (repeat' split) <;> simp
@[simp] theorem passApproach_pth (b : BankName) (i : Nat) (s : State) : (passApproach b i s).pth = s.pth := by unfold passApproach; (try dsimp only); (repeat' split) <;> simp
@[simp] theorem passApproach_eff (b : BankName) (i : Nat) (s : State) : (passApproach b i s).eff = s.eff := by unfold passApproach; (try dsimp only); (repeat' split) <;> simp
@[simp] theorem passApproach_jct (b : BankName) (i : Nat) (s : State) : (passApproach b i s).jct = s.jct := by unfold passApproach; (try dsimp only); (repeat' split) <;> simp
@[simp] theorem passApproach_loop (b : BankName) (i : Nat) (s : State) : (passApproach b i s).loop = s.loop := by unfold passApproach; (try dsimp only); (repeat' split) <;> simp
@[simp] theorem passApproach_stp (b : BankName) (i : Nat) (s : State) : (passApproach b i s).stp = s.stp := by unfold passApproach; (try dsimp only); (repeat' split) <;> simp
@[simp] theorem passApproach_flt (b : BankName) (i : Nat) (s : State) : (passApproach b i s).flt = s.flt := by unfold passApproach; (try dsimp only); (repeat' split) <;> simp
@[simp] theorem passApproach_ord (b : BankName) (i : Nat) (s : State) : (passApproach b i s).ord = s.ord := by unfold passApproach; (try dsimp only); (repeat' split) <;> simp
@[simp] theorem passApproach_pending (b : BankName) (i : Nat) (s : State) : (passApproach b i s).pending = s.pending := by unfold passApproach; (try dsimp only); (repeat' split) <;> simp
@[simp] theorem passApproach_clock (b : BankName) (i : Nat) (s : State) : (passApproach b i s).clock = s.clock := by unfold passApproach; (try dsimp only); (repeat' split) <;> simp
@[simp] theorem passClearance_aut (b : BankName) (i : Nat) (s : State) : (passClearance b i s).aut = s.aut := by unfold passClearance; (try dsimp only); (repeat' split) <;> simp
@[simp] theorem passClearance_axl (b : BankName) (i : Nat) (s : State) : (passClearance b i s).axl = s.axl := by unfold passClearance; (try dsimp only); (repeat' split) <;> simp
@[simp] theorem passClearance_eff (b : BankName) (i : Nat) (s : State) : (passClearance b i s).eff = s.eff := by unfold passClearance; (try dsimp only); (repeat' split) <;> simp
@[simp] theorem passClearance_jct (b : BankName) (i : Nat) (s : State) : (passClearance b i s).jct = s.jct := by unfold passClearance; (try dsimp only); (repeat' split) <;> simp
@[simp] theorem passClearance_stp (b : BankName) (i : Nat) (s : State) : (passClearance b i s).stp = s.stp := by unfold passClearance; (try dsimp only); (repeat' split) <;> simp
@[simp] theorem passClearance_snd (b : BankName) (i : Nat) (s : State) : (passClearance b i s).snd = s.snd := by unfold passClearance; (try dsimp only); (repeat' split) <;> simp
@[simp] theorem passClearance_ord (b : BankName) (i : Nat) (s : State) : (passClearance b i s).ord = s.ord := by unfold passClearance; (try dsimp only); (repeat' split) <;> simp
@[simp] theorem passClearance_pending (b : BankName) (i : Nat) (s : State) : (passClearance b i s).pending = s.pending := by unfold passClearance; (try dsimp only); (repeat' split) <;> simp
@[simp] theorem passClearance_clock (b : BankName) (i : Nat) (s : State) : (passClearance b i s).clock = s.clock := by unfold passClearance; (try dsimp only); (repeat' split) <;> simp
@[simp] theorem offerToLists_aut (id : Nat) (s : State) : (offerToLists id s).aut = s.aut := rfl
@[simp] theorem offerToLists_axl (id : Nat) (s : State) : (offerToLists id s).axl = s.axl := rfl
@[simp] theorem offerToLists_pth (id : Nat) (s : State) : (offerToLists id s).pth = s.pth := rfl
@[simp] theorem offerToLists_eff (id : Nat) (s : State) : (offerToLists id s).eff = s.eff := rfl
@[simp] theorem offerToLists_loop (id : Nat) (s : State) : (offerToLists id s).loop = s.loop := rfl
@[simp] theorem offerToLists_stp (id : Nat) (s : State) : (offerToLists id s).stp = s.stp := rfl
@[simp] theorem offerToLists_snd (id : Nat) (s : State) : (offerToLists id s).snd = s.snd := rfl
@[simp] theorem offerToLists_flt (id : Nat) (s : State) : (offerToLists id s).flt = s.flt := rfl
@[simp] theorem offerToLists_ord (id : Nat) (s : State) : (offerToLists id s).ord = s.ord := rfl
@[simp] theorem offerToLists_pending (id : Nat) (s : State) : (offerToLists id s).pending = s.pending := rfl
@[simp] theorem offerToLists_clock (id : Nat) (s : State) : (offerToLists id s).clock = s.clock := rfl
@[simp] theorem transmissionReport_aut (j : Nat) (n : BitVec 4) (s : State) : (transmissionReport j n s).aut = s.aut := by unfold transmissionReport; (try dsimp only); (repeat' split) <;> simp
@[simp] theorem transmissionReport_axl (j : Nat) (n : BitVec 4) (s : State) : (transmissionReport j n s).axl = s.axl := by unfold transmissionReport; (try dsimp only); (repeat' split) <;> simp
@[simp] theorem transmissionReport_eff (j : Nat) (n : BitVec 4) (s : State) : (transmissionReport j n s).eff = s.eff := by unfold transmissionReport; (try dsimp only); (repeat' split) <;> simp
@[simp] theorem transmissionReport_jct (j : Nat) (n : BitVec 4) (s : State) : (transmissionReport j n s).jct = s.jct := by unfold transmissionReport; (try dsimp only); (repeat' split) <;> simp
@[simp] theorem transmissionReport_loop (j : Nat) (n : BitVec 4) (s : State) : (transmissionReport j n s).loop = s.loop := by unfold transmissionReport; (try dsimp only); (repeat' split) <;> simp
@[simp] theorem transmissionReport_stp (j : Nat) (n : BitVec 4) (s : State) : (transmissionReport j n s).stp = s.stp := by unfold transmissionReport; (try dsimp only); (repeat' split) <;> simp
@[simp] theorem transmissionReport_snd (j : Nat) (n : BitVec 4) (s : State) : (transmissionReport j n s).snd = s.snd := by unfold transmissionReport; (try dsimp only); (repeat' split) <;> simp
@[simp] theorem transmissionReport_flt (j : Nat) (n : BitVec 4) (s : State) : (transmissionReport j n s).flt = s.flt := by unfold transmissionReport; (try dsimp only); (repeat' split) <;> simp
@[simp] theorem transmissionReport_ord (j : Nat) (n : BitVec 4) (s : State) : (transmissionReport j n s).ord = s.ord := by unfold transmissionReport; (try dsimp only); (repeat' split) <;> simp
@[simp] theorem transmissionReport_pending (j : Nat) (n : BitVec 4) (s : State) : (transmissionReport j n s).pending = s.pending := by unfold transmissionReport; (try dsimp only); (repeat' split) <;> simp
@[simp] theorem transmissionReport_clock (j : Nat) (n : BitVec 4) (s : State) : (transmissionReport j n s).clock = s.clock := by unfold transmissionReport; (try dsimp only); (repeat' split) <;> simp
@[simp] theorem takeAccept_aut (j : Nat) (n : BitVec 4) (s : State) : (takeAccept j n s).aut = s.aut := by unfold takeAccept; (try dsimp only); (repeat' split) <;> simp
@[simp] theorem takeAccept_axl (j : Nat) (n : BitVec 4) (s : State) : (takeAccept j n s).axl = s.axl := by unfold takeAccept; (try dsimp only); (repeat' split) <;> simp
@[simp] theorem takeAccept_eff (j : Nat) (n : BitVec 4) (s : State) : (takeAccept j n s).eff = s.eff := by unfold takeAccept; (try dsimp only); (repeat' split) <;> simp
@[simp] theorem takeAccept_jct (j : Nat) (n : BitVec 4) (s : State) : (takeAccept j n s).jct = s.jct := by unfold takeAccept; (try dsimp only); (repeat' split) <;> simp
@[simp] theorem takeAccept_loop (j : Nat) (n : BitVec 4) (s : State) : (takeAccept j n s).loop = s.loop := by unfold takeAccept; (try dsimp only); (repeat' split) <;> simp
@[simp] theorem takeAccept_stp (j : Nat) (n : BitVec 4) (s : State) : (takeAccept j n s).stp = s.stp := by unfold takeAccept; (try dsimp only); (repeat' split) <;> simp
@[simp] theorem takeAccept_snd (j : Nat) (n : BitVec 4) (s : State) : (takeAccept j n s).snd = s.snd := by unfold takeAccept; (try dsimp only); (repeat' split) <;> simp
@[simp] theorem takeAccept_flt (j : Nat) (n : BitVec 4) (s : State) : (takeAccept j n s).flt = s.flt := by unfold takeAccept; (try dsimp only); (repeat' split) <;> simp
@[simp] theorem takeAccept_ord (j : Nat) (n : BitVec 4) (s : State) : (takeAccept j n s).ord = s.ord := by unfold takeAccept; (try dsimp only); (repeat' split) <;> simp
@[simp] theorem takeAccept_pending (j : Nat) (n : BitVec 4) (s : State) : (takeAccept j n s).pending = s.pending := by unfold takeAccept; (try dsimp only); (repeat' split) <;> simp
@[simp] theorem takeAccept_clock (j : Nat) (n : BitVec 4) (s : State) : (takeAccept j n s).clock = s.clock := by unfold takeAccept; (try dsimp only); (repeat' split) <;> simp
@[simp] theorem takeSet_aut (j : Nat) (n : BitVec 4) (s : State) : (takeSet j n s).aut = s.aut := by unfold takeSet; (try dsimp only); (repeat' split) <;> simp
@[simp] theorem takeSet_axl (j : Nat) (n : BitVec 4) (s : State) : (takeSet j n s).axl = s.axl := by unfold takeSet; (try dsimp only); (repeat' split) <;> simp
@[simp] theorem takeSet_eff (j : Nat) (n : BitVec 4) (s : State) : (takeSet j n s).eff = s.eff := by unfold takeSet; (try dsimp only); (repeat' split) <;> simp
@[simp] theorem takeSet_jct (j : Nat) (n : BitVec 4) (s : State) : (takeSet j n s).jct = s.jct := by unfold takeSet; (try dsimp only); (repeat' split) <;> simp
@[simp] theorem takeSet_loop (j : Nat) (n : BitVec 4) (s : State) : (takeSet j n s).loop = s.loop := by unfold takeSet; (try dsimp only); (repeat' split) <;> simp
@[simp] theorem takeSet_stp (j : Nat) (n : BitVec 4) (s : State) : (takeSet j n s).stp = s.stp := by unfold takeSet; (try dsimp only); (repeat' split) <;> simp
@[simp] theorem takeSet_snd (j : Nat) (n : BitVec 4) (s : State) : (takeSet j n s).snd = s.snd := by unfold takeSet; (try dsimp only); (repeat' split) <;> simp
@[simp] theorem takeSet_flt (j : Nat) (n : BitVec 4) (s : State) : (takeSet j n s).flt = s.flt := by unfold takeSet; (try dsimp only); (repeat' split) <;> simp
@[simp] theorem takeSet_ord (j : Nat) (n : BitVec 4) (s : State) : (takeSet j n s).ord = s.ord := by unfold takeSet; (try dsimp only); (repeat' split) <;> simp
@[simp] theorem takeSet_pending (j : Nat) (n : BitVec 4) (s : State) : (takeSet j n s).pending = s.pending := by unfold takeSet; (try dsimp only); (repeat' split) <;> simp
@[simp] theorem takeSet_clock (j : Nat) (n : BitVec 4) (s : State) : (takeSet j n s).clock = s.clock := by unfold takeSet; (try dsimp only); (repeat' split) <;> simp
@[simp] theorem takeRefuse_aut (j : Nat) (n : BitVec 4) (r : Reason) (s : State) : (takeRefuse j n r s).aut = s.aut := by unfold takeRefuse; (try dsimp only); (repeat' split) <;> simp
@[simp] theorem takeRefuse_axl (j : Nat) (n : BitVec 4) (r : Reason) (s : State) : (takeRefuse j n r s).axl = s.axl := by unfold takeRefuse; (try dsimp only); (repeat' split) <;> simp
@[simp] theorem takeRefuse_eff (j : Nat) (n : BitVec 4) (r : Reason) (s : State) : (takeRefuse j n r s).eff = s.eff := by unfold takeRefuse; (try dsimp only); (repeat' split) <;> simp
@[simp] theorem takeRefuse_loop (j : Nat) (n : BitVec 4) (r : Reason) (s : State) : (takeRefuse j n r s).loop = s.loop := by unfold takeRefuse; (try dsimp only); (repeat' split) <;> simp
@[simp] theorem takeRefuse_stp (j : Nat) (n : BitVec 4) (r : Reason) (s : State) : (takeRefuse j n r s).stp = s.stp := by unfold takeRefuse; (try dsimp only); (repeat' split) <;> simp
@[simp] theorem takeRefuse_snd (j : Nat) (n : BitVec 4) (r : Reason) (s : State) : (takeRefuse j n r s).snd = s.snd := by unfold takeRefuse; (try dsimp only); (repeat' split) <;> simp
@[simp] theorem takeRefuse_ord (j : Nat) (n : BitVec 4) (r : Reason) (s : State) : (takeRefuse j n r s).ord = s.ord := by unfold takeRefuse; (try dsimp only); (repeat' split) <;> simp
@[simp] theorem takeRefuse_pending (j : Nat) (n : BitVec 4) (r : Reason) (s : State) : (takeRefuse j n r s).pending = s.pending := by unfold takeRefuse; (try dsimp only); (repeat' split) <;> simp
@[simp] theorem takeRefuse_clock (j : Nat) (n : BitVec 4) (r : Reason) (s : State) : (takeRefuse j n r s).clock = s.clock := by unfold takeRefuse; (try dsimp only); (repeat' split) <;> simp
@[simp] theorem raiseLockLost_aut (e : Entry) (s : State) : (raiseLockLost e s).aut = s.aut := by unfold raiseLockLost; (try dsimp only); (repeat' split) <;> simp
@[simp] theorem raiseLockLost_axl (e : Entry) (s : State) : (raiseLockLost e s).axl = s.axl := by unfold raiseLockLost; (try dsimp only); (repeat' split) <;> simp
@[simp] theorem raiseLockLost_pth (e : Entry) (s : State) : (raiseLockLost e s).pth = s.pth := by unfold raiseLockLost; (try dsimp only); (repeat' split) <;> simp
@[simp] theorem raiseLockLost_jct (e : Entry) (s : State) : (raiseLockLost e s).jct = s.jct := by unfold raiseLockLost; (try dsimp only); (repeat' split) <;> simp
@[simp] theorem raiseLockLost_loop (e : Entry) (s : State) : (raiseLockLost e s).loop = s.loop := by unfold raiseLockLost; (try dsimp only); (repeat' split) <;> simp
@[simp] theorem raiseLockLost_stp (e : Entry) (s : State) : (raiseLockLost e s).stp = s.stp := by unfold raiseLockLost; (try dsimp only); (repeat' split) <;> simp
@[simp] theorem raiseLockLost_snd (e : Entry) (s : State) : (raiseLockLost e s).snd = s.snd := by unfold raiseLockLost; (try dsimp only); (repeat' split) <;> simp
@[simp] theorem raiseLockLost_ord (e : Entry) (s : State) : (raiseLockLost e s).ord = s.ord := by unfold raiseLockLost; (try dsimp only); (repeat' split) <;> simp
@[simp] theorem raiseLockLost_pending (e : Entry) (s : State) : (raiseLockLost e s).pending = s.pending := by unfold raiseLockLost; (try dsimp only); (repeat' split) <;> simp
@[simp] theorem raiseLockLost_clock (e : Entry) (s : State) : (raiseLockLost e s).clock = s.clock := by unfold raiseLockLost; (try dsimp only); (repeat' split) <;> simp
@[simp] theorem takeLockLost_aut (j : Nat) (n : BitVec 4) (s : State) : (takeLockLost j n s).aut = s.aut := by unfold takeLockLost; (try dsimp only); (repeat' split) <;> simp
@[simp] theorem takeLockLost_axl (j : Nat) (n : BitVec 4) (s : State) : (takeLockLost j n s).axl = s.axl := by unfold takeLockLost; (try dsimp only); (repeat' split) <;> simp
@[simp] theorem takeLockLost_loop (j : Nat) (n : BitVec 4) (s : State) : (takeLockLost j n s).loop = s.loop := by unfold takeLockLost; (try dsimp only); (repeat' split) <;> simp
@[simp] theorem takeLockLost_stp (j : Nat) (n : BitVec 4) (s : State) : (takeLockLost j n s).stp = s.stp := by unfold takeLockLost; (try dsimp only); (repeat' split) <;> simp
@[simp] theorem takeLockLost_snd (j : Nat) (n : BitVec 4) (s : State) : (takeLockLost j n s).snd = s.snd := by unfold takeLockLost; (try dsimp only); (repeat' split) <;> simp
@[simp] theorem takeLockLost_ord (j : Nat) (n : BitVec 4) (s : State) : (takeLockLost j n s).ord = s.ord := by unfold takeLockLost; (try dsimp only); (repeat' split) <;> simp
@[simp] theorem takeLockLost_pending (j : Nat) (n : BitVec 4) (s : State) : (takeLockLost j n s).pending = s.pending := by unfold takeLockLost; (try dsimp only); (repeat' split) <;> simp
@[simp] theorem takeLockLost_clock (j : Nat) (n : BitVec 4) (s : State) : (takeLockLost j n s).clock = s.clock := by unfold takeLockLost; (try dsimp only); (repeat' split) <;> simp
@[simp] theorem exchangeExpired_aut (j : Nat) (s : State) : (exchangeExpired j s).aut = s.aut := by unfold exchangeExpired; (try dsimp only); (repeat' split) <;> simp
@[simp] theorem exchangeExpired_axl (j : Nat) (s : State) : (exchangeExpired j s).axl = s.axl := by unfold exchangeExpired; (try dsimp only); (repeat' split) <;> simp
@[simp] theorem exchangeExpired_eff (j : Nat) (s : State) : (exchangeExpired j s).eff = s.eff := by unfold exchangeExpired; (try dsimp only); (repeat' split) <;> simp
@[simp] theorem exchangeExpired_loop (j : Nat) (s : State) : (exchangeExpired j s).loop = s.loop := by unfold exchangeExpired; (try dsimp only); (repeat' split) <;> simp
@[simp] theorem exchangeExpired_stp (j : Nat) (s : State) : (exchangeExpired j s).stp = s.stp := by unfold exchangeExpired; (try dsimp only); (repeat' split) <;> simp
@[simp] theorem exchangeExpired_snd (j : Nat) (s : State) : (exchangeExpired j s).snd = s.snd := by unfold exchangeExpired; (try dsimp only); (repeat' split) <;> simp
@[simp] theorem exchangeExpired_ord (j : Nat) (s : State) : (exchangeExpired j s).ord = s.ord := by unfold exchangeExpired; (try dsimp only); (repeat' split) <;> simp
@[simp] theorem exchangeExpired_pending (j : Nat) (s : State) : (exchangeExpired j s).pending = s.pending := by unfold exchangeExpired; (try dsimp only); (repeat' split) <;> simp
@[simp] theorem exchangeExpired_clock (j : Nat) (s : State) : (exchangeExpired j s).clock = s.clock := by unfold exchangeExpired; (try dsimp only); (repeat' split) <;> simp
@[simp] theorem completeTransmission_aut (s : State) : (completeTransmission s).aut = s.aut := by unfold completeTransmission; (try dsimp only); (repeat' split) <;> simp
@[simp] theorem completeTransmission_axl (s : State) : (completeTransmission s).axl = s.axl := by unfold completeTransmission; (try dsimp only); (repeat' split) <;> simp
@[simp] theorem completeTransmission_eff (s : State) : (completeTransmission s).eff = s.eff := by unfold completeTransmission; (try dsimp only); (repeat' split) <;> simp
@[simp] theorem completeTransmission_jct (s : State) : (completeTransmission s).jct = s.jct := by unfold completeTransmission; (try dsimp only); (repeat' split) <;> simp
@[simp] theorem completeTransmission_stp (s : State) : (completeTransmission s).stp = s.stp := by unfold completeTransmission; (try dsimp only); (repeat' split) <;> simp
@[simp] theorem completeTransmission_snd (s : State) : (completeTransmission s).snd = s.snd := by unfold completeTransmission; (try dsimp only); (repeat' split) <;> simp
@[simp] theorem completeTransmission_flt (s : State) : (completeTransmission s).flt = s.flt := by unfold completeTransmission; (try dsimp only); (repeat' split) <;> simp
@[simp] theorem completeTransmission_ord (s : State) : (completeTransmission s).ord = s.ord := by unfold completeTransmission; (try dsimp only); (repeat' split) <;> simp
@[simp] theorem completeTransmission_pending (s : State) : (completeTransmission s).pending = s.pending := by unfold completeTransmission; (try dsimp only); (repeat' split) <;> simp
@[simp] theorem completeTransmission_clock (s : State) : (completeTransmission s).clock = s.clock := by unfold completeTransmission; (try dsimp only); (repeat' split) <;> simp
@[simp] theorem retireJunction_aut (b : BankName) (i : Nat) (s : State) : (retireJunction b i s).aut = s.aut := by unfold retireJunction; (try dsimp only); (repeat' split) <;> simp
@[simp] theorem retireJunction_axl (b : BankName) (i : Nat) (s : State) : (retireJunction b i s).axl = s.axl := by unfold retireJunction; (try dsimp only); (repeat' split) <;> simp
@[simp] theorem retireJunction_eff (b : BankName) (i : Nat) (s : State) : (retireJunction b i s).eff = s.eff := by unfold retireJunction; (try dsimp only); (repeat' split) <;> simp
@[simp] theorem retireJunction_jct (b : BankName) (i : Nat) (s : State) : (retireJunction b i s).jct = s.jct := by unfold retireJunction; (try dsimp only); (repeat' split) <;> simp
@[simp] theorem retireJunction_stp (b : BankName) (i : Nat) (s : State) : (retireJunction b i s).stp = s.stp := by unfold retireJunction; (try dsimp only); (repeat' split) <;> simp
@[simp] theorem retireJunction_snd (b : BankName) (i : Nat) (s : State) : (retireJunction b i s).snd = s.snd := by unfold retireJunction; (try dsimp only); (repeat' split) <;> simp
@[simp] theorem retireJunction_flt (b : BankName) (i : Nat) (s : State) : (retireJunction b i s).flt = s.flt := by unfold retireJunction; (try dsimp only); (repeat' split) <;> simp
@[simp] theorem retireJunction_ord (b : BankName) (i : Nat) (s : State) : (retireJunction b i s).ord = s.ord := by unfold retireJunction; (try dsimp only); (repeat' split) <;> simp
@[simp] theorem retireJunction_pending (b : BankName) (i : Nat) (s : State) : (retireJunction b i s).pending = s.pending := by unfold retireJunction; (try dsimp only); (repeat' split) <;> simp
@[simp] theorem retireJunction_clock (b : BankName) (i : Nat) (s : State) : (retireJunction b i s).clock = s.clock := by unfold retireJunction; (try dsimp only); (repeat' split) <;> simp
@[simp] theorem retireJunctions_aut (b : BankName) (s : State) : (retireJunctions b s).aut = s.aut := foldl_keeps (g := State.aut) (fun t i => retireJunction_aut b i t) _ s
@[simp] theorem retireJunctions_axl (b : BankName) (s : State) : (retireJunctions b s).axl = s.axl := foldl_keeps (g := State.axl) (fun t i => retireJunction_axl b i t) _ s
@[simp] theorem retireJunctions_eff (b : BankName) (s : State) : (retireJunctions b s).eff = s.eff := foldl_keeps (g := State.eff) (fun t i => retireJunction_eff b i t) _ s
@[simp] theorem retireJunctions_jct (b : BankName) (s : State) : (retireJunctions b s).jct = s.jct := foldl_keeps (g := State.jct) (fun t i => retireJunction_jct b i t) _ s
@[simp] theorem retireJunctions_stp (b : BankName) (s : State) : (retireJunctions b s).stp = s.stp := foldl_keeps (g := State.stp) (fun t i => retireJunction_stp b i t) _ s
@[simp] theorem retireJunctions_snd (b : BankName) (s : State) : (retireJunctions b s).snd = s.snd := foldl_keeps (g := State.snd) (fun t i => retireJunction_snd b i t) _ s
@[simp] theorem retireJunctions_flt (b : BankName) (s : State) : (retireJunctions b s).flt = s.flt := foldl_keeps (g := State.flt) (fun t i => retireJunction_flt b i t) _ s
@[simp] theorem retireJunctions_ord (b : BankName) (s : State) : (retireJunctions b s).ord = s.ord := foldl_keeps (g := State.ord) (fun t i => retireJunction_ord b i t) _ s
@[simp] theorem retireJunctions_pending (b : BankName) (s : State) : (retireJunctions b s).pending = s.pending := foldl_keeps (g := State.pending) (fun t i => retireJunction_pending b i t) _ s
@[simp] theorem retireJunctions_clock (b : BankName) (s : State) : (retireJunctions b s).clock = s.clock := foldl_keeps (g := State.clock) (fun t i => retireJunction_clock b i t) _ s
@[simp] theorem remakeTelegram_aut (q : QueuedTelegram) (s : State) : (remakeTelegram q s).aut = s.aut := by unfold remakeTelegram; (try dsimp only); (repeat' split) <;> simp
@[simp] theorem remakeTelegram_axl (q : QueuedTelegram) (s : State) : (remakeTelegram q s).axl = s.axl := by unfold remakeTelegram; (try dsimp only); (repeat' split) <;> simp
@[simp] theorem remakeTelegram_eff (q : QueuedTelegram) (s : State) : (remakeTelegram q s).eff = s.eff := by unfold remakeTelegram; (try dsimp only); (repeat' split) <;> simp
@[simp] theorem remakeTelegram_jct (q : QueuedTelegram) (s : State) : (remakeTelegram q s).jct = s.jct := by unfold remakeTelegram; (try dsimp only); (repeat' split) <;> simp
@[simp] theorem remakeTelegram_loop (q : QueuedTelegram) (s : State) : (remakeTelegram q s).loop = s.loop := by unfold remakeTelegram; (try dsimp only); (repeat' split) <;> simp
@[simp] theorem remakeTelegram_stp (q : QueuedTelegram) (s : State) : (remakeTelegram q s).stp = s.stp := by unfold remakeTelegram; (try dsimp only); (repeat' split) <;> simp
@[simp] theorem remakeTelegram_snd (q : QueuedTelegram) (s : State) : (remakeTelegram q s).snd = s.snd := by unfold remakeTelegram; (try dsimp only); (repeat' split) <;> simp
@[simp] theorem remakeTelegram_flt (q : QueuedTelegram) (s : State) : (remakeTelegram q s).flt = s.flt := by unfold remakeTelegram; (try dsimp only); (repeat' split) <;> simp
@[simp] theorem remakeTelegram_ord (q : QueuedTelegram) (s : State) : (remakeTelegram q s).ord = s.ord := by unfold remakeTelegram; (try dsimp only); (repeat' split) <;> simp
@[simp] theorem remakeTelegram_pending (q : QueuedTelegram) (s : State) : (remakeTelegram q s).pending = s.pending := by unfold remakeTelegram; (try dsimp only); (repeat' split) <;> simp
@[simp] theorem remakeTelegram_clock (q : QueuedTelegram) (s : State) : (remakeTelegram q s).clock = s.clock := by unfold remakeTelegram; (try dsimp only); (repeat' split) <;> simp
@[simp] theorem remakeTelegrams_aut (l : List QueuedTelegram) (s : State) : (l.foldl (fun t q => remakeTelegram q t) s).aut = s.aut := foldl_keeps (g := State.aut) (fun t q => remakeTelegram_aut q t) _ s
@[simp] theorem remakeTelegrams_axl (l : List QueuedTelegram) (s : State) : (l.foldl (fun t q => remakeTelegram q t) s).axl = s.axl := foldl_keeps (g := State.axl) (fun t q => remakeTelegram_axl q t) _ s
@[simp] theorem remakeTelegrams_eff (l : List QueuedTelegram) (s : State) : (l.foldl (fun t q => remakeTelegram q t) s).eff = s.eff := foldl_keeps (g := State.eff) (fun t q => remakeTelegram_eff q t) _ s
@[simp] theorem remakeTelegrams_jct (l : List QueuedTelegram) (s : State) : (l.foldl (fun t q => remakeTelegram q t) s).jct = s.jct := foldl_keeps (g := State.jct) (fun t q => remakeTelegram_jct q t) _ s
@[simp] theorem remakeTelegrams_loop (l : List QueuedTelegram) (s : State) : (l.foldl (fun t q => remakeTelegram q t) s).loop = s.loop := foldl_keeps (g := State.loop) (fun t q => remakeTelegram_loop q t) _ s
@[simp] theorem remakeTelegrams_stp (l : List QueuedTelegram) (s : State) : (l.foldl (fun t q => remakeTelegram q t) s).stp = s.stp := foldl_keeps (g := State.stp) (fun t q => remakeTelegram_stp q t) _ s
@[simp] theorem remakeTelegrams_snd (l : List QueuedTelegram) (s : State) : (l.foldl (fun t q => remakeTelegram q t) s).snd = s.snd := foldl_keeps (g := State.snd) (fun t q => remakeTelegram_snd q t) _ s
@[simp] theorem remakeTelegrams_flt (l : List QueuedTelegram) (s : State) : (l.foldl (fun t q => remakeTelegram q t) s).flt = s.flt := foldl_keeps (g := State.flt) (fun t q => remakeTelegram_flt q t) _ s
@[simp] theorem remakeTelegrams_ord (l : List QueuedTelegram) (s : State) : (l.foldl (fun t q => remakeTelegram q t) s).ord = s.ord := foldl_keeps (g := State.ord) (fun t q => remakeTelegram_ord q t) _ s
@[simp] theorem remakeTelegrams_pending (l : List QueuedTelegram) (s : State) : (l.foldl (fun t q => remakeTelegram q t) s).pending = s.pending := foldl_keeps (g := State.pending) (fun t q => remakeTelegram_pending q t) _ s
@[simp] theorem remakeTelegrams_clock (l : List QueuedTelegram) (s : State) : (l.foldl (fun t q => remakeTelegram q t) s).clock = s.clock := foldl_keeps (g := State.clock) (fun t q => remakeTelegram_clock q t) _ s
@[simp] theorem restartJunctions_aut (b : BankName) (l : List (Nat × Entry)) (s : State) : (l.foldl (fun t x => t.modJunction b x.1 (restartJunction x.2.id s)) s).aut = s.aut := foldl_keeps (g := State.aut) (fun t x => modJunction_aut b (Prod.fst x) _ t) _ s
@[simp] theorem restartJunctions_axl (b : BankName) (l : List (Nat × Entry)) (s : State) : (l.foldl (fun t x => t.modJunction b x.1 (restartJunction x.2.id s)) s).axl = s.axl := foldl_keeps (g := State.axl) (fun t x => modJunction_axl b (Prod.fst x) _ t) _ s
@[simp] theorem restartJunctions_eff (b : BankName) (l : List (Nat × Entry)) (s : State) : (l.foldl (fun t x => t.modJunction b x.1 (restartJunction x.2.id s)) s).eff = s.eff := foldl_keeps (g := State.eff) (fun t x => modJunction_eff b (Prod.fst x) _ t) _ s
@[simp] theorem restartJunctions_jct (b : BankName) (l : List (Nat × Entry)) (s : State) : (l.foldl (fun t x => t.modJunction b x.1 (restartJunction x.2.id s)) s).jct = s.jct := foldl_keeps (g := State.jct) (fun t x => modJunction_jct b (Prod.fst x) _ t) _ s
@[simp] theorem restartJunctions_loop (b : BankName) (l : List (Nat × Entry)) (s : State) : (l.foldl (fun t x => t.modJunction b x.1 (restartJunction x.2.id s)) s).loop = s.loop := foldl_keeps (g := State.loop) (fun t x => modJunction_loop b (Prod.fst x) _ t) _ s
@[simp] theorem restartJunctions_stp (b : BankName) (l : List (Nat × Entry)) (s : State) : (l.foldl (fun t x => t.modJunction b x.1 (restartJunction x.2.id s)) s).stp = s.stp := foldl_keeps (g := State.stp) (fun t x => modJunction_stp b (Prod.fst x) _ t) _ s
@[simp] theorem restartJunctions_snd (b : BankName) (l : List (Nat × Entry)) (s : State) : (l.foldl (fun t x => t.modJunction b x.1 (restartJunction x.2.id s)) s).snd = s.snd := foldl_keeps (g := State.snd) (fun t x => modJunction_snd b (Prod.fst x) _ t) _ s
@[simp] theorem restartJunctions_flt (b : BankName) (l : List (Nat × Entry)) (s : State) : (l.foldl (fun t x => t.modJunction b x.1 (restartJunction x.2.id s)) s).flt = s.flt := foldl_keeps (g := State.flt) (fun t x => modJunction_flt b (Prod.fst x) _ t) _ s
@[simp] theorem restartJunctions_ord (b : BankName) (l : List (Nat × Entry)) (s : State) : (l.foldl (fun t x => t.modJunction b x.1 (restartJunction x.2.id s)) s).ord = s.ord := foldl_keeps (g := State.ord) (fun t x => modJunction_ord b (Prod.fst x) _ t) _ s
@[simp] theorem restartJunctions_pending (b : BankName) (l : List (Nat × Entry)) (s : State) : (l.foldl (fun t x => t.modJunction b x.1 (restartJunction x.2.id s)) s).pending = s.pending := foldl_keeps (g := State.pending) (fun t x => modJunction_pending b (Prod.fst x) _ t) _ s
@[simp] theorem restartJunctions_clock (b : BankName) (l : List (Nat × Entry)) (s : State) : (l.foldl (fun t x => t.modJunction b x.1 (restartJunction x.2.id s)) s).clock = s.clock := foldl_keeps (g := State.clock) (fun t x => modJunction_clock b (Prod.fst x) _ t) _ s
@[simp] theorem jctRestart_aut (l : List QueuedTelegram) (s : State) : (jctRestart l s).aut = s.aut := by
  unfold jctRestart
  dsimp only
  split <;> simp
@[simp] theorem jctRestart_axl (l : List QueuedTelegram) (s : State) : (jctRestart l s).axl = s.axl := by
  unfold jctRestart
  dsimp only
  split <;> simp
@[simp] theorem jctRestart_eff (l : List QueuedTelegram) (s : State) : (jctRestart l s).eff = s.eff := by
  unfold jctRestart
  dsimp only
  split <;> simp
@[simp] theorem jctRestart_jct (l : List QueuedTelegram) (s : State) : (jctRestart l s).jct = s.jct := by
  unfold jctRestart
  dsimp only
  split <;> simp
@[simp] theorem jctRestart_stp (l : List QueuedTelegram) (s : State) : (jctRestart l s).stp = s.stp := by
  unfold jctRestart
  dsimp only
  split <;> simp
@[simp] theorem jctRestart_snd (l : List QueuedTelegram) (s : State) : (jctRestart l s).snd = s.snd := by
  unfold jctRestart
  dsimp only
  split <;> simp
@[simp] theorem jctRestart_flt (l : List QueuedTelegram) (s : State) : (jctRestart l s).flt = s.flt := by
  unfold jctRestart
  dsimp only
  split <;> simp
@[simp] theorem jctRestart_ord (l : List QueuedTelegram) (s : State) : (jctRestart l s).ord = s.ord := by
  unfold jctRestart
  dsimp only
  split <;> simp
@[simp] theorem jctRestart_pending (l : List QueuedTelegram) (s : State) : (jctRestart l s).pending = s.pending := by
  unfold jctRestart
  dsimp only
  split <;> simp
@[simp] theorem jctRestart_clock (l : List QueuedTelegram) (s : State) : (jctRestart l s).clock = s.clock := by
  unfold jctRestart
  dsimp only
  split <;> simp

/-! ### Replies and deferred orders (chapter 10) -/

@[simp] theorem completeSlot_aut (p : Port) (d : Deferred) (x : Status) (r : Slot → Results) (s : State) : (completeSlot p d x r s).aut = s.aut := by unfold completeSlot; (try dsimp only); (repeat' split) <;> simp
@[simp] theorem completeSlot_axl (p : Port) (d : Deferred) (x : Status) (r : Slot → Results) (s : State) : (completeSlot p d x r s).axl = s.axl := by unfold completeSlot; (try dsimp only); (repeat' split) <;> simp
@[simp] theorem completeSlot_pth (p : Port) (d : Deferred) (x : Status) (r : Slot → Results) (s : State) : (completeSlot p d x r s).pth = s.pth := by unfold completeSlot; (try dsimp only); (repeat' split) <;> simp
@[simp] theorem completeSlot_eff (p : Port) (d : Deferred) (x : Status) (r : Slot → Results) (s : State) : (completeSlot p d x r s).eff = s.eff := by unfold completeSlot; (try dsimp only); (repeat' split) <;> simp
@[simp] theorem completeSlot_jct (p : Port) (d : Deferred) (x : Status) (r : Slot → Results) (s : State) : (completeSlot p d x r s).jct = s.jct := by unfold completeSlot; (try dsimp only); (repeat' split) <;> simp
@[simp] theorem completeSlot_loop (p : Port) (d : Deferred) (x : Status) (r : Slot → Results) (s : State) : (completeSlot p d x r s).loop = s.loop := by unfold completeSlot; (try dsimp only); (repeat' split) <;> simp
@[simp] theorem completeSlot_stp (p : Port) (d : Deferred) (x : Status) (r : Slot → Results) (s : State) : (completeSlot p d x r s).stp = s.stp := by unfold completeSlot; (try dsimp only); (repeat' split) <;> simp
@[simp] theorem completeSlot_snd (p : Port) (d : Deferred) (x : Status) (r : Slot → Results) (s : State) : (completeSlot p d x r s).snd = s.snd := by unfold completeSlot; (try dsimp only); (repeat' split) <;> simp
@[simp] theorem completeSlot_flt (p : Port) (d : Deferred) (x : Status) (r : Slot → Results) (s : State) : (completeSlot p d x r s).flt = s.flt := by unfold completeSlot; (try dsimp only); (repeat' split) <;> simp
@[simp] theorem completeSlot_pending (p : Port) (d : Deferred) (x : Status) (r : Slot → Results) (s : State) : (completeSlot p d x r s).pending = s.pending := by unfold completeSlot; (try dsimp only); (repeat' split) <;> simp
@[simp] theorem completeSlot_clock (p : Port) (d : Deferred) (x : Status) (r : Slot → Results) (s : State) : (completeSlot p d x r s).clock = s.clock := by unfold completeSlot; (try dsimp only); (repeat' split) <;> simp
@[simp] theorem completePlan_aut (d : Deferred) (x : Status) (s : State) : (completePlan d x s).aut = s.aut := by simp [completePlan]
@[simp] theorem completePlan_axl (d : Deferred) (x : Status) (s : State) : (completePlan d x s).axl = s.axl := by simp [completePlan]
@[simp] theorem completePlan_pth (d : Deferred) (x : Status) (s : State) : (completePlan d x s).pth = s.pth := by simp [completePlan]
@[simp] theorem completePlan_eff (d : Deferred) (x : Status) (s : State) : (completePlan d x s).eff = s.eff := by simp [completePlan]
@[simp] theorem completePlan_jct (d : Deferred) (x : Status) (s : State) : (completePlan d x s).jct = s.jct := by simp [completePlan]
@[simp] theorem completePlan_loop (d : Deferred) (x : Status) (s : State) : (completePlan d x s).loop = s.loop := by simp [completePlan]
@[simp] theorem completePlan_stp (d : Deferred) (x : Status) (s : State) : (completePlan d x s).stp = s.stp := by simp [completePlan]
@[simp] theorem completePlan_snd (d : Deferred) (x : Status) (s : State) : (completePlan d x s).snd = s.snd := by simp [completePlan]
@[simp] theorem completePlan_flt (d : Deferred) (x : Status) (s : State) : (completePlan d x s).flt = s.flt := by simp [completePlan]
@[simp] theorem completePlan_pending (d : Deferred) (x : Status) (s : State) : (completePlan d x s).pending = s.pending := by simp [completePlan]
@[simp] theorem completePlan_clock (d : Deferred) (x : Status) (s : State) : (completePlan d x s).clock = s.clock := by simp [completePlan]
@[simp] theorem enterSlot_aut (p : Port) (t : Byte) (d : Deferred) (s : State) : (enterSlot p t d s).aut = s.aut := rfl
@[simp] theorem enterSlot_axl (p : Port) (t : Byte) (d : Deferred) (s : State) : (enterSlot p t d s).axl = s.axl := rfl
@[simp] theorem enterSlot_pth (p : Port) (t : Byte) (d : Deferred) (s : State) : (enterSlot p t d s).pth = s.pth := rfl
@[simp] theorem enterSlot_eff (p : Port) (t : Byte) (d : Deferred) (s : State) : (enterSlot p t d s).eff = s.eff := rfl
@[simp] theorem enterSlot_jct (p : Port) (t : Byte) (d : Deferred) (s : State) : (enterSlot p t d s).jct = s.jct := rfl
@[simp] theorem enterSlot_loop (p : Port) (t : Byte) (d : Deferred) (s : State) : (enterSlot p t d s).loop = s.loop := rfl
@[simp] theorem enterSlot_stp (p : Port) (t : Byte) (d : Deferred) (s : State) : (enterSlot p t d s).stp = s.stp := rfl
@[simp] theorem enterSlot_snd (p : Port) (t : Byte) (d : Deferred) (s : State) : (enterSlot p t d s).snd = s.snd := rfl
@[simp] theorem enterSlot_flt (p : Port) (t : Byte) (d : Deferred) (s : State) : (enterSlot p t d s).flt = s.flt := rfl
@[simp] theorem enterSlot_pending (p : Port) (t : Byte) (d : Deferred) (s : State) : (enterSlot p t d s).pending = s.pending := rfl
@[simp] theorem enterSlot_clock (p : Port) (t : Byte) (d : Deferred) (s : State) : (enterSlot p t d s).clock = s.clock := rfl
@[simp] theorem completeSettle_aut (p : Port) (s : State) : (completeSettle s p).aut = s.aut := by unfold completeSettle; (try dsimp only); (repeat' split) <;> simp
@[simp] theorem completeSettle_axl (p : Port) (s : State) : (completeSettle s p).axl = s.axl := by unfold completeSettle; (try dsimp only); (repeat' split) <;> simp
@[simp] theorem completeSettle_pth (p : Port) (s : State) : (completeSettle s p).pth = s.pth := by unfold completeSettle; (try dsimp only); (repeat' split) <;> simp
@[simp] theorem completeSettle_eff (p : Port) (s : State) : (completeSettle s p).eff = s.eff := by unfold completeSettle; (try dsimp only); (repeat' split) <;> simp
@[simp] theorem completeSettle_loop (p : Port) (s : State) : (completeSettle s p).loop = s.loop := by unfold completeSettle; (try dsimp only); (repeat' split) <;> simp
@[simp] theorem completeSettle_stp (p : Port) (s : State) : (completeSettle s p).stp = s.stp := by unfold completeSettle; (try dsimp only); (repeat' split) <;> simp
@[simp] theorem completeSettle_snd (p : Port) (s : State) : (completeSettle s p).snd = s.snd := by unfold completeSettle; (try dsimp only); (repeat' split) <;> simp
@[simp] theorem completeSettle_flt (p : Port) (s : State) : (completeSettle s p).flt = s.flt := by unfold completeSettle; (try dsimp only); (repeat' split) <;> simp
@[simp] theorem completeSettle_pending (p : Port) (s : State) : (completeSettle s p).pending = s.pending := by unfold completeSettle; (try dsimp only); (repeat' split) <;> simp
@[simp] theorem completeSettle_clock (p : Port) (s : State) : (completeSettle s p).clock = s.clock := by unfold completeSettle; (try dsimp only); (repeat' split) <;> simp
@[simp] theorem settleCheck_aut (s : State) : (settleCheck s).aut = s.aut := by
  unfold settleCheck
  split
  · rfl
  · exact foldl_keeps (g := State.aut) (fun t p => completeSettle_aut p t) _ s
@[simp] theorem settleCheck_axl (s : State) : (settleCheck s).axl = s.axl := by
  unfold settleCheck
  split
  · rfl
  · exact foldl_keeps (g := State.axl) (fun t p => completeSettle_axl p t) _ s
@[simp] theorem settleCheck_pth (s : State) : (settleCheck s).pth = s.pth := by
  unfold settleCheck
  split
  · rfl
  · exact foldl_keeps (g := State.pth) (fun t p => completeSettle_pth p t) _ s
@[simp] theorem settleCheck_eff (s : State) : (settleCheck s).eff = s.eff := by
  unfold settleCheck
  split
  · rfl
  · exact foldl_keeps (g := State.eff) (fun t p => completeSettle_eff p t) _ s
@[simp] theorem settleCheck_loop (s : State) : (settleCheck s).loop = s.loop := by
  unfold settleCheck
  split
  · rfl
  · exact foldl_keeps (g := State.loop) (fun t p => completeSettle_loop p t) _ s
@[simp] theorem settleCheck_stp (s : State) : (settleCheck s).stp = s.stp := by
  unfold settleCheck
  split
  · rfl
  · exact foldl_keeps (g := State.stp) (fun t p => completeSettle_stp p t) _ s
@[simp] theorem settleCheck_snd (s : State) : (settleCheck s).snd = s.snd := by
  unfold settleCheck
  split
  · rfl
  · exact foldl_keeps (g := State.snd) (fun t p => completeSettle_snd p t) _ s
@[simp] theorem settleCheck_flt (s : State) : (settleCheck s).flt = s.flt := by
  unfold settleCheck
  split
  · rfl
  · exact foldl_keeps (g := State.flt) (fun t p => completeSettle_flt p t) _ s
@[simp] theorem settleCheck_pending (s : State) : (settleCheck s).pending = s.pending := by
  unfold settleCheck
  split
  · rfl
  · exact foldl_keeps (g := State.pending) (fun t p => completeSettle_pending p t) _ s
@[simp] theorem settleCheck_clock (s : State) : (settleCheck s).clock = s.clock := by
  unfold settleCheck
  split
  · rfl
  · exact foldl_keeps (g := State.clock) (fun t p => completeSettle_clock p t) _ s

/-! ### STP (chapter 7) -/

@[simp] theorem registerPress_aut (n : Nat) (s : State) : (registerPress n s).aut = s.aut := by unfold registerPress; (try dsimp only); (repeat' split) <;> simp
@[simp] theorem registerPress_axl (n : Nat) (s : State) : (registerPress n s).axl = s.axl := by unfold registerPress; (try dsimp only); (repeat' split) <;> simp
@[simp] theorem registerPress_pth (n : Nat) (s : State) : (registerPress n s).pth = s.pth := by unfold registerPress; (try dsimp only); (repeat' split) <;> simp
@[simp] theorem registerPress_eff (n : Nat) (s : State) : (registerPress n s).eff = s.eff := by unfold registerPress; (try dsimp only); (repeat' split) <;> simp
@[simp] theorem registerPress_jct (n : Nat) (s : State) : (registerPress n s).jct = s.jct := by unfold registerPress; (try dsimp only); (repeat' split) <;> simp
@[simp] theorem registerPress_loop (n : Nat) (s : State) : (registerPress n s).loop = s.loop := by unfold registerPress; (try dsimp only); (repeat' split) <;> simp
@[simp] theorem registerPress_flt (n : Nat) (s : State) : (registerPress n s).flt = s.flt := by unfold registerPress; (try dsimp only); (repeat' split) <;> simp
@[simp] theorem registerPress_ord (n : Nat) (s : State) : (registerPress n s).ord = s.ord := by unfold registerPress; (try dsimp only); (repeat' split) <;> simp
@[simp] theorem registerPress_pending (n : Nat) (s : State) : (registerPress n s).pending = s.pending := by unfold registerPress; (try dsimp only); (repeat' split) <;> simp
@[simp] theorem registerPress_clock (n : Nat) (s : State) : (registerPress n s).clock = s.clock := by unfold registerPress; (try dsimp only); (repeat' split) <;> simp
@[simp] theorem pressButton_aut (n : Nat) (s : State) : (pressButton n s).aut = s.aut := by unfold pressButton; (try dsimp only); (repeat' split) <;> simp
@[simp] theorem pressButton_axl (n : Nat) (s : State) : (pressButton n s).axl = s.axl := by unfold pressButton; (try dsimp only); (repeat' split) <;> simp
@[simp] theorem pressButton_pth (n : Nat) (s : State) : (pressButton n s).pth = s.pth := by unfold pressButton; (try dsimp only); (repeat' split) <;> simp
@[simp] theorem pressButton_eff (n : Nat) (s : State) : (pressButton n s).eff = s.eff := by unfold pressButton; (try dsimp only); (repeat' split) <;> simp
@[simp] theorem pressButton_jct (n : Nat) (s : State) : (pressButton n s).jct = s.jct := by unfold pressButton; (try dsimp only); (repeat' split) <;> simp
@[simp] theorem pressButton_loop (n : Nat) (s : State) : (pressButton n s).loop = s.loop := by unfold pressButton; (try dsimp only); (repeat' split) <;> simp
@[simp] theorem pressButton_flt (n : Nat) (s : State) : (pressButton n s).flt = s.flt := by unfold pressButton; (try dsimp only); (repeat' split) <;> simp
@[simp] theorem pressButton_ord (n : Nat) (s : State) : (pressButton n s).ord = s.ord := by unfold pressButton; (try dsimp only); (repeat' split) <;> simp
@[simp] theorem pressButton_pending (n : Nat) (s : State) : (pressButton n s).pending = s.pending := by unfold pressButton; (try dsimp only); (repeat' split) <;> simp
@[simp] theorem pressButton_clock (n : Nat) (s : State) : (pressButton n s).clock = s.clock := by unfold pressButton; (try dsimp only); (repeat' split) <;> simp
@[simp] theorem stickButton_aut (n : Nat) (s : State) : (stickButton n s).aut = s.aut := by unfold stickButton; (try dsimp only); (repeat' split) <;> simp
@[simp] theorem stickButton_axl (n : Nat) (s : State) : (stickButton n s).axl = s.axl := by unfold stickButton; (try dsimp only); (repeat' split) <;> simp
@[simp] theorem stickButton_pth (n : Nat) (s : State) : (stickButton n s).pth = s.pth := by unfold stickButton; (try dsimp only); (repeat' split) <;> simp
@[simp] theorem stickButton_eff (n : Nat) (s : State) : (stickButton n s).eff = s.eff := by unfold stickButton; (try dsimp only); (repeat' split) <;> simp
@[simp] theorem stickButton_jct (n : Nat) (s : State) : (stickButton n s).jct = s.jct := by unfold stickButton; (try dsimp only); (repeat' split) <;> simp
@[simp] theorem stickButton_loop (n : Nat) (s : State) : (stickButton n s).loop = s.loop := by unfold stickButton; (try dsimp only); (repeat' split) <;> simp
@[simp] theorem stickButton_snd (n : Nat) (s : State) : (stickButton n s).snd = s.snd := by unfold stickButton; (try dsimp only); (repeat' split) <;> simp
@[simp] theorem stickButton_ord (n : Nat) (s : State) : (stickButton n s).ord = s.ord := by unfold stickButton; (try dsimp only); (repeat' split) <;> simp
@[simp] theorem stickButton_pending (n : Nat) (s : State) : (stickButton n s).pending = s.pending := by unfold stickButton; (try dsimp only); (repeat' split) <;> simp
@[simp] theorem stickButton_clock (n : Nat) (s : State) : (stickButton n s).clock = s.clock := by unfold stickButton; (try dsimp only); (repeat' split) <;> simp
@[simp] theorem pressButtons_aut (l : List Nat) (s : State) : (l.foldl (fun t n => pressButton n t) s).aut = s.aut := foldl_keeps (g := State.aut) (fun t n => pressButton_aut n t) _ s
@[simp] theorem pressButtons_axl (l : List Nat) (s : State) : (l.foldl (fun t n => pressButton n t) s).axl = s.axl := foldl_keeps (g := State.axl) (fun t n => pressButton_axl n t) _ s
@[simp] theorem pressButtons_pth (l : List Nat) (s : State) : (l.foldl (fun t n => pressButton n t) s).pth = s.pth := foldl_keeps (g := State.pth) (fun t n => pressButton_pth n t) _ s
@[simp] theorem pressButtons_eff (l : List Nat) (s : State) : (l.foldl (fun t n => pressButton n t) s).eff = s.eff := foldl_keeps (g := State.eff) (fun t n => pressButton_eff n t) _ s
@[simp] theorem pressButtons_jct (l : List Nat) (s : State) : (l.foldl (fun t n => pressButton n t) s).jct = s.jct := foldl_keeps (g := State.jct) (fun t n => pressButton_jct n t) _ s
@[simp] theorem pressButtons_loop (l : List Nat) (s : State) : (l.foldl (fun t n => pressButton n t) s).loop = s.loop := foldl_keeps (g := State.loop) (fun t n => pressButton_loop n t) _ s
@[simp] theorem pressButtons_flt (l : List Nat) (s : State) : (l.foldl (fun t n => pressButton n t) s).flt = s.flt := foldl_keeps (g := State.flt) (fun t n => pressButton_flt n t) _ s
@[simp] theorem pressButtons_ord (l : List Nat) (s : State) : (l.foldl (fun t n => pressButton n t) s).ord = s.ord := foldl_keeps (g := State.ord) (fun t n => pressButton_ord n t) _ s
@[simp] theorem pressButtons_pending (l : List Nat) (s : State) : (l.foldl (fun t n => pressButton n t) s).pending = s.pending := foldl_keeps (g := State.pending) (fun t n => pressButton_pending n t) _ s
@[simp] theorem pressButtons_clock (l : List Nat) (s : State) : (l.foldl (fun t n => pressButton n t) s).clock = s.clock := foldl_keeps (g := State.clock) (fun t n => pressButton_clock n t) _ s
@[simp] theorem stickButtons_aut (l : List Nat) (s : State) : (l.foldl (fun t n => stickButton n t) s).aut = s.aut := foldl_keeps (g := State.aut) (fun t n => stickButton_aut n t) _ s
@[simp] theorem stickButtons_axl (l : List Nat) (s : State) : (l.foldl (fun t n => stickButton n t) s).axl = s.axl := foldl_keeps (g := State.axl) (fun t n => stickButton_axl n t) _ s
@[simp] theorem stickButtons_pth (l : List Nat) (s : State) : (l.foldl (fun t n => stickButton n t) s).pth = s.pth := foldl_keeps (g := State.pth) (fun t n => stickButton_pth n t) _ s
@[simp] theorem stickButtons_eff (l : List Nat) (s : State) : (l.foldl (fun t n => stickButton n t) s).eff = s.eff := foldl_keeps (g := State.eff) (fun t n => stickButton_eff n t) _ s
@[simp] theorem stickButtons_jct (l : List Nat) (s : State) : (l.foldl (fun t n => stickButton n t) s).jct = s.jct := foldl_keeps (g := State.jct) (fun t n => stickButton_jct n t) _ s
@[simp] theorem stickButtons_loop (l : List Nat) (s : State) : (l.foldl (fun t n => stickButton n t) s).loop = s.loop := foldl_keeps (g := State.loop) (fun t n => stickButton_loop n t) _ s
@[simp] theorem stickButtons_snd (l : List Nat) (s : State) : (l.foldl (fun t n => stickButton n t) s).snd = s.snd := foldl_keeps (g := State.snd) (fun t n => stickButton_snd n t) _ s
@[simp] theorem stickButtons_ord (l : List Nat) (s : State) : (l.foldl (fun t n => stickButton n t) s).ord = s.ord := foldl_keeps (g := State.ord) (fun t n => stickButton_ord n t) _ s
@[simp] theorem stickButtons_pending (l : List Nat) (s : State) : (l.foldl (fun t n => stickButton n t) s).pending = s.pending := foldl_keeps (g := State.pending) (fun t n => stickButton_pending n t) _ s
@[simp] theorem stickButtons_clock (l : List Nat) (s : State) : (l.foldl (fun t n => stickButton n t) s).clock = s.clock := foldl_keeps (g := State.clock) (fun t n => stickButton_clock n t) _ s
@[simp] theorem sampleButtons_aut (l : List Bool) (s : State) : (sampleButtons l s).aut = s.aut := by simp [sampleButtons]
@[simp] theorem sampleButtons_axl (l : List Bool) (s : State) : (sampleButtons l s).axl = s.axl := by simp [sampleButtons]
@[simp] theorem sampleButtons_pth (l : List Bool) (s : State) : (sampleButtons l s).pth = s.pth := by simp [sampleButtons]
@[simp] theorem sampleButtons_eff (l : List Bool) (s : State) : (sampleButtons l s).eff = s.eff := by simp [sampleButtons]
@[simp] theorem sampleButtons_jct (l : List Bool) (s : State) : (sampleButtons l s).jct = s.jct := by simp [sampleButtons]
@[simp] theorem sampleButtons_loop (l : List Bool) (s : State) : (sampleButtons l s).loop = s.loop := by simp [sampleButtons]
@[simp] theorem sampleButtons_ord (l : List Bool) (s : State) : (sampleButtons l s).ord = s.ord := by simp [sampleButtons]
@[simp] theorem sampleButtons_pending (l : List Bool) (s : State) : (sampleButtons l s).pending = s.pending := by simp [sampleButtons]
@[simp] theorem sampleButtons_clock (l : List Bool) (s : State) : (sampleButtons l s).clock = s.clock := by simp [sampleButtons]
@[simp] theorem passWindowEnd_aut (b : BankName) (i : Nat) (s : State) : (passWindowEnd b i s).aut = s.aut := by unfold passWindowEnd; (try dsimp only); (repeat' split) <;> simp
@[simp] theorem passWindowEnd_axl (b : BankName) (i : Nat) (s : State) : (passWindowEnd b i s).axl = s.axl := by unfold passWindowEnd; (try dsimp only); (repeat' split) <;> simp
@[simp] theorem passWindowEnd_eff (b : BankName) (i : Nat) (s : State) : (passWindowEnd b i s).eff = s.eff := by unfold passWindowEnd; (try dsimp only); (repeat' split) <;> simp
@[simp] theorem passWindowEnd_jct (b : BankName) (i : Nat) (s : State) : (passWindowEnd b i s).jct = s.jct := by unfold passWindowEnd; (try dsimp only); (repeat' split) <;> simp
@[simp] theorem passWindowEnd_loop (b : BankName) (i : Nat) (s : State) : (passWindowEnd b i s).loop = s.loop := by unfold passWindowEnd; (try dsimp only); (repeat' split) <;> simp
@[simp] theorem passWindowEnd_snd (b : BankName) (i : Nat) (s : State) : (passWindowEnd b i s).snd = s.snd := by unfold passWindowEnd; (try dsimp only); (repeat' split) <;> simp
@[simp] theorem passWindowEnd_ord (b : BankName) (i : Nat) (s : State) : (passWindowEnd b i s).ord = s.ord := by unfold passWindowEnd; (try dsimp only); (repeat' split) <;> simp
@[simp] theorem passWindowEnd_pending (b : BankName) (i : Nat) (s : State) : (passWindowEnd b i s).pending = s.pending := by unfold passWindowEnd; (try dsimp only); (repeat' split) <;> simp
@[simp] theorem passWindowEnd_clock (b : BankName) (i : Nat) (s : State) : (passWindowEnd b i s).clock = s.clock := by unfold passWindowEnd; (try dsimp only); (repeat' split) <;> simp
@[simp] theorem secureTram_aut (x : Bool) (s : State) : (secureTram x s).aut = s.aut := by unfold secureTram; (try dsimp only); (repeat' split) <;> simp
@[simp] theorem secureTram_axl (x : Bool) (s : State) : (secureTram x s).axl = s.axl := by unfold secureTram; (try dsimp only); (repeat' split) <;> simp
@[simp] theorem secureTram_pth (x : Bool) (s : State) : (secureTram x s).pth = s.pth := by unfold secureTram; (try dsimp only); (repeat' split) <;> simp
@[simp] theorem secureTram_jct (x : Bool) (s : State) : (secureTram x s).jct = s.jct := by unfold secureTram; (try dsimp only); (repeat' split) <;> simp
@[simp] theorem secureTram_loop (x : Bool) (s : State) : (secureTram x s).loop = s.loop := by unfold secureTram; (try dsimp only); (repeat' split) <;> simp
@[simp] theorem secureTram_flt (x : Bool) (s : State) : (secureTram x s).flt = s.flt := by unfold secureTram; (try dsimp only); (repeat' split) <;> simp
@[simp] theorem secureTram_ord (x : Bool) (s : State) : (secureTram x s).ord = s.ord := by unfold secureTram; (try dsimp only); (repeat' split) <;> simp
@[simp] theorem secureTram_pending (x : Bool) (s : State) : (secureTram x s).pending = s.pending := by unfold secureTram; (try dsimp only); (repeat' split) <;> simp
@[simp] theorem secureTram_clock (x : Bool) (s : State) : (secureTram x s).clock = s.clock := by unfold secureTram; (try dsimp only); (repeat' split) <;> simp
@[simp] theorem foundOpen_aut (s : State) : (foundOpen s).aut = s.aut := by unfold foundOpen; (try dsimp only); (repeat' split) <;> simp
@[simp] theorem foundOpen_axl (s : State) : (foundOpen s).axl = s.axl := by unfold foundOpen; (try dsimp only); (repeat' split) <;> simp
@[simp] theorem foundOpen_pth (s : State) : (foundOpen s).pth = s.pth := by unfold foundOpen; (try dsimp only); (repeat' split) <;> simp
@[simp] theorem foundOpen_jct (s : State) : (foundOpen s).jct = s.jct := by unfold foundOpen; (try dsimp only); (repeat' split) <;> simp
@[simp] theorem foundOpen_loop (s : State) : (foundOpen s).loop = s.loop := by unfold foundOpen; (try dsimp only); (repeat' split) <;> simp
@[simp] theorem foundOpen_snd (s : State) : (foundOpen s).snd = s.snd := by unfold foundOpen; (try dsimp only); (repeat' split) <;> simp
@[simp] theorem foundOpen_ord (s : State) : (foundOpen s).ord = s.ord := by unfold foundOpen; (try dsimp only); (repeat' split) <;> simp
@[simp] theorem foundOpen_pending (s : State) : (foundOpen s).pending = s.pending := by unfold foundOpen; (try dsimp only); (repeat' split) <;> simp
@[simp] theorem foundOpen_clock (s : State) : (foundOpen s).clock = s.clock := by unfold foundOpen; (try dsimp only); (repeat' split) <;> simp
@[simp] theorem endClosing_aut (s : State) : (endClosing s).aut = s.aut := by unfold endClosing; (try dsimp only); (repeat' split) <;> simp
@[simp] theorem endClosing_axl (s : State) : (endClosing s).axl = s.axl := by unfold endClosing; (try dsimp only); (repeat' split) <;> simp
@[simp] theorem endClosing_pth (s : State) : (endClosing s).pth = s.pth := by unfold endClosing; (try dsimp only); (repeat' split) <;> simp
@[simp] theorem endClosing_jct (s : State) : (endClosing s).jct = s.jct := by unfold endClosing; (try dsimp only); (repeat' split) <;> simp
@[simp] theorem endClosing_loop (s : State) : (endClosing s).loop = s.loop := by unfold endClosing; (try dsimp only); (repeat' split) <;> simp
@[simp] theorem endClosing_flt (s : State) : (endClosing s).flt = s.flt := by unfold endClosing; (try dsimp only); (repeat' split) <;> simp
@[simp] theorem endClosing_ord (s : State) : (endClosing s).ord = s.ord := by unfold endClosing; (try dsimp only); (repeat' split) <;> simp
@[simp] theorem endClosing_pending (s : State) : (endClosing s).pending = s.pending := by unfold endClosing; (try dsimp only); (repeat' split) <;> simp
@[simp] theorem endClosing_clock (s : State) : (endClosing s).clock = s.clock := by unfold endClosing; (try dsimp only); (repeat' split) <;> simp
@[simp] theorem doorReport_aut (x : Bool) (s : State) : (doorReport x s).aut = s.aut := by unfold doorReport; (try dsimp only); (repeat' split) <;> simp
@[simp] theorem doorReport_axl (x : Bool) (s : State) : (doorReport x s).axl = s.axl := by unfold doorReport; (try dsimp only); (repeat' split) <;> simp
@[simp] theorem doorReport_pth (x : Bool) (s : State) : (doorReport x s).pth = s.pth := by unfold doorReport; (try dsimp only); (repeat' split) <;> simp
@[simp] theorem doorReport_jct (x : Bool) (s : State) : (doorReport x s).jct = s.jct := by unfold doorReport; (try dsimp only); (repeat' split) <;> simp
@[simp] theorem doorReport_loop (x : Bool) (s : State) : (doorReport x s).loop = s.loop := by unfold doorReport; (try dsimp only); (repeat' split) <;> simp
@[simp] theorem doorReport_ord (x : Bool) (s : State) : (doorReport x s).ord = s.ord := by unfold doorReport; (try dsimp only); (repeat' split) <;> simp
@[simp] theorem doorReport_pending (x : Bool) (s : State) : (doorReport x s).pending = s.pending := by unfold doorReport; (try dsimp only); (repeat' split) <;> simp
@[simp] theorem doorReport_clock (x : Bool) (s : State) : (doorReport x s).clock = s.clock := by unfold doorReport; (try dsimp only); (repeat' split) <;> simp
@[simp] theorem rampChange_aut (x : Bool) (s : State) : (rampChange x s).aut = s.aut := by unfold rampChange; (try dsimp only); (repeat' split) <;> simp
@[simp] theorem rampChange_axl (x : Bool) (s : State) : (rampChange x s).axl = s.axl := by unfold rampChange; (try dsimp only); (repeat' split) <;> simp
@[simp] theorem rampChange_pth (x : Bool) (s : State) : (rampChange x s).pth = s.pth := by unfold rampChange; (try dsimp only); (repeat' split) <;> simp
@[simp] theorem rampChange_jct (x : Bool) (s : State) : (rampChange x s).jct = s.jct := by unfold rampChange; (try dsimp only); (repeat' split) <;> simp
@[simp] theorem rampChange_loop (x : Bool) (s : State) : (rampChange x s).loop = s.loop := by unfold rampChange; (try dsimp only); (repeat' split) <;> simp
@[simp] theorem rampChange_ord (x : Bool) (s : State) : (rampChange x s).ord = s.ord := by unfold rampChange; (try dsimp only); (repeat' split) <;> simp
@[simp] theorem rampChange_pending (x : Bool) (s : State) : (rampChange x s).pending = s.pending := by unfold rampChange; (try dsimp only); (repeat' split) <;> simp
@[simp] theorem rampChange_clock (x : Bool) (s : State) : (rampChange x s).clock = s.clock := by unfold rampChange; (try dsimp only); (repeat' split) <;> simp
@[simp] theorem dwellCheck_aut (s : State) : (dwellCheck s).aut = s.aut := by unfold dwellCheck; (try dsimp only); (repeat' split) <;> simp
@[simp] theorem dwellCheck_axl (s : State) : (dwellCheck s).axl = s.axl := by unfold dwellCheck; (try dsimp only); (repeat' split) <;> simp
@[simp] theorem dwellCheck_pth (s : State) : (dwellCheck s).pth = s.pth := by unfold dwellCheck; (try dsimp only); (repeat' split) <;> simp
@[simp] theorem dwellCheck_eff (s : State) : (dwellCheck s).eff = s.eff := by unfold dwellCheck; (try dsimp only); (repeat' split) <;> simp
@[simp] theorem dwellCheck_jct (s : State) : (dwellCheck s).jct = s.jct := by unfold dwellCheck; (try dsimp only); (repeat' split) <;> simp
@[simp] theorem dwellCheck_loop (s : State) : (dwellCheck s).loop = s.loop := by unfold dwellCheck; (try dsimp only); (repeat' split) <;> simp
@[simp] theorem dwellCheck_snd (s : State) : (dwellCheck s).snd = s.snd := by unfold dwellCheck; (try dsimp only); (repeat' split) <;> simp
@[simp] theorem dwellCheck_flt (s : State) : (dwellCheck s).flt = s.flt := by unfold dwellCheck; (try dsimp only); (repeat' split) <;> simp
@[simp] theorem dwellCheck_ord (s : State) : (dwellCheck s).ord = s.ord := by unfold dwellCheck; (try dsimp only); (repeat' split) <;> simp
@[simp] theorem dwellCheck_pending (s : State) : (dwellCheck s).pending = s.pending := by unfold dwellCheck; (try dsimp only); (repeat' split) <;> simp
@[simp] theorem dwellCheck_clock (s : State) : (dwellCheck s).clock = s.clock := by unfold dwellCheck; (try dsimp only); (repeat' split) <;> simp

/-! ### PTH (chapter 2) -/

@[simp] theorem fireMark_aut (b : BankName) (m : Mark) (s : State) : (fireMark b s m).aut = s.aut := by cases m <;> simp [fireMark, firePlanEnd]
@[simp] theorem fireMark_axl (b : BankName) (m : Mark) (s : State) : (fireMark b s m).axl = s.axl := by cases m <;> simp [fireMark, firePlanEnd]
@[simp] theorem fireMark_eff (b : BankName) (m : Mark) (s : State) : (fireMark b s m).eff = s.eff := by cases m <;> simp [fireMark, firePlanEnd]
@[simp] theorem fireMark_jct (b : BankName) (m : Mark) (s : State) : (fireMark b s m).jct = s.jct := by cases m <;> simp [fireMark, firePlanEnd]
@[simp] theorem fireMark_ord (b : BankName) (m : Mark) (s : State) : (fireMark b s m).ord = s.ord := by cases m <;> simp [fireMark, firePlanEnd]
@[simp] theorem fireMark_pending (b : BankName) (m : Mark) (s : State) : (fireMark b s m).pending = s.pending := by cases m <;> simp [fireMark, firePlanEnd]
@[simp] theorem fireMark_clock (b : BankName) (m : Mark) (s : State) : (fireMark b s m).clock = s.clock := by cases m <;> simp [fireMark, firePlanEnd]
@[simp] theorem fireMarks_aut (s : State) : (fireMarks s).aut = s.aut := by
  unfold fireMarks
  split
  · rfl
  · exact foldl_keeps (g := State.aut) (fun t m => fireMark_aut _ m t) _ s
@[simp] theorem fireMarks_axl (s : State) : (fireMarks s).axl = s.axl := by
  unfold fireMarks
  split
  · rfl
  · exact foldl_keeps (g := State.axl) (fun t m => fireMark_axl _ m t) _ s
@[simp] theorem fireMarks_eff (s : State) : (fireMarks s).eff = s.eff := by
  unfold fireMarks
  split
  · rfl
  · exact foldl_keeps (g := State.eff) (fun t m => fireMark_eff _ m t) _ s
@[simp] theorem fireMarks_jct (s : State) : (fireMarks s).jct = s.jct := by
  unfold fireMarks
  split
  · rfl
  · exact foldl_keeps (g := State.jct) (fun t m => fireMark_jct _ m t) _ s
@[simp] theorem fireMarks_ord (s : State) : (fireMarks s).ord = s.ord := by
  unfold fireMarks
  split
  · rfl
  · exact foldl_keeps (g := State.ord) (fun t m => fireMark_ord _ m t) _ s
@[simp] theorem fireMarks_pending (s : State) : (fireMarks s).pending = s.pending := by
  unfold fireMarks
  split
  · rfl
  · exact foldl_keeps (g := State.pending) (fun t m => fireMark_pending _ m t) _ s
@[simp] theorem fireMarks_clock (s : State) : (fireMarks s).clock = s.clock := by
  unfold fireMarks
  split
  · rfl
  · exact foldl_keeps (g := State.clock) (fun t m => fireMark_clock _ m t) _ s
@[simp] theorem moveTo_aut (p : Nat) (s : State) : (moveTo p s).aut = s.aut := by unfold moveTo; (try dsimp only); (repeat' split) <;> simp
@[simp] theorem moveTo_axl (p : Nat) (s : State) : (moveTo p s).axl = s.axl := by unfold moveTo; (try dsimp only); (repeat' split) <;> simp
@[simp] theorem moveTo_eff (p : Nat) (s : State) : (moveTo p s).eff = s.eff := by unfold moveTo; (try dsimp only); (repeat' split) <;> simp
@[simp] theorem moveTo_jct (p : Nat) (s : State) : (moveTo p s).jct = s.jct := by unfold moveTo; (try dsimp only); (repeat' split) <;> simp
@[simp] theorem moveTo_ord (p : Nat) (s : State) : (moveTo p s).ord = s.ord := by unfold moveTo; (try dsimp only); (repeat' split) <;> simp
@[simp] theorem moveTo_pending (p : Nat) (s : State) : (moveTo p s).pending = s.pending := by unfold moveTo; (try dsimp only); (repeat' split) <;> simp
@[simp] theorem moveTo_clock (p : Nat) (s : State) : (moveTo p s).clock = s.clock := by unfold moveTo; (try dsimp only); (repeat' split) <;> simp
@[simp] theorem advancePosition_aut (s : State) : (advancePosition s).aut = s.aut := by simp [advancePosition]
@[simp] theorem advancePosition_axl (s : State) : (advancePosition s).axl = s.axl := by simp [advancePosition]
@[simp] theorem advancePosition_eff (s : State) : (advancePosition s).eff = s.eff := by simp [advancePosition]
@[simp] theorem advancePosition_jct (s : State) : (advancePosition s).jct = s.jct := by simp [advancePosition]
@[simp] theorem advancePosition_ord (s : State) : (advancePosition s).ord = s.ord := by simp [advancePosition]
@[simp] theorem advancePosition_pending (s : State) : (advancePosition s).pending = s.pending := by simp [advancePosition]
@[simp] theorem advancePosition_clock (s : State) : (advancePosition s).clock = s.clock := by simp [advancePosition]
@[simp] theorem takeFix_aut (j : Nat) (s : State) : (takeFix j s).aut = s.aut := by unfold takeFix; (try dsimp only); (repeat' split) <;> simp
@[simp] theorem takeFix_axl (j : Nat) (s : State) : (takeFix j s).axl = s.axl := by unfold takeFix; (try dsimp only); (repeat' split) <;> simp
@[simp] theorem takeFix_eff (j : Nat) (s : State) : (takeFix j s).eff = s.eff := by unfold takeFix; (try dsimp only); (repeat' split) <;> simp
@[simp] theorem takeFix_pending (j : Nat) (s : State) : (takeFix j s).pending = s.pending := by unfold takeFix; (try dsimp only); (repeat' split) <;> simp
@[simp] theorem takeFix_clock (j : Nat) (s : State) : (takeFix j s).clock = s.clock := by unfold takeFix; (try dsimp only); (repeat' split) <;> simp
@[simp] theorem turnBanks_aut (s : State) : (turnBanks s).aut = s.aut := by simp [turnBanks]
@[simp] theorem turnBanks_axl (s : State) : (turnBanks s).axl = s.axl := by simp [turnBanks]
@[simp] theorem turnBanks_eff (s : State) : (turnBanks s).eff = s.eff := by simp [turnBanks]
@[simp] theorem turnBanks_jct (s : State) : (turnBanks s).jct = s.jct := by simp [turnBanks]
@[simp] theorem turnBanks_loop (s : State) : (turnBanks s).loop = s.loop := by simp [turnBanks]
@[simp] theorem turnBanks_stp (s : State) : (turnBanks s).stp = s.stp := by simp [turnBanks]
@[simp] theorem turnBanks_snd (s : State) : (turnBanks s).snd = s.snd := by simp [turnBanks]
@[simp] theorem turnBanks_flt (s : State) : (turnBanks s).flt = s.flt := by simp [turnBanks]
@[simp] theorem turnBanks_ord (s : State) : (turnBanks s).ord = s.ord := by simp [turnBanks]
@[simp] theorem turnBanks_pending (s : State) : (turnBanks s).pending = s.pending := by simp [turnBanks]
@[simp] theorem turnBanks_clock (s : State) : (turnBanks s).clock = s.clock := by simp [turnBanks]
@[simp] theorem passRequestPoints_aut (b : BankName) (l : List Nat) (s : State) : (l.foldl (fun t i => passRequestPoint b i t) s).aut = s.aut := foldl_keeps (g := State.aut) (fun t i => passRequestPoint_aut b i t) _ s
@[simp] theorem passRequestPoints_axl (b : BankName) (l : List Nat) (s : State) : (l.foldl (fun t i => passRequestPoint b i t) s).axl = s.axl := foldl_keeps (g := State.axl) (fun t i => passRequestPoint_axl b i t) _ s
@[simp] theorem passRequestPoints_eff (b : BankName) (l : List Nat) (s : State) : (l.foldl (fun t i => passRequestPoint b i t) s).eff = s.eff := foldl_keeps (g := State.eff) (fun t i => passRequestPoint_eff b i t) _ s
@[simp] theorem passRequestPoints_jct (b : BankName) (l : List Nat) (s : State) : (l.foldl (fun t i => passRequestPoint b i t) s).jct = s.jct := foldl_keeps (g := State.jct) (fun t i => passRequestPoint_jct b i t) _ s
@[simp] theorem passRequestPoints_stp (b : BankName) (l : List Nat) (s : State) : (l.foldl (fun t i => passRequestPoint b i t) s).stp = s.stp := foldl_keeps (g := State.stp) (fun t i => passRequestPoint_stp b i t) _ s
@[simp] theorem passRequestPoints_snd (b : BankName) (l : List Nat) (s : State) : (l.foldl (fun t i => passRequestPoint b i t) s).snd = s.snd := foldl_keeps (g := State.snd) (fun t i => passRequestPoint_snd b i t) _ s
@[simp] theorem passRequestPoints_flt (b : BankName) (l : List Nat) (s : State) : (l.foldl (fun t i => passRequestPoint b i t) s).flt = s.flt := foldl_keeps (g := State.flt) (fun t i => passRequestPoint_flt b i t) _ s
@[simp] theorem passRequestPoints_ord (b : BankName) (l : List Nat) (s : State) : (l.foldl (fun t i => passRequestPoint b i t) s).ord = s.ord := foldl_keeps (g := State.ord) (fun t i => passRequestPoint_ord b i t) _ s
@[simp] theorem passRequestPoints_pending (b : BankName) (l : List Nat) (s : State) : (l.foldl (fun t i => passRequestPoint b i t) s).pending = s.pending := foldl_keeps (g := State.pending) (fun t i => passRequestPoint_pending b i t) _ s
@[simp] theorem passRequestPoints_clock (b : BankName) (l : List Nat) (s : State) : (l.foldl (fun t i => passRequestPoint b i t) s).clock = s.clock := foldl_keeps (g := State.clock) (fun t i => passRequestPoint_clock b i t) _ s
@[simp] theorem setUpPlan_aut (b : BankName) (s : State) : (setUpPlan b s).aut = s.aut := by unfold setUpPlan; dsimp only; split <;> simp [firePlanEnd]
@[simp] theorem setUpPlan_axl (b : BankName) (s : State) : (setUpPlan b s).axl = s.axl := by unfold setUpPlan; dsimp only; split <;> simp [firePlanEnd]
@[simp] theorem setUpPlan_eff (b : BankName) (s : State) : (setUpPlan b s).eff = s.eff := by unfold setUpPlan; dsimp only; split <;> simp [firePlanEnd]
@[simp] theorem setUpPlan_jct (b : BankName) (s : State) : (setUpPlan b s).jct = s.jct := by unfold setUpPlan; dsimp only; split <;> simp [firePlanEnd]
@[simp] theorem setUpPlan_stp (b : BankName) (s : State) : (setUpPlan b s).stp = s.stp := by unfold setUpPlan; dsimp only; split <;> simp [firePlanEnd]
@[simp] theorem setUpPlan_snd (b : BankName) (s : State) : (setUpPlan b s).snd = s.snd := by unfold setUpPlan; dsimp only; split <;> simp [firePlanEnd]
@[simp] theorem setUpPlan_ord (b : BankName) (s : State) : (setUpPlan b s).ord = s.ord := by unfold setUpPlan; dsimp only; split <;> simp [firePlanEnd]
@[simp] theorem setUpPlan_pending (b : BankName) (s : State) : (setUpPlan b s).pending = s.pending := by unfold setUpPlan; dsimp only; split <;> simp [firePlanEnd]
@[simp] theorem setUpPlan_clock (b : BankName) (s : State) : (setUpPlan b s).clock = s.clock := by unfold setUpPlan; dsimp only; split <;> simp [firePlanEnd]
@[simp] theorem carryRequest_aut (o : Option Nat) (s : State) : (carryRequest o s).aut = s.aut := by unfold carryRequest; (try dsimp only); (repeat' split) <;> simp
@[simp] theorem carryRequest_axl (o : Option Nat) (s : State) : (carryRequest o s).axl = s.axl := by unfold carryRequest; (try dsimp only); (repeat' split) <;> simp
@[simp] theorem carryRequest_pth (o : Option Nat) (s : State) : (carryRequest o s).pth = s.pth := by unfold carryRequest; (try dsimp only); (repeat' split) <;> simp
@[simp] theorem carryRequest_eff (o : Option Nat) (s : State) : (carryRequest o s).eff = s.eff := by unfold carryRequest; (try dsimp only); (repeat' split) <;> simp
@[simp] theorem carryRequest_jct (o : Option Nat) (s : State) : (carryRequest o s).jct = s.jct := by unfold carryRequest; (try dsimp only); (repeat' split) <;> simp
@[simp] theorem carryRequest_loop (o : Option Nat) (s : State) : (carryRequest o s).loop = s.loop := by unfold carryRequest; (try dsimp only); (repeat' split) <;> simp
@[simp] theorem carryRequest_snd (o : Option Nat) (s : State) : (carryRequest o s).snd = s.snd := by unfold carryRequest; (try dsimp only); (repeat' split) <;> simp
@[simp] theorem carryRequest_ord (o : Option Nat) (s : State) : (carryRequest o s).ord = s.ord := by unfold carryRequest; (try dsimp only); (repeat' split) <;> simp
@[simp] theorem carryRequest_pending (o : Option Nat) (s : State) : (carryRequest o s).pending = s.pending := by unfold carryRequest; (try dsimp only); (repeat' split) <;> simp
@[simp] theorem carryRequest_clock (o : Option Nat) (s : State) : (carryRequest o s).clock = s.clock := by unfold carryRequest; (try dsimp only); (repeat' split) <;> simp
@[simp] theorem switchPlans_aut (s : State) : (switchPlans s).aut = s.aut := by simp [switchPlans]
@[simp] theorem switchPlans_axl (s : State) : (switchPlans s).axl = s.axl := by simp [switchPlans]
@[simp] theorem switchPlans_eff (s : State) : (switchPlans s).eff = s.eff := by simp [switchPlans]
@[simp] theorem switchPlans_jct (s : State) : (switchPlans s).jct = s.jct := by simp [switchPlans]
@[simp] theorem switchPlans_snd (s : State) : (switchPlans s).snd = s.snd := by simp [switchPlans]
@[simp] theorem switchPlans_ord (s : State) : (switchPlans s).ord = s.ord := by simp [switchPlans]
@[simp] theorem switchPlans_pending (s : State) : (switchPlans s).pending = s.pending := by simp [switchPlans]
@[simp] theorem switchPlans_clock (s : State) : (switchPlans s).clock = s.clock := by simp [switchPlans]
@[simp] theorem completeSwitch_aut (s : State) : (completeSwitch s).aut = s.aut := by simp [completeSwitch]
@[simp] theorem completeSwitch_axl (s : State) : (completeSwitch s).axl = s.axl := by simp [completeSwitch]
@[simp] theorem completeSwitch_eff (s : State) : (completeSwitch s).eff = s.eff := by simp [completeSwitch]
@[simp] theorem completeSwitch_jct (s : State) : (completeSwitch s).jct = s.jct := by simp [completeSwitch]
@[simp] theorem completeSwitch_snd (s : State) : (completeSwitch s).snd = s.snd := by simp [completeSwitch]
@[simp] theorem completeSwitch_pending (s : State) : (completeSwitch s).pending = s.pending := by simp [completeSwitch]
@[simp] theorem completeSwitch_clock (s : State) : (completeSwitch s).clock = s.clock := by simp [completeSwitch]
@[simp] theorem examineSwitch_aut (s : State) : (examineSwitch s).aut = s.aut := by unfold examineSwitch; (try dsimp only); (repeat' split) <;> simp
@[simp] theorem examineSwitch_axl (s : State) : (examineSwitch s).axl = s.axl := by unfold examineSwitch; (try dsimp only); (repeat' split) <;> simp
@[simp] theorem examineSwitch_eff (s : State) : (examineSwitch s).eff = s.eff := by unfold examineSwitch; (try dsimp only); (repeat' split) <;> simp
@[simp] theorem examineSwitch_jct (s : State) : (examineSwitch s).jct = s.jct := by unfold examineSwitch; (try dsimp only); (repeat' split) <;> simp
@[simp] theorem examineSwitch_snd (s : State) : (examineSwitch s).snd = s.snd := by unfold examineSwitch; (try dsimp only); (repeat' split) <;> simp
@[simp] theorem examineSwitch_pending (s : State) : (examineSwitch s).pending = s.pending := by unfold examineSwitch; (try dsimp only); (repeat' split) <;> simp
@[simp] theorem examineSwitch_clock (s : State) : (examineSwitch s).clock = s.clock := by unfold examineSwitch; (try dsimp only); (repeat' split) <;> simp
@[simp] theorem dropRequest_aut (o : Option Nat) (s : State) : (dropRequest o s).aut = s.aut := by unfold dropRequest; (try dsimp only); (repeat' split) <;> simp
@[simp] theorem dropRequest_axl (o : Option Nat) (s : State) : (dropRequest o s).axl = s.axl := by unfold dropRequest; (try dsimp only); (repeat' split) <;> simp
@[simp] theorem dropRequest_pth (o : Option Nat) (s : State) : (dropRequest o s).pth = s.pth := by unfold dropRequest; (try dsimp only); (repeat' split) <;> simp
@[simp] theorem dropRequest_eff (o : Option Nat) (s : State) : (dropRequest o s).eff = s.eff := by unfold dropRequest; (try dsimp only); (repeat' split) <;> simp
@[simp] theorem dropRequest_jct (o : Option Nat) (s : State) : (dropRequest o s).jct = s.jct := by unfold dropRequest; (try dsimp only); (repeat' split) <;> simp
@[simp] theorem dropRequest_loop (o : Option Nat) (s : State) : (dropRequest o s).loop = s.loop := by unfold dropRequest; (try dsimp only); (repeat' split) <;> simp
@[simp] theorem dropRequest_snd (o : Option Nat) (s : State) : (dropRequest o s).snd = s.snd := by unfold dropRequest; (try dsimp only); (repeat' split) <;> simp
@[simp] theorem dropRequest_ord (o : Option Nat) (s : State) : (dropRequest o s).ord = s.ord := by unfold dropRequest; (try dsimp only); (repeat' split) <;> simp
@[simp] theorem dropRequest_pending (o : Option Nat) (s : State) : (dropRequest o s).pending = s.pending := by unfold dropRequest; (try dsimp only); (repeat' split) <;> simp
@[simp] theorem dropRequest_clock (o : Option Nat) (s : State) : (dropRequest o s).clock = s.clock := by unfold dropRequest; (try dsimp only); (repeat' split) <;> simp
@[simp] theorem retirePlan_aut (s : State) : (retirePlan s).aut = s.aut := by unfold retirePlan; dsimp only; (repeat' split) <;> simp
@[simp] theorem retirePlan_axl (s : State) : (retirePlan s).axl = s.axl := by unfold retirePlan; dsimp only; (repeat' split) <;> simp
@[simp] theorem retirePlan_eff (s : State) : (retirePlan s).eff = s.eff := by unfold retirePlan; dsimp only; (repeat' split) <;> simp
@[simp] theorem retirePlan_jct (s : State) : (retirePlan s).jct = s.jct := by unfold retirePlan; dsimp only; (repeat' split) <;> simp
@[simp] theorem retirePlan_snd (s : State) : (retirePlan s).snd = s.snd := by unfold retirePlan; dsimp only; (repeat' split) <;> simp
@[simp] theorem retirePlan_pending (s : State) : (retirePlan s).pending = s.pending := by unfold retirePlan; dsimp only; (repeat' split) <;> simp
@[simp] theorem retirePlan_clock (s : State) : (retirePlan s).clock = s.clock := by unfold retirePlan; dsimp only; (repeat' split) <;> simp
@[simp] theorem clearBank_aut (b : BankName) (x : BankState) (s : State) : (clearBank b x s).aut = s.aut := by simp [clearBank]
@[simp] theorem clearBank_axl (b : BankName) (x : BankState) (s : State) : (clearBank b x s).axl = s.axl := by simp [clearBank]
@[simp] theorem clearBank_eff (b : BankName) (x : BankState) (s : State) : (clearBank b x s).eff = s.eff := by simp [clearBank]
@[simp] theorem clearBank_jct (b : BankName) (x : BankState) (s : State) : (clearBank b x s).jct = s.jct := by simp [clearBank]
@[simp] theorem clearBank_stp (b : BankName) (x : BankState) (s : State) : (clearBank b x s).stp = s.stp := by simp [clearBank]
@[simp] theorem clearBank_snd (b : BankName) (x : BankState) (s : State) : (clearBank b x s).snd = s.snd := by simp [clearBank]
@[simp] theorem clearBank_flt (b : BankName) (x : BankState) (s : State) : (clearBank b x s).flt = s.flt := by simp [clearBank]
@[simp] theorem clearBank_ord (b : BankName) (x : BankState) (s : State) : (clearBank b x s).ord = s.ord := by simp [clearBank]
@[simp] theorem clearBank_pending (b : BankName) (x : BankState) (s : State) : (clearBank b x s).pending = s.pending := by simp [clearBank]
@[simp] theorem clearBank_clock (b : BankName) (x : BankState) (s : State) : (clearBank b x s).clock = s.clock := by simp [clearBank]
@[simp] theorem completeClear_aut (s : State) : (completeClear s).aut = s.aut := by unfold completeClear; (try dsimp only); (repeat' split) <;> simp
@[simp] theorem completeClear_axl (s : State) : (completeClear s).axl = s.axl := by unfold completeClear; (try dsimp only); (repeat' split) <;> simp
@[simp] theorem completeClear_eff (s : State) : (completeClear s).eff = s.eff := by unfold completeClear; (try dsimp only); (repeat' split) <;> simp
@[simp] theorem completeClear_jct (s : State) : (completeClear s).jct = s.jct := by unfold completeClear; (try dsimp only); (repeat' split) <;> simp
@[simp] theorem completeClear_stp (s : State) : (completeClear s).stp = s.stp := by unfold completeClear; (try dsimp only); (repeat' split) <;> simp
@[simp] theorem completeClear_snd (s : State) : (completeClear s).snd = s.snd := by unfold completeClear; (try dsimp only); (repeat' split) <;> simp
@[simp] theorem completeClear_flt (s : State) : (completeClear s).flt = s.flt := by unfold completeClear; (try dsimp only); (repeat' split) <;> simp
@[simp] theorem completeClear_pending (s : State) : (completeClear s).pending = s.pending := by unfold completeClear; (try dsimp only); (repeat' split) <;> simp
@[simp] theorem completeClear_clock (s : State) : (completeClear s).clock = s.clock := by unfold completeClear; (try dsimp only); (repeat' split) <;> simp
@[simp] theorem completeSeal_aut (s : State) : (completeSeal s).aut = s.aut := by unfold completeSeal; (try dsimp only); (repeat' split) <;> simp
@[simp] theorem completeSeal_axl (s : State) : (completeSeal s).axl = s.axl := by unfold completeSeal; (try dsimp only); (repeat' split) <;> simp
@[simp] theorem completeSeal_eff (s : State) : (completeSeal s).eff = s.eff := by unfold completeSeal; (try dsimp only); (repeat' split) <;> simp
@[simp] theorem completeSeal_jct (s : State) : (completeSeal s).jct = s.jct := by unfold completeSeal; (try dsimp only); (repeat' split) <;> simp
@[simp] theorem completeSeal_stp (s : State) : (completeSeal s).stp = s.stp := by unfold completeSeal; (try dsimp only); (repeat' split) <;> simp
@[simp] theorem completeSeal_snd (s : State) : (completeSeal s).snd = s.snd := by unfold completeSeal; (try dsimp only); (repeat' split) <;> simp
@[simp] theorem completeSeal_flt (s : State) : (completeSeal s).flt = s.flt := by unfold completeSeal; (try dsimp only); (repeat' split) <;> simp
@[simp] theorem completeSeal_pending (s : State) : (completeSeal s).pending = s.pending := by unfold completeSeal; (try dsimp only); (repeat' split) <;> simp
@[simp] theorem completeSeal_clock (s : State) : (completeSeal s).clock = s.clock := by unfold completeSeal; (try dsimp only); (repeat' split) <;> simp

/-! ### AUT (chapter 1) -/

@[simp] theorem offerAuthority_axl (c : CabEnd) (s : State) : (offerAuthority c s).axl = s.axl := by simp [offerAuthority]
@[simp] theorem offerAuthority_pth (c : CabEnd) (s : State) : (offerAuthority c s).pth = s.pth := by simp [offerAuthority]
@[simp] theorem offerAuthority_jct (c : CabEnd) (s : State) : (offerAuthority c s).jct = s.jct := by simp [offerAuthority]
@[simp] theorem offerAuthority_loop (c : CabEnd) (s : State) : (offerAuthority c s).loop = s.loop := by simp [offerAuthority]
@[simp] theorem offerAuthority_stp (c : CabEnd) (s : State) : (offerAuthority c s).stp = s.stp := by simp [offerAuthority]
@[simp] theorem offerAuthority_flt (c : CabEnd) (s : State) : (offerAuthority c s).flt = s.flt := by simp [offerAuthority]
@[simp] theorem offerAuthority_ord (c : CabEnd) (s : State) : (offerAuthority c s).ord = s.ord := by simp [offerAuthority]
@[simp] theorem offerAuthority_pending (c : CabEnd) (s : State) : (offerAuthority c s).pending = s.pending := by simp [offerAuthority]
@[simp] theorem offerAuthority_clock (c : CabEnd) (s : State) : (offerAuthority c s).clock = s.clock := by simp [offerAuthority]
@[simp] theorem vacate_axl (s : State) : (vacate s).axl = s.axl := by simp [vacate]
@[simp] theorem vacate_pth (s : State) : (vacate s).pth = s.pth := by simp [vacate]
@[simp] theorem vacate_jct (s : State) : (vacate s).jct = s.jct := by simp [vacate]
@[simp] theorem vacate_loop (s : State) : (vacate s).loop = s.loop := by simp [vacate]
@[simp] theorem vacate_stp (s : State) : (vacate s).stp = s.stp := by simp [vacate]
@[simp] theorem vacate_snd (s : State) : (vacate s).snd = s.snd := by simp [vacate]
@[simp] theorem vacate_flt (s : State) : (vacate s).flt = s.flt := by simp [vacate]
@[simp] theorem vacate_ord (s : State) : (vacate s).ord = s.ord := by simp [vacate]
@[simp] theorem vacate_pending (s : State) : (vacate s).pending = s.pending := by simp [vacate]
@[simp] theorem vacate_clock (s : State) : (vacate s).clock = s.clock := by simp [vacate]
@[simp] theorem keyEffect_axl (c : CabEnd) (x : Bool) (s : State) : (keyEffect c x s).axl = s.axl := by unfold keyEffect; (try dsimp only); (repeat' split) <;> simp
@[simp] theorem keyEffect_pth (c : CabEnd) (x : Bool) (s : State) : (keyEffect c x s).pth = s.pth := by unfold keyEffect; (try dsimp only); (repeat' split) <;> simp
@[simp] theorem keyEffect_jct (c : CabEnd) (x : Bool) (s : State) : (keyEffect c x s).jct = s.jct := by unfold keyEffect; (try dsimp only); (repeat' split) <;> simp
@[simp] theorem keyEffect_loop (c : CabEnd) (x : Bool) (s : State) : (keyEffect c x s).loop = s.loop := by unfold keyEffect; (try dsimp only); (repeat' split) <;> simp
@[simp] theorem keyEffect_stp (c : CabEnd) (x : Bool) (s : State) : (keyEffect c x s).stp = s.stp := by unfold keyEffect; (try dsimp only); (repeat' split) <;> simp
@[simp] theorem keyEffect_ord (c : CabEnd) (x : Bool) (s : State) : (keyEffect c x s).ord = s.ord := by unfold keyEffect; (try dsimp only); (repeat' split) <;> simp
@[simp] theorem keyEffect_pending (c : CabEnd) (x : Bool) (s : State) : (keyEffect c x s).pending = s.pending := by unfold keyEffect; (try dsimp only); (repeat' split) <;> simp
@[simp] theorem keyEffect_clock (c : CabEnd) (x : Bool) (s : State) : (keyEffect c x s).clock = s.clock := by unfold keyEffect; (try dsimp only); (repeat' split) <;> simp
@[simp] theorem reportKey_axl (c : CabEnd) (x : Bool) (s : State) : (reportKey c x s).axl = s.axl := by unfold reportKey; (try dsimp only); (repeat' split) <;> simp
@[simp] theorem reportKey_pth (c : CabEnd) (x : Bool) (s : State) : (reportKey c x s).pth = s.pth := by unfold reportKey; (try dsimp only); (repeat' split) <;> simp
@[simp] theorem reportKey_jct (c : CabEnd) (x : Bool) (s : State) : (reportKey c x s).jct = s.jct := by unfold reportKey; (try dsimp only); (repeat' split) <;> simp
@[simp] theorem reportKey_loop (c : CabEnd) (x : Bool) (s : State) : (reportKey c x s).loop = s.loop := by unfold reportKey; (try dsimp only); (repeat' split) <;> simp
@[simp] theorem reportKey_stp (c : CabEnd) (x : Bool) (s : State) : (reportKey c x s).stp = s.stp := by unfold reportKey; (try dsimp only); (repeat' split) <;> simp
@[simp] theorem reportKey_ord (c : CabEnd) (x : Bool) (s : State) : (reportKey c x s).ord = s.ord := by unfold reportKey; (try dsimp only); (repeat' split) <;> simp
@[simp] theorem reportKey_pending (c : CabEnd) (x : Bool) (s : State) : (reportKey c x s).pending = s.pending := by unfold reportKey; (try dsimp only); (repeat' split) <;> simp
@[simp] theorem reportKey_clock (c : CabEnd) (x : Bool) (s : State) : (reportKey c x s).clock = s.clock := by unfold reportKey; (try dsimp only); (repeat' split) <;> simp
@[simp] theorem grantAuthority_axl (c : CabEnd) (s : State) : (grantAuthority c s).axl = s.axl := by unfold grantAuthority; (try dsimp only); (repeat' split) <;> simp
@[simp] theorem grantAuthority_snd (c : CabEnd) (s : State) : (grantAuthority c s).snd = s.snd := by unfold grantAuthority; (try dsimp only); (repeat' split) <;> simp
@[simp] theorem grantAuthority_pending (c : CabEnd) (s : State) : (grantAuthority c s).pending = s.pending := by unfold grantAuthority; (try dsimp only); (repeat' split) <;> simp
@[simp] theorem grantAuthority_clock (c : CabEnd) (s : State) : (grantAuthority c s).clock = s.clock := by unfold grantAuthority; (try dsimp only); (repeat' split) <;> simp
@[simp] theorem handoverExpired_axl (s : State) : (handoverExpired s).axl = s.axl := by unfold handoverExpired; (try dsimp only); (repeat' split) <;> simp
@[simp] theorem handoverExpired_pth (s : State) : (handoverExpired s).pth = s.pth := by unfold handoverExpired; (try dsimp only); (repeat' split) <;> simp
@[simp] theorem handoverExpired_eff (s : State) : (handoverExpired s).eff = s.eff := by unfold handoverExpired; (try dsimp only); (repeat' split) <;> simp
@[simp] theorem handoverExpired_jct (s : State) : (handoverExpired s).jct = s.jct := by unfold handoverExpired; (try dsimp only); (repeat' split) <;> simp
@[simp] theorem handoverExpired_loop (s : State) : (handoverExpired s).loop = s.loop := by unfold handoverExpired; (try dsimp only); (repeat' split) <;> simp
@[simp] theorem handoverExpired_stp (s : State) : (handoverExpired s).stp = s.stp := by unfold handoverExpired; (try dsimp only); (repeat' split) <;> simp
@[simp] theorem handoverExpired_snd (s : State) : (handoverExpired s).snd = s.snd := by unfold handoverExpired; (try dsimp only); (repeat' split) <;> simp
@[simp] theorem handoverExpired_flt (s : State) : (handoverExpired s).flt = s.flt := by unfold handoverExpired; (try dsimp only); (repeat' split) <;> simp
@[simp] theorem handoverExpired_ord (s : State) : (handoverExpired s).ord = s.ord := by unfold handoverExpired; (try dsimp only); (repeat' split) <;> simp
@[simp] theorem handoverExpired_pending (s : State) : (handoverExpired s).pending = s.pending := by unfold handoverExpired; (try dsimp only); (repeat' split) <;> simp
@[simp] theorem handoverExpired_clock (s : State) : (handoverExpired s).clock = s.clock := by unfold handoverExpired; (try dsimp only); (repeat' split) <;> simp
@[simp] theorem silenceExpired_axl (s : State) : (silenceExpired s).axl = s.axl := by unfold silenceExpired; (try dsimp only); (repeat' split) <;> simp
@[simp] theorem silenceExpired_pth (s : State) : (silenceExpired s).pth = s.pth := by unfold silenceExpired; (try dsimp only); (repeat' split) <;> simp
@[simp] theorem silenceExpired_jct (s : State) : (silenceExpired s).jct = s.jct := by unfold silenceExpired; (try dsimp only); (repeat' split) <;> simp
@[simp] theorem silenceExpired_loop (s : State) : (silenceExpired s).loop = s.loop := by unfold silenceExpired; (try dsimp only); (repeat' split) <;> simp
@[simp] theorem silenceExpired_stp (s : State) : (silenceExpired s).stp = s.stp := by unfold silenceExpired; (try dsimp only); (repeat' split) <;> simp
@[simp] theorem silenceExpired_ord (s : State) : (silenceExpired s).ord = s.ord := by unfold silenceExpired; (try dsimp only); (repeat' split) <;> simp
@[simp] theorem silenceExpired_pending (s : State) : (silenceExpired s).pending = s.pending := by unfold silenceExpired; (try dsimp only); (repeat' split) <;> simp
@[simp] theorem silenceExpired_clock (s : State) : (silenceExpired s).clock = s.clock := by unfold silenceExpired; (try dsimp only); (repeat' split) <;> simp
@[simp] theorem vigilanceExpired_axl (s : State) : (vigilanceExpired s).axl = s.axl := by unfold vigilanceExpired; (try dsimp only); (repeat' split) <;> simp
@[simp] theorem vigilanceExpired_pth (s : State) : (vigilanceExpired s).pth = s.pth := by unfold vigilanceExpired; (try dsimp only); (repeat' split) <;> simp
@[simp] theorem vigilanceExpired_jct (s : State) : (vigilanceExpired s).jct = s.jct := by unfold vigilanceExpired; (try dsimp only); (repeat' split) <;> simp
@[simp] theorem vigilanceExpired_loop (s : State) : (vigilanceExpired s).loop = s.loop := by unfold vigilanceExpired; (try dsimp only); (repeat' split) <;> simp
@[simp] theorem vigilanceExpired_stp (s : State) : (vigilanceExpired s).stp = s.stp := by unfold vigilanceExpired; (try dsimp only); (repeat' split) <;> simp
@[simp] theorem vigilanceExpired_snd (s : State) : (vigilanceExpired s).snd = s.snd := by unfold vigilanceExpired; (try dsimp only); (repeat' split) <;> simp
@[simp] theorem vigilanceExpired_ord (s : State) : (vigilanceExpired s).ord = s.ord := by unfold vigilanceExpired; (try dsimp only); (repeat' split) <;> simp
@[simp] theorem vigilanceExpired_pending (s : State) : (vigilanceExpired s).pending = s.pending := by unfold vigilanceExpired; (try dsimp only); (repeat' split) <;> simp
@[simp] theorem vigilanceExpired_clock (s : State) : (vigilanceExpired s).clock = s.clock := by unfold vigilanceExpired; (try dsimp only); (repeat' split) <;> simp
@[simp] theorem endKeyLost_axl (s : State) : (endKeyLost s).axl = s.axl := by unfold endKeyLost; (try dsimp only); (repeat' split) <;> simp
@[simp] theorem endKeyLost_pth (s : State) : (endKeyLost s).pth = s.pth := by unfold endKeyLost; (try dsimp only); (repeat' split) <;> simp
@[simp] theorem endKeyLost_jct (s : State) : (endKeyLost s).jct = s.jct := by unfold endKeyLost; (try dsimp only); (repeat' split) <;> simp
@[simp] theorem endKeyLost_loop (s : State) : (endKeyLost s).loop = s.loop := by unfold endKeyLost; (try dsimp only); (repeat' split) <;> simp
@[simp] theorem endKeyLost_stp (s : State) : (endKeyLost s).stp = s.stp := by unfold endKeyLost; (try dsimp only); (repeat' split) <;> simp
@[simp] theorem endKeyLost_flt (s : State) : (endKeyLost s).flt = s.flt := by unfold endKeyLost; (try dsimp only); (repeat' split) <;> simp
@[simp] theorem endKeyLost_ord (s : State) : (endKeyLost s).ord = s.ord := by unfold endKeyLost; (try dsimp only); (repeat' split) <;> simp
@[simp] theorem endKeyLost_pending (s : State) : (endKeyLost s).pending = s.pending := by unfold endKeyLost; (try dsimp only); (repeat' split) <;> simp
@[simp] theorem endKeyLost_clock (s : State) : (endKeyLost s).clock = s.clock := by unfold endKeyLost; (try dsimp only); (repeat' split) <;> simp
@[simp] theorem autClose_axl (s : State) : (autClose s).axl = s.axl := by simp [autClose]
@[simp] theorem autClose_pth (s : State) : (autClose s).pth = s.pth := by simp [autClose]
@[simp] theorem autClose_jct (s : State) : (autClose s).jct = s.jct := by simp [autClose]
@[simp] theorem autClose_loop (s : State) : (autClose s).loop = s.loop := by simp [autClose]
@[simp] theorem autClose_stp (s : State) : (autClose s).stp = s.stp := by simp [autClose]
@[simp] theorem autClose_flt (s : State) : (autClose s).flt = s.flt := by simp [autClose]
@[simp] theorem autClose_ord (s : State) : (autClose s).ord = s.ord := by simp [autClose]
@[simp] theorem autClose_pending (s : State) : (autClose s).pending = s.pending := by simp [autClose]
@[simp] theorem autClose_clock (s : State) : (autClose s).clock = s.clock := by simp [autClose]

/-! ### AXL, the picture and the count close (chapters 3 and 10) -/

@[simp] theorem updateSand_aut (s : State) : (updateSand s).aut = s.aut := rfl
@[simp] theorem updateSand_pth (s : State) : (updateSand s).pth = s.pth := rfl
@[simp] theorem updateSand_eff (s : State) : (updateSand s).eff = s.eff := rfl
@[simp] theorem updateSand_jct (s : State) : (updateSand s).jct = s.jct := rfl
@[simp] theorem updateSand_loop (s : State) : (updateSand s).loop = s.loop := rfl
@[simp] theorem updateSand_stp (s : State) : (updateSand s).stp = s.stp := rfl
@[simp] theorem updateSand_snd (s : State) : (updateSand s).snd = s.snd := rfl
@[simp] theorem updateSand_flt (s : State) : (updateSand s).flt = s.flt := rfl
@[simp] theorem updateSand_ord (s : State) : (updateSand s).ord = s.ord := rfl
@[simp] theorem updateSand_pending (s : State) : (updateSand s).pending = s.pending := rfl
@[simp] theorem updateSand_clock (s : State) : (updateSand s).clock = s.clock := rfl
@[simp] theorem raiseFaulty_aut (l : List Axle) (s : State) : (l.foldl (fun t a => raiseRestrict .axleImplausible (.axle a) t) s).aut = s.aut := foldl_keeps (g := State.aut) (fun t a => raiseRestrict_aut _ _ t) _ s
@[simp] theorem raiseFaulty_axl (l : List Axle) (s : State) : (l.foldl (fun t a => raiseRestrict .axleImplausible (.axle a) t) s).axl = s.axl := foldl_keeps (g := State.axl) (fun t a => raiseRestrict_axl _ _ t) _ s
@[simp] theorem raiseFaulty_pth (l : List Axle) (s : State) : (l.foldl (fun t a => raiseRestrict .axleImplausible (.axle a) t) s).pth = s.pth := foldl_keeps (g := State.pth) (fun t a => raiseRestrict_pth _ _ t) _ s
@[simp] theorem raiseFaulty_eff (l : List Axle) (s : State) : (l.foldl (fun t a => raiseRestrict .axleImplausible (.axle a) t) s).eff = s.eff := foldl_keeps (g := State.eff) (fun t a => raiseRestrict_eff _ _ t) _ s
@[simp] theorem raiseFaulty_jct (l : List Axle) (s : State) : (l.foldl (fun t a => raiseRestrict .axleImplausible (.axle a) t) s).jct = s.jct := foldl_keeps (g := State.jct) (fun t a => raiseRestrict_jct _ _ t) _ s
@[simp] theorem raiseFaulty_loop (l : List Axle) (s : State) : (l.foldl (fun t a => raiseRestrict .axleImplausible (.axle a) t) s).loop = s.loop := foldl_keeps (g := State.loop) (fun t a => raiseRestrict_loop _ _ t) _ s
@[simp] theorem raiseFaulty_stp (l : List Axle) (s : State) : (l.foldl (fun t a => raiseRestrict .axleImplausible (.axle a) t) s).stp = s.stp := foldl_keeps (g := State.stp) (fun t a => raiseRestrict_stp _ _ t) _ s
@[simp] theorem raiseFaulty_snd (l : List Axle) (s : State) : (l.foldl (fun t a => raiseRestrict .axleImplausible (.axle a) t) s).snd = s.snd := foldl_keeps (g := State.snd) (fun t a => raiseRestrict_snd _ _ t) _ s
@[simp] theorem raiseFaulty_ord (l : List Axle) (s : State) : (l.foldl (fun t a => raiseRestrict .axleImplausible (.axle a) t) s).ord = s.ord := foldl_keeps (g := State.ord) (fun t a => raiseRestrict_ord _ _ t) _ s
@[simp] theorem raiseFaulty_pending (l : List Axle) (s : State) : (l.foldl (fun t a => raiseRestrict .axleImplausible (.axle a) t) s).pending = s.pending := foldl_keeps (g := State.pending) (fun t a => raiseRestrict_pending _ _ t) _ s
@[simp] theorem raiseFaulty_clock (l : List Axle) (s : State) : (l.foldl (fun t a => raiseRestrict .axleImplausible (.axle a) t) s).clock = s.clock := foldl_keeps (g := State.clock) (fun t a => raiseRestrict_clock _ _ t) _ s
@[simp] theorem axlClose_aut (s : State) : (axlClose s).aut = s.aut := by unfold axlClose; dsimp only; split <;> simp
@[simp] theorem axlClose_pth (s : State) : (axlClose s).pth = s.pth := by unfold axlClose; dsimp only; split <;> simp
@[simp] theorem axlClose_eff (s : State) : (axlClose s).eff = s.eff := by unfold axlClose; dsimp only; split <;> simp
@[simp] theorem axlClose_jct (s : State) : (axlClose s).jct = s.jct := by unfold axlClose; dsimp only; split <;> simp
@[simp] theorem axlClose_loop (s : State) : (axlClose s).loop = s.loop := by unfold axlClose; dsimp only; split <;> simp
@[simp] theorem axlClose_stp (s : State) : (axlClose s).stp = s.stp := by unfold axlClose; dsimp only; split <;> simp
@[simp] theorem axlClose_snd (s : State) : (axlClose s).snd = s.snd := by unfold axlClose; dsimp only; split <;> simp
@[simp] theorem axlClose_ord (s : State) : (axlClose s).ord = s.ord := by unfold axlClose; dsimp only; split <;> simp
@[simp] theorem axlClose_pending (s : State) : (axlClose s).pending = s.pending := by unfold axlClose; dsimp only; split <;> simp
@[simp] theorem axlClose_clock (s : State) : (axlClose s).clock = s.clock := by unfold axlClose; dsimp only; split <;> simp
@[simp] theorem putConfigInForce_aut (s : State) : (putConfigInForce s).aut = s.aut := rfl
@[simp] theorem putConfigInForce_axl (s : State) : (putConfigInForce s).axl = s.axl := rfl
@[simp] theorem putConfigInForce_pth (s : State) : (putConfigInForce s).pth = s.pth := rfl
@[simp] theorem putConfigInForce_eff (s : State) : (putConfigInForce s).eff = s.eff := rfl
@[simp] theorem putConfigInForce_jct (s : State) : (putConfigInForce s).jct = s.jct := rfl
@[simp] theorem putConfigInForce_loop (s : State) : (putConfigInForce s).loop = s.loop := rfl
@[simp] theorem putConfigInForce_stp (s : State) : (putConfigInForce s).stp = s.stp := rfl
@[simp] theorem putConfigInForce_snd (s : State) : (putConfigInForce s).snd = s.snd := rfl
@[simp] theorem putConfigInForce_flt (s : State) : (putConfigInForce s).flt = s.flt := rfl
@[simp] theorem putConfigInForce_pending (s : State) : (putConfigInForce s).pending = s.pending := rfl
@[simp] theorem putConfigInForce_clock (s : State) : (putConfigInForce s).clock = s.clock := rfl
@[simp] theorem sendPicture_aut (s : State) : (sendPicture s).aut = s.aut := rfl
@[simp] theorem sendPicture_axl (s : State) : (sendPicture s).axl = s.axl := rfl
@[simp] theorem sendPicture_pth (s : State) : (sendPicture s).pth = s.pth := rfl
@[simp] theorem sendPicture_eff (s : State) : (sendPicture s).eff = s.eff := rfl
@[simp] theorem sendPicture_jct (s : State) : (sendPicture s).jct = s.jct := rfl
@[simp] theorem sendPicture_loop (s : State) : (sendPicture s).loop = s.loop := rfl
@[simp] theorem sendPicture_stp (s : State) : (sendPicture s).stp = s.stp := rfl
@[simp] theorem sendPicture_snd (s : State) : (sendPicture s).snd = s.snd := rfl
@[simp] theorem sendPicture_flt (s : State) : (sendPicture s).flt = s.flt := rfl
@[simp] theorem sendPicture_pending (s : State) : (sendPicture s).pending = s.pending := rfl
@[simp] theorem sendPicture_clock (s : State) : (sendPicture s).clock = s.clock := rfl
@[simp] theorem pictureClose_aut (s : State) : (pictureClose s).aut = s.aut := by unfold pictureClose; (try dsimp only); (repeat' split) <;> simp
@[simp] theorem pictureClose_axl (s : State) : (pictureClose s).axl = s.axl := by unfold pictureClose; (try dsimp only); (repeat' split) <;> simp
@[simp] theorem pictureClose_pth (s : State) : (pictureClose s).pth = s.pth := by unfold pictureClose; (try dsimp only); (repeat' split) <;> simp
@[simp] theorem pictureClose_eff (s : State) : (pictureClose s).eff = s.eff := by unfold pictureClose; (try dsimp only); (repeat' split) <;> simp
@[simp] theorem pictureClose_jct (s : State) : (pictureClose s).jct = s.jct := by unfold pictureClose; (try dsimp only); (repeat' split) <;> simp
@[simp] theorem pictureClose_loop (s : State) : (pictureClose s).loop = s.loop := by unfold pictureClose; (try dsimp only); (repeat' split) <;> simp
@[simp] theorem pictureClose_stp (s : State) : (pictureClose s).stp = s.stp := by unfold pictureClose; (try dsimp only); (repeat' split) <;> simp
@[simp] theorem pictureClose_snd (s : State) : (pictureClose s).snd = s.snd := by unfold pictureClose; (try dsimp only); (repeat' split) <;> simp
@[simp] theorem pictureClose_flt (s : State) : (pictureClose s).flt = s.flt := by unfold pictureClose; (try dsimp only); (repeat' split) <;> simp
@[simp] theorem pictureClose_pending (s : State) : (pictureClose s).pending = s.pending := by unfold pictureClose; (try dsimp only); (repeat' split) <;> simp
@[simp] theorem pictureClose_clock (s : State) : (pictureClose s).clock = s.clock := by unfold pictureClose; (try dsimp only); (repeat' split) <;> simp
@[simp] theorem countClose_pending (s : State) : (countClose s).pending = s.pending := by simp [countClose, closeBeforeEffort]
@[simp] theorem countClose_clock (s : State) : (countClose s).clock = s.clock := by simp [countClose, closeBeforeEffort]

end Sys2Proof.Machine
end

