-- ==== Sys2Proof/Laws/Operations.lean ====
section
/-! SUPPORT. Laws/Operations.lean: for each shared operation that branches, one lemma that says once everything it can
do. -/

namespace Sys2Proof.Machine

/-! ### FLT -/

/-- The four rows of R166. -/
theorem raiseStop_cases (k : FaultKind) (key : FaultKey) (s : State) :
    (s.flt.queue.any (isOpenStop k) = true ∧ raiseStop k key s = mergeFault k s)
      ∨ (s.flt.queue.any (isOpenStop k) = false ∧ s.flt.latch = false
          ∧ raiseStop k key s = { storeFault k .stop key none s with flt.latch := true })
      ∨ (s.flt.queue.any (isOpenStop k) = false ∧ s.flt.latch = true ∧ s.flt.halt = false
          ∧ raiseStop k key s = enterHalt (storeFault k .stop key none s))
      ∨ (s.flt.queue.any (isOpenStop k) = false ∧ s.flt.latch = true ∧ s.flt.halt = true
          ∧ raiseStop k key s = storeFault k .stop key none s) := by
  unfold raiseStop
  cases h1 : s.flt.queue.any (isOpenStop k) <;> cases h2 : s.flt.latch <;> cases h3 : s.flt.halt <;> simp

/-- The first record of a list that meets a test is the one erased. -/
theorem eraseP_of_first {f : FaultRecord → Bool} {a b : List FaultRecord} {x : FaultRecord}
    (h : ∀ y ∈ a, f y = false) (hx : f x = true) : (a ++ x :: b).eraseP f = a ++ b := by
  rw [List.eraseP_append_right _ (by simpa using h), List.eraseP_cons_of_pos hx]

/-- A queue with room stays; a full one gives up the record that R169 names. -/
theorem makeRoom_made (q : List FaultRecord) : roomMade q (makeRoom q) := by
  refine ⟨fun h => by simp [makeRoom, Config.faultQueueSize, h], ?_⟩
  rintro a x b rfl full h
  have full : ¬ (a ++ x :: b).length < Config.faultQueueSize := Nat.not_lt.mpr full
  unfold makeRoom
  rw [if_neg full]
  rcases h with ⟨hx, ha⟩ | ⟨hx, hn, ha⟩ | ⟨hx, hs, ha⟩
  · rw [if_pos (by simp [hx]), eraseP_of_first (by simpa using ha) (by simp [hx])]
  · have noNotice : ¬ (a ++ x :: b).any (fun r => r.cls == .notice) = true := by
      simpa only [List.any_eq_true, beq_iff_eq, not_exists, not_and] using hn
    rw [if_neg noNotice, if_pos (by simp [hx]), eraseP_of_first (by simpa using ha) (by simp [hx])]
  · have hn : ∀ c, c ≠ FaultClass.stop → (a ++ x :: b).any (fun r => r.cls == c) = false := fun c hc =>
      List.any_eq_false.mpr fun y hy => by simpa [hs y hy] using hc.symm
    have hxs := hs x (by simp)
    rw [hn .notice (by decide), hn .restrict (by decide)]
    simp only [Bool.false_eq_true, if_false]
    exact eraseP_of_first (fun y hy => by simp [mayRemove, ha y hy]) (by simpa [hxs, mayRemove] using hx)

/-- One NOTICE or RESTRICT fault stored without an order's tag (R162, R164, R165, R169). -/
theorem storeFault_raised (k : FaultKind) (c : FaultClass) (key : FaultKey) (s : State) (h : c ≠ .stop) :
    faultsRaised s.pth.p [(k, c, key)] s.flt (storeFault k c key none s).flt :=
  ⟨_, newRecord k c key none s, makeRoom_made _, rfl, rfl, rfl, rfl, by simp [newRecord, h], rfl, rfl⟩

/-- A settle offer is taken, or leaves everything (R73). -/
theorem offerSettle_cases (r : SettleReason) (n : Nat) (s : State) :
    (s.eff.settleCount < n
        ∧ offerSettle r n s = { s with eff.settleCount := n, eff.settleReason := r })
      ∨ (n ≤ s.eff.settleCount ∧ offerSettle r n s = s) := by
  unfold offerSettle
  by_cases h : s.eff.settleCount < n
  · exact .inl ⟨h, if_pos h⟩
  · exact .inr ⟨Nat.le_of_not_lt h, if_neg h⟩

/-- The vigilance timer stops where its conditions fail, starts where it stood stopped, and else stays (R14, R15). -/
theorem reviseVigilance_cases (s : State) :
    (s.vigilanceHolds = false ∧ reviseVigilance s = { s with aut.vigilance := .stopped })
      ∨ (s.vigilanceHolds = true ∧ s.aut.vigilance = .stopped
          ∧ reviseVigilance s = { s with aut.vigilance := .running 0 })
      ∨ (s.vigilanceHolds = true ∧ s.aut.vigilance ≠ .stopped ∧ reviseVigilance s = s) := by
  unfold reviseVigilance
  cases h : s.vigilanceHolds <;> cases v : s.aut.vigilance <;> simp

/-! ### LOOP -/

/-- The outcomes of an offer (R110). -/
theorem offerTelegram_cases (t : Telegram) (b : BankName) (i : Nat) (x : Loop) :
    (t.kind = .cancel ∧ x.mergeable.any (isRequestFor t.junction) = true
        ∧ offerTelegram t b i x = (.merged, { x with queue := x.withoutRequest t.junction }))
      ∨ offerTelegram t b i x = (.notTaken, x)
      ∨ (x.queue.length < 8 ∧ (∀ q ∈ x.queue, q.telegram.junction ≠ t.junction)
          ∧ offerTelegram t b i x
            = (.taken, joinQueue { telegram := t, bank := b, index := i, entryStands := true } x)) := by
  unfold offerTelegram
  split
  · next h => exact .inl ⟨h.1, h.2, rfl⟩
  · split
    · exact .inr (.inl rfl)
    · next hq =>
      split
      · exact .inr (.inl rfl)
      · next hl =>
        refine .inr (.inr ⟨by simpa [Config.loopQueueSize] using hl, ?_, rfl⟩)
        simpa using hq

/-- The queue after a telegram has joined it is the queue with that telegram at its tail. -/
@[simp] theorem joinQueue_queue (q : QueuedTelegram) (x : Loop) : (joinQueue q x).queue = x.queue ++ [q] := rfl

/-- The transmitter once an event's handling is over (R111). -/
theorem startSending_begun (before : List QueuedTelegram) (x : Loop) :
    transmitterBegun before x (startSending before x) := by
  have first : ∀ t : Telegram, frameBit t 0 = true := fun _ => rfl
  obtain ⟨queue, transmitter, data, strobe, decoder, inboundData, still⟩ := x
  cases before <;> cases transmitter <;> cases queue <;> cases data <;>
    simp [transmitterBegun, startSending, beginSending, driveBit, first]

/-- What waits in the queue is as the event left it (R111). -/
@[simp] theorem startSending_queue (before : List QueuedTelegram) (x : Loop) :
    (startSending before x).queue = x.queue := by
  rw [startSending_begun before x]
  split <;> rfl

/-- One bit changes exactly one of the two lines, and the data line then has the bit's level (R114). -/
theorem driveBit_lines (bit : Bool) (x : Loop) :
    (driveBit bit x).data = bit ∧ ((driveBit bit x).data ≠ x.data ↔ (driveBit bit x).strobe = x.strobe) := by
  unfold driveBit
  cases bit <;> cases h : x.data <;> simp

/-- A telegram made for an entry is taken, merges, or joins the entry's due list (R90, R110). -/
theorem makeOffer_cases (t : Telegram) (b : BankName) (i : Nat) (s : State) :
    (∃ x, offerTelegram t b i s.loop = (.taken, x) ∧ makeOffer t b i s = afterTaken t b i { s with loop := x })
      ∨ (∃ x, offerTelegram t b i s.loop = (.merged, x) ∧ makeOffer t b i s = reoffer { s with loop := x })
      ∨ (offerTelegram t b i s.loop = (.notTaken, s.loop)
          ∧ makeOffer t b i s = s.modJunction b i fun j => { j with due := j.due ++ [t] }) := by
  unfold makeOffer
  rcases offerTelegram_cases t b i s.loop with ⟨-, -, h⟩ | h | ⟨-, -, h⟩ <;> simp [h]

/-! ### SND -/

/-- The rows of R147. -/
theorem requestOn_cases (c : Channel) (night : Bool) (n : Nat) (x : ChannelRecord) :
    requestOn c night n x = (x, .merged)
      ∨ (n ∉ x.queue ∧ 4 ≤ x.queue.length ∧ requestOn c night n x = (x, .discarded))
      ∨ (n ∉ x.queue ∧ x.queue.length < 4 ∧ x.state = .idle
          ∧ requestOn c night n x = (takeUp c night { x with queue := x.queue ++ [n] }, .started))
      ∨ (n ∉ x.queue ∧ x.queue.length < 4 ∧ x.state ≠ .idle
          ∧ requestOn c night n x = ({ x with queue := x.queue ++ [n] }, .queued)) := by
  unfold requestOn
  have hlt : ¬4 ≤ x.queue.length ↔ x.queue.length < 4 := Nat.not_le
  by_cases hm : n ∈ x.queue <;> by_cases hl : 4 ≤ x.queue.length <;> cases h : x.state with
  | program m k l b => by_cases hr : m = n ∧ b = false <;> simp [hm, hl, hr, ← hlt]
  | _ => simp [hm, hl, ← hlt]

/-- A channel takes up its oldest program, or becomes IDLE (R148). -/
theorem takeUp_cases (c : Channel) (night : Bool) (x : ChannelRecord) :
    (x.queue = [] ∧ takeUp c night x = { x with state := .idle, tone := .off })
      ∨ ∃ n rest, x.queue = n :: rest
          ∧ takeUp c night x = startProgramStep c night n 1 false { x with queue := rest } := by
  unfold takeUp
  cases h : x.queue with
  | nil => exact .inl ⟨rfl, rfl⟩
  | cons n rest => exact .inr ⟨n, rest, rfl, rfl⟩

/-- A step started is the program's step with its tone and time, or none (R148). -/
theorem startProgramStep_queue (c : Channel) (night : Bool) (n k : Nat) (m : Bool) (x : ChannelRecord) :
    (startProgramStep c night n k m x).queue = x.queue := by
  unfold startProgramStep
  split <;> rfl

/-- An automatic request does to its channel what R147 and R149 say. -/
theorem requestOn_asked (c : Channel) (night : Bool) (n : Nat) (x : ChannelRecord) :
    programAsked c night n x (requestOn c night n x).1 := by
  intro idle
  refine ⟨_, Iff.rfl, fun same => ?_, fun other busy => ?_, fun other free tone time step => ?_⟩
  · rcases same with h | ⟨k, l, h⟩
    · unfold requestOn; cases hs : x.state <;> simp [h]
    · simp [requestOn, h]
  · obtain ⟨hq, hp⟩ := not_or.mp other
    unfold requestOn
    cases hs : x.state with
    | idle => exact absurd hs busy
    | program m k l b =>
      have : ¬(m = n ∧ b = false) := by rintro ⟨rfl, rfl⟩; exact hp ⟨k, l, hs⟩
      by_cases hl : 4 ≤ x.queue.length <;> simp [this, hq, hl]
    | _ => by_cases hl : 4 ≤ x.queue.length <;> simp [hq, hl]
  · cases c <;> simp [requestOn, free, idle free, takeUp, startProgramStep, step, driveFull]

/-! ### PTH and STP -/

/-- A move of p delivers marks where it is an increase, and else sets p alone (R36, R37). -/
theorem moveTo_cases (p : Nat) (s : State) :
    (s.pth.p < p ∧ moveTo p s = fireMarks { s with pth.p := p })
      ∨ (p ≤ s.pth.p ∧ moveTo p s = { s with pth.p := p }) := by
  unfold moveTo
  by_cases h : s.pth.p < p
  · exact .inl ⟨h, by simp [h]⟩
  · exact .inr ⟨Nat.le_of_not_lt h, by simp [h]⟩

/-- A SETTLE completes only while no exchange is in progress (R102). -/
theorem settleCheck_cases (s : State) :
    (s.exchangeInProgress = true ∧ settleCheck s = s)
      ∨ (s.exchangeInProgress = false ∧ settleCheck s = allPorts.foldl completeSettle s) := by
  unfold settleCheck
  cases s.exchangeInProgress <;> simp

/-- The switch conditions hold and the switch takes place, or nothing happens (R27). -/
theorem examineSwitch_cases (s : State) :
    (s.pth.pendingSwitch = true ∧ s.standstill = true ∧ s.junctionActive = false
        ∧ examineSwitch s = completeSwitch s)
      ∨ examineSwitch s = s := by
  unfold examineSwitch
  split
  · next h => exact .inl ⟨h.1, h.2.1, h.2.2.1, rfl⟩
  · exact .inr rfl

/-! ### Wire forms of orders -/

/-- What `readOrder` reads from codes below 16 has that code and a payload of that length. -/
theorem readOrder_some_low {n : Nat} {l : List Byte} {o : Order} (hn : n < 16) (h : readOrder n l = some o) :
    orderCode o = n ∧ (orderPayload o).length = l.length := by
  interval_cases n <;>
    rcases l with _ | ⟨a, _ | ⟨b, _ | ⟨c, _ | ⟨d, _ | ⟨e, _ | ⟨f, _ | ⟨g, _ | ⟨i, _ | ⟨j, _ | ⟨k, _ | ⟨m, _ | ⟨q, _ |
      ⟨r, l⟩⟩⟩⟩⟩⟩⟩⟩⟩⟩⟩⟩⟩ <;>
    cases h <;> exact ⟨rfl, rfl⟩

/-- What `readOrder` reads from codes 16 to 30 has that code and a payload of that length. -/
theorem readOrder_some_high {n : Nat} {l : List Byte} {o : Order} (hl : 16 ≤ n) (hn : n < 31)
    (h : readOrder n l = some o) : orderCode o = n ∧ (orderPayload o).length = l.length := by
  interval_cases n <;>
    rcases l with _ | ⟨a, _ | ⟨b, _ | ⟨c, _ | ⟨d, _ | ⟨e, l⟩⟩⟩⟩⟩ <;>
    cases h <;> exact ⟨rfl, rfl⟩

/-- No order has a code above 30. -/
theorem readOrder_none_above {n : Nat} {l : List Byte} (hn : 31 ≤ n) : readOrder n l = none := by
  obtain ⟨k, rfl⟩ := Nat.exists_eq_add_of_le hn
  rw [Nat.add_comm]
  cases l <;> rfl

/-- What `readOrder` reads has that code and a payload of that length (R181). -/
theorem readOrder_some {n : Nat} {l : List Byte} {o : Order} (h : readOrder n l = some o) :
    orderCode o = n ∧ (orderPayload o).length = l.length := by
  rcases Nat.lt_or_ge n 16 with h1 | h1
  · exact readOrder_some_low h1 h
  · rcases Nat.lt_or_ge n 31 with h2 | h2
    · exact readOrder_some_high h1 h2 h
    · simp [readOrder_none_above h2] at h

end Sys2Proof.Machine
end

