-- ==== Sys2Proof/Laws/Orders.lean ====
section
/-! SUPPORT. Laws/Orders.lean: what the taking of an order can do (R182, R184, R190), said once. -/

namespace Sys2Proof.Machine

/-- An order at the head of its queue leaves it and consumes the preface record. -/
theorem consumed_atHead {s : State} {p : Port} {tag : Byte} {o : Order} (h : s.atHead p tag o) :
    consumed p tag o s = some (s.taken p) := by
  unfold consumed leaveQueue State.taken
  rcases hq : (s.port p).queue with _ | ⟨q, rest⟩
  · simp [modPort, State.setPort, State.port]
    cases p <;> simp_all [PerPort.set, PerPort.get, State.port]
  · have e : q = { tag, order := o } := by
      rcases h with h | h
      · simp [hq] at h
      · simpa [hq] using h
    subst e
    cases p <;> simp_all [modPort, State.setPort, PerPort.set, PerPort.get, State.port]

@[simp] theorem taken_failedCheck (s : State) (p q : Port) (o : Order) (r : Option Preface) :
    (s.taken p).failedCheck q o r = s.failedCheck q o r := rfl

/-- No check fails for an order that is ready. -/
theorem failedCheck_ready {s : State} {p : Port} {tag : Byte} {o : Order} (h : s.ready p tag o) :
    s.failedCheck p o (s.port p).preface = none := by
  obtain ⟨-, h1, h2, h3, h4, h5⟩ := h
  unfold State.failedCheck State.lacksLiveEnd prefaceMatches
  rw [h1]
  rcases h2 with h2 | h2 <;> rcases h3 with h3 | h3 <;> cases hp : isProtected o <;> cases hl : needsLiveEnd o <;>
    simp_all
  all_goals
    intro hd
    rcases h5 with h5 | h5
    · simp [h5] at hd
    · exact h5

/-- An order that is ready is handled and answered. -/
theorem takeOrder_ready {s : State} {p : Port} {tag : Byte} {o : Order} {h : State → State × Answer}
    (r : s.ready p tag o) :
    takeOrder p tag o h s = pushReply p (replyTo tag o (h (s.taken p)).2) (h (s.taken p)).1 := by
  unfold takeOrder
  rw [consumed_atHead r.1]
  simp only [taken_failedCheck, failedCheck_ready r]

/-- What the taking of an order can do: nothing, where it is not at the head; the reply of the first check that fails;
or its handling and reply. -/
theorem takeOrder_cases (p : Port) (tag : Byte) (o : Order) (h : State → State × Answer) (s : State) :
    takeOrder p tag o h s = s
      ∨ (s.atHead p tag o ∧ ∃ x, s.failedCheck p o (s.port p).preface = some x
          ∧ takeOrder p tag o h s = failOrder p tag o x (s.taken p))
      ∨ (s.atHead p tag o ∧ s.failedCheck p o (s.port p).preface = none
          ∧ takeOrder p tag o h s = pushReply p (replyTo tag o (h (s.taken p)).2) (h (s.taken p)).1) := by
  by_cases ha : s.atHead p tag o
  · right
    unfold takeOrder
    rw [consumed_atHead ha]
    simp only [taken_failedCheck]
    cases hf : s.failedCheck p o (s.port p).preface with
    | none => exact .inr ⟨ha, rfl, rfl⟩
    | some x => exact .inl ⟨ha, x, rfl, rfl⟩
  · left
    unfold takeOrder consumed leaveQueue
    rcases hq : (s.port p).queue with _ | ⟨q, rest⟩
    · exact absurd (.inl hq) ha
    · have hne : q ≠ { tag, order := o } := fun e => ha (.inr (by simp [hq, e]))
      simp [hne]

/-- The taking of an order keeps what port updates, the PROTECT record and the handler keep. -/
theorem takeOrder_keeps {γ : Type} {g : State → γ} {p : Port} {tag : Byte} {o : Order} {h : State → State × Answer}
    (hp : ∀ p f s, g (modPort p f s) = g s)
    (hf : ∀ tag s, g (storeFault .protect .notice .none (some tag) s) = g s)
    (hh : ∀ t, g (h t).1 = g t) (s : State) : g (takeOrder p tag o h s) = g s := by
  have ht : g (s.taken p) = g s := hp p (fun _ => { s.port p with
    queue := (s.port p).queue.tail
    headTicks := if (s.port p).queue = [] then (s.port p).headTicks else 0
    preface := none }) s
  have hr : ∀ p r t, g (pushReply p r t) = g t := fun p r t =>
    hp p (fun c => { c with outbound := c.outbound ++ [OutFrame.reply r] }) t
  rcases takeOrder_cases p tag o h s with e | ⟨-, x, -, e⟩ | ⟨-, -, e⟩
  · rw [e]
  · rw [e]
    unfold failOrder
    dsimp only
    split
    · rw [hr, hf, ht]
    · rw [hr, ht]
  · rw [e, hr, hh, ht]

@[simp] theorem taken_aut (s : State) (p : Port) : (s.taken p).aut = s.aut := rfl
@[simp] theorem taken_axl (s : State) (p : Port) : (s.taken p).axl = s.axl := rfl
@[simp] theorem taken_pth (s : State) (p : Port) : (s.taken p).pth = s.pth := rfl
@[simp] theorem taken_eff (s : State) (p : Port) : (s.taken p).eff = s.eff := rfl
@[simp] theorem taken_jct (s : State) (p : Port) : (s.taken p).jct = s.jct := rfl
@[simp] theorem taken_loop (s : State) (p : Port) : (s.taken p).loop = s.loop := rfl
@[simp] theorem taken_stp (s : State) (p : Port) : (s.taken p).stp = s.stp := rfl
@[simp] theorem taken_snd (s : State) (p : Port) : (s.taken p).snd = s.snd := rfl
@[simp] theorem taken_flt (s : State) (p : Port) : (s.taken p).flt = s.flt := rfl
@[simp] theorem taken_pending (s : State) (p : Port) : (s.taken p).pending = s.pending := rfl
@[simp] theorem taken_clock (s : State) (p : Port) : (s.taken p).clock = s.clock := rfl
@[simp] theorem taken_run (s : State) (p : Port) : (s.taken p).ord.run = s.ord.run := rfl
@[simp] theorem taken_config (s : State) (p : Port) : (s.taken p).ord.config = s.ord.config := rfl
@[simp] theorem taken_waiting (s : State) (p : Port) : (s.taken p).ord.waiting = s.ord.waiting := rfl
@[simp] theorem taken_standstill (s : State) (p : Port) : (s.taken p).standstill = s.standstill := rfl
@[simp] theorem taken_liveEnd (s : State) (p : Port) : (s.taken p).liveEnd = s.liveEnd := rfl

/-- A FINAL reply is the frame that a handled order's answer makes. -/
theorem pushReply_final (p : Port) (tag : Byte) (o : Order) (x : Status) (r : Results) (s : State) :
    pushReply p (replyTo tag o { status := x, stage := .final, results := r }) s = s.sent p (finalReply tag o x r) := rfl

/-- An acceptance is the frame that a deferred order's answer makes. -/
theorem pushReply_accepted (p : Port) (tag : Byte) (o : Order) (r : Results) (s : State) :
    pushReply p (replyTo tag o (acceptedWith r)) s = s.sent p (acceptance tag o r) := rfl

end Sys2Proof.Machine
end

