-- ==== Sys2Proof/Laws/PerInstr.lean ====
section
/-! SUPPORT. Laws/PerInstr.lean: the family WireTaking, one lemma for each command: where the command is the taking of an
order, the order's code byte and payload bytes (spec 11.2) spell that order with every operand, and the command is
well formed. -/

namespace Sys2Proof.Machine

theorem word16_leBytes (w : BitVec 16) : word16 (BitVec.ofNat 8 w.toNat) (BitVec.ofNat 8 (w.toNat / 256)) = w := by
  apply BitVec.eq_of_toNat_eq
  have h := w.isLt
  simp only [word16, BitVec.toNat_ofNat]
  omega

theorem word24_leBytes (w : BitVec 24) :
    word24 (BitVec.ofNat 8 w.toNat) (BitVec.ofNat 8 (w.toNat / 256)) (BitVec.ofNat 8 (w.toNat / 256 / 256)) = w := by
  apply BitVec.eq_of_toNat_eq
  have h := w.isLt
  simp only [word24, BitVec.toNat_ofNat]
  omega

/-- An order's code and payload bytes spell that order. -/
theorem readOrder_payload (o : Order) : readOrder (orderCode o) (orderPayload o) = some o := by
  cases o with
  | retry j => exact congrArg (fun x => some (Order.retry x)) (word16_leBytes j)
  | override j => exact congrArg (fun x => some (Order.override x)) (word16_leBytes j)
  | shift x => exact congrArg (fun x => some (Order.shift x)) (word16_leBytes x)
  | config q v => exact congrArg (fun x => some (Order.config q x)) (word16_leBytes v)
  | planSeal c k => exact congrArg (fun x => some (Order.planSeal c x)) (word16_leBytes k)
  | planPut w =>
    obtain ⟨i, k, id, d, f, x, y⟩ := w
    have e : readOrder 15 (orderPayload (.planPut ⟨i, k, id, d, f, x, y⟩)) =
        some (.planPut ⟨i, k, word16 (BitVec.ofNat 8 id.toNat) (BitVec.ofNat 8 (id.toNat / 256)),
          word24 (BitVec.ofNat 8 d.toNat) (BitVec.ofNat 8 (d.toNat / 256)) (BitVec.ofNat 8 (d.toNat / 256 / 256)), f,
          word16 (BitVec.ofNat 8 x.toNat) (BitVec.ofNat 8 (x.toNat / 256)),
          word16 (BitVec.ofNat 8 y.toNat) (BitVec.ofNat 8 (y.toNat / 256))⟩) := rfl
    rw [word16_leBytes, word16_leBytes, word16_leBytes, word24_leBytes] at e
    exact e
  | _ => rfl

/-- The taking of an order is a command that the inputs can carry. -/
theorem takingCommand_wellFormed (p : Port) (q : QueuedOrder) : (takingCommand p q).wellFormed = true := by
  obtain ⟨tag, o⟩ := q
  cases o <;> rfl

end Sys2Proof.Machine

namespace Sys2Proof.Laws.WireTaking

open Sys2Proof.Machine

/-- Where a command is the taking of an order, it is well formed and the order's wire form spells the order. -/
def Statement (i : Instr) : Prop :=
  ∀ (p : Port) (q : QueuedOrder), takingCommand p q = i →
    i.wellFormed = true ∧ readOrder (orderCode q.order) (orderPayload q.order) = some q.order

theorem every_command (i : Instr) : Statement i := by
  rintro p q rfl
  exact ⟨takingCommand_wellFormed p q, readOrder_payload q.order⟩

theorem coldReset : Statement (.coldReset) :=
  every_command _

theorem axlePulse (axle : Axle) (active : Bool) : Statement (.axlePulse axle active) :=
  every_command _

theorem countClose : Statement (.countClose) :=
  every_command _

theorem emergencyInput (cab : CabEnd) (active : Bool) : Statement (.emergencyInput cab active) :=
  every_command _

theorem buttonSample (levels : List Bool) : Statement (.buttonSample levels) :=
  every_command _

theorem buttonStuck (button : Nat) : Statement (.buttonStuck button) :=
  every_command _

theorem rampStowedChange (stowed : Bool) : Statement (.rampStowedChange stowed) :=
  every_command _

theorem handoverTimerExpiry : Statement (.handoverTimerExpiry) :=
  every_command _

theorem silenceTimerExpiry : Statement (.silenceTimerExpiry) :=
  every_command _

theorem vigilanceTimerExpiry : Statement (.vigilanceTimerExpiry) :=
  every_command _

theorem exchangeTimerExpiry (junction : Nat) : Statement (.exchangeTimerExpiry junction) :=
  every_command _

theorem stepExpiry (channel : Channel) : Statement (.stepExpiry channel) :=
  every_command _

theorem bellStrokeEnd : Statement (.bellStrokeEnd) :=
  every_command _

theorem hornMinimum : Statement (.hornMinimum) :=
  every_command _

theorem gapEnd : Statement (.gapEnd) :=
  every_command _

theorem transmissionCompletion : Statement (.transmissionCompletion) :=
  every_command _

theorem inboundFrameCutOff : Statement (.inboundFrameCutOff) :=
  every_command _

theorem inboundGapEnd : Statement (.inboundGapEnd) :=
  every_command _

theorem accept (tram : BitVec 14) (junction : BitVec 12) (number : BitVec 4) : Statement (.accept tram junction number) :=
  every_command _

theorem setLocked (tram : BitVec 14) (junction : BitVec 12) (number : BitVec 4) : Statement (.setLocked tram junction number) :=
  every_command _

theorem refuse (tram : BitVec 14) (junction : BitVec 12) (number : BitVec 4) (reason : BitVec 3) : Statement (.refuse tram junction number reason) :=
  every_command _

theorem lockLost (tram : BitVec 14) (junction : BitVec 12) (number : BitVec 4) : Statement (.lockLost tram junction number) :=
  every_command _

theorem fix (junction : BitVec 12) : Statement (.fix junction) :=
  every_command _

theorem frameArrival (port : Port) (frame : List Byte) : Statement (.frameArrival port frame) :=
  every_command _

theorem orderFrameCutOff (port : Port) : Statement (.orderFrameCutOff port) :=
  every_command _

theorem key (port : Port) (tag state : Byte) : Statement (.key port tag state) :=
  every_command _

theorem claim (port : Port) (tag : Byte) : Statement (.claim port tag) :=
  every_command _

theorem lever (port : Port) (tag l grip selector : Byte) : Statement (.lever port tag l grip selector) :=
  every_command _

theorem ack (port : Port) (tag : Byte) : Statement (.ack port tag) :=
  every_command _

theorem doors (port : Port) (tag sides ramp : Byte) : Statement (.doors port tag sides ramp) :=
  every_command _

theorem close (port : Port) (tag : Byte) : Statement (.close port tag) :=
  every_command _

theorem bell (port : Port) (tag operand : Byte) : Statement (.bell port tag operand) :=
  every_command _

theorem horn (port : Port) (tag operand : Byte) : Statement (.horn port tag operand) :=
  every_command _

theorem retry (port : Port) (tag : Byte) (junction : BitVec 16) : Statement (.retry port tag junction) :=
  every_command _

theorem override (port : Port) (tag : Byte) (junction : BitVec 16) : Statement (.override port tag junction) :=
  every_command _

theorem shift (port : Port) (tag : Byte) (correction : BitVec 16) : Statement (.shift port tag correction) :=
  every_command _

theorem config (port : Port) (tag parameter : Byte) (value : BitVec 16) : Statement (.config port tag parameter value) :=
  every_command _

theorem configDone (port : Port) (tag : Byte) : Statement (.configDone port tag) :=
  every_command _

theorem planClear (port : Port) (tag : Byte) : Statement (.planClear port tag) :=
  every_command _

theorem planClearCompletion : Statement (.planClearCompletion) :=
  every_command _

theorem planPut (port : Port) (tag : Byte) (waypoint : WaypointPayload) : Statement (.planPut port tag waypoint) :=
  every_command _

theorem planSeal (port : Port) (tag count : Byte) (check : BitVec 16) : Statement (.planSeal port tag count check) :=
  every_command _

theorem planSealCompletion : Statement (.planSealCompletion) :=
  every_command _

theorem planSwitch (port : Port) (tag : Byte) : Statement (.planSwitch port tag) :=
  every_command _

theorem planWithdraw (port : Port) (tag : Byte) : Statement (.planWithdraw port tag) :=
  every_command _

theorem doorState (port : Port) (tag locked : Byte) : Statement (.doorState port tag locked) :=
  every_command _

theorem sound (port : Port) (tag program : Byte) : Statement (.sound port tag program) :=
  every_command _

theorem soundBreak (port : Port) (tag channel : Byte) : Statement (.soundBreak port tag channel) :=
  every_command _

theorem level (port : Port) (tag level : Byte) : Statement (.level port tag level) :=
  every_command _

theorem faultTake (port : Port) (tag : Byte) : Statement (.faultTake port tag) :=
  every_command _

theorem readFault (port : Port) (tag position : Byte) : Statement (.readFault port tag position) :=
  every_command _

theorem forceRelease (port : Port) (tag : Byte) : Statement (.forceRelease port tag) :=
  every_command _

theorem cut (port : Port) (tag target number action : Byte) : Statement (.cut port tag target number action) :=
  every_command _

theorem preface (port : Port) (tag code first second third : Byte) : Statement (.preface port tag code first second third) :=
  every_command _

theorem settle (port : Port) (tag : Byte) : Statement (.settle port tag) :=
  every_command _

theorem ident (port : Port) (tag : Byte) : Statement (.ident port tag) :=
  every_command _

theorem restart (port : Port) (tag : Byte) : Statement (.restart port tag) :=
  every_command _

theorem inboundLineChange (change : LineChange) : Statement (.inboundLineChange change) :=
  every_command _

theorem outboundBitTime : Statement (.outboundBitTime) :=
  every_command _

theorem orderLinkByteArrival (port : Port) (byte : Byte) : Statement (.orderLinkByteArrival port byte) :=
  every_command _

theorem outboundFrameSent (port : Port) : Statement (.outboundFrameSent port) :=
  every_command _

end Sys2Proof.Laws.WireTaking
end

