-- ==== Sys2Proof/Tests/Slice0.lean ====
section
/-! SUPPORT. Slice0.lean: small tests. First the checks of WellFormed; then the worked cases of the spec; then, for each
statement with hypotheses, a state and operands that meet them, at boundary values where a clause has a range. -/

namespace Sys2Proof.Tests

-- One test at a time: each waiting kernel evaluation would hold a thread, with its stack.
set_option Elab.async false

open Sys2Proof.Machine

/-! ### WellFormed: a term that each check refuses, and one it admits -/

theorem test_sample_of_25_buttons_refused : (Instr.buttonSample (List.replicate 25 false)).wellFormed = false := by
  decide

theorem test_sample_of_26_buttons_admitted : (Instr.buttonSample (List.replicate 26 false)).wellFormed = true := by
  decide

theorem test_button_0_and_27_refused :
    (Instr.buttonStuck 0).wellFormed = false ∧ (Instr.buttonStuck 27).wellFormed = false := by decide

theorem test_button_1_and_26_admitted :
    (Instr.buttonStuck 1).wellFormed = true ∧ (Instr.buttonStuck 26).wellFormed = true := by decide

theorem test_junction_0_and_4096_refused :
    (Instr.exchangeTimerExpiry 0).wellFormed = false ∧ (Instr.exchangeTimerExpiry 4096).wellFormed = false := by decide

theorem test_junction_1_and_4095_admitted :
    (Instr.exchangeTimerExpiry 1).wellFormed = true ∧ (Instr.exchangeTimerExpiry 4095).wellFormed = true := by decide

theorem test_frame_without_bytes_refused : (Instr.frameArrival .vehicle []).wellFormed = false := by decide

theorem test_frame_of_257_bytes_refused :
    (Instr.frameArrival .vehicle (List.replicate 257 0)).wellFormed = false := by decide +kernel

theorem test_no_word_spells_a_command : decodeTableWord 32 1 = none := rfl

/-! ### States for the tests -/

/-- The state a command answers, where it answers a next one. -/
def after (c : Instr) (s : State) : State :=
  match exec c s with
  | .next t => t
  | .fault _ => s
  | .refused _ => s

/-- In RUN with TRAM_ID 417. -/
def running : State :=
  { State.reset with ord.run := true, ord.config := Table.reset.set .tramId 417 }

/-- In RUN with End 1 live. -/
def driven : State :=
  { running with aut := {
      authority := .live .one, keys := ⟨true, false⟩, keyLost := false, lastLive := some .one, gripHeld := false,
      handover := .stopped, silence := .running 1200 0, vigilance := .stopped } }

/-- A state with the tram moving. -/
def moving (s : State) : State :=
  { s with axl.record := { v := 5000, vDir := 5000, standstill := false, unknown := false, axle := some .a1, nRef := 0 } }

/-- A state with an order at the head of a port's queue, and its preface record where the order is protected. -/
def ordered (p : Port) (tag : Byte) (o : Order) (s : State) : State :=
  s.setPort p { s.port p with
    queue := [{ tag, order := o }]
    preface := if isProtected o then some { code := codeByte o, payload := orderPayload o } else none }

/-- A junction part in a state, with exchange number 3. -/
def junctionIn (state : JunctionState) (timer : Timer) : Junction :=
  { newJunction .left 400 1500 with state, number := 3, timer }

/-- A junction entry. -/
def junctionEntry (id distance : Nat) (j : Junction) : Entry :=
  { id, distance, point := .junction j }

/-- A stop entry. -/
def stopEntry (id distance : Nat) : Entry :=
  { id, distance, point := .stop (newStop .request .left) }

/-- Slots that begin with these entries. -/
def slotsOf (es : List Entry) : List (Option Entry) :=
  es.map some ++ List.replicate (64 - es.length) none

/-- A state with a live plan in bank A. -/
def withPlan (es : List Entry) (s : State) : State :=
  { s with pth.bankA := { state := .live, slots := slotsOf es }, pth.standby := .bankB }

/-- The last frame made for a port. -/
def lastFrame (p : Port) (s : State) : Option OutFrame :=
  (s.port p).outbound.getLast?

/-! ### Worked cases of the spec -/

/-- 2.3, "the check of a two-entry plan". -/
def checkedPlan : List Entry :=
  [{ id := 12, distance := 150000, point := .stop (newStop .always .right) },
   { id := 301, distance := 190500, point := .junction (newJunction .left 4000 4170) }]

theorem test_check_words : checkedPlan.map checkWords = [[8204, 2, 18928, 5120, 0], [4397, 2, 59428, 4496, 4170]] := by
  decide

theorem test_plan_check_39212 : planCheck checkedPlan = 39212 := by decide

theorem test_seal_results :
    sealResult (slotsOf checkedPlan) 2 39212 = none ∧ sealResult (slotsOf checkedPlan) 2 39211 = some .check
      ∧ sealResult (slotsOf checkedPlan) 3 39212 = some .gap := by decide +kernel

/-- 2.6, "counting position": the four count closes. -/
theorem test_position_counts :
    let go := fun (n : Int) (x : Nat × Nat) => advanced { State.reset with
      axl.record.nRef := n, ord.config := Table.reset.set .pulseDist 4870, pth.p := x.1, pth.rem := x.2 }
    go 9 (100000, 0) = (100004, 3830) ∧ go 11 (100004, 3830) = (100009, 7400) ∧ go 0 (100009, 7400) = (100009, 7400)
      ∧ go (-3) (100009, 7400) = (100007, 2010) := by decide +kernel

/-- 3.7, "one count close under power". -/
def powered : PerAxle AxleState :=
  let axle := fun (w : Window) => closeAxle 5000 .one { AxleState.reset with net := w.c4, window := ⟨0, w.c0, w.c1, w.c2, w.c3⟩ }
  ⟨axle ⟨8, 8, 8, 8, 8⟩, axle ⟨8, 8, 8, 9, 8⟩, axle ⟨8, 8, 8, 8, 8⟩, axle ⟨10, 10, 11, 10, 11⟩⟩

theorem test_axle_speeds : powered.list.map (fun x => x.2.speed) = [2000, 2050, 2000, 2600] := by decide +kernel

theorem test_record_under_power :
    speedRecord 400 .one powered
      = { v := 2000, vDir := 2000, standstill := false, unknown := false, axle := some .a1, nRef := 8 } := by
  decide +kernel

theorem test_slip_under_power :
    slipResult 400 (speedRecord 400 .one powered) 1980 powered .b1 = .notSlipping
      ∧ slipResult 400 (speedRecord 400 .one powered) 1980 powered .b2 = .slipping
      ∧ (reviseAdhesion .slipping BogieState.reset).adhesion = 875 := by decide +kernel

theorem test_midpoint_reference :
    (speedRecord 0 .one powered).axle = some .a2 ∧ (speedRecord 0 .one powered).vDir = 2300
      ∧ (speedRecord (-400) .one powered).axle = some .a4 := by decide +kernel

/-- 4.1, the table of D. -/
theorem test_lever_demands :
    formD 5 .forward = 8 ∧ formD 10 .forward = 49 ∧ formD 64 .forward = 488 ∧ formD 80 .forward = 618
      ∧ formD (-40) .forward = -293 ∧ formD 127 .reverse = 1000 ∧ formD (-127) .forward = -1000
      ∧ formD 4 .forward = 0 ∧ formD 80 .neutral = 0 := by decide

/-- 4.5, "one count close under power, and three more". -/
theorem test_codes_under_power :
    jerkLimit 25 50 400 618 = 425 ∧ bogieShare 425 875 = 371 ∧ codeWord (-3) 425 = 2915 ∧ codeWord (-3) 371 = 2804
      ∧ codeWord (-3) (bogieShare 450 885) = 2860 ∧ codeWord (-3) 500 = 3069 := by decide

/-- 4.5, "from power to brake". -/
theorem test_power_to_brake :
    jerkLimit 25 50 60 (-300) = 10 ∧ jerkLimit 25 50 10 (-300) = 0 ∧ jerkLimit 25 50 0 (-300) = -25
      ∧ jerkLimit 25 50 (-275) (-300) = -300 ∧ codeWord (-3) (-75) = 1891 ∧ codeWord (-3) (-300) = 1431 := by decide

/-- 4.5, "Limit cases of the code". -/
theorem test_code_limits :
    codeWord (-16) (-1000) = 1 ∧ codeWord 15 1000 = 4095 ∧ codeWord (-16) 1000 = 4079 ∧ codeWord 15 (-1000) = 16
      ∧ codeWord 0 (bogieShare (-1000) 250) = 1536 ∧ codeWord 0 500 = 3072 ∧ codeWord 0 (-500) = 1024
      ∧ codeWord 0 (-1) = 2046 ∧ codeWord 0 (bogieShare 1 250) = 2048 := by decide

/-- 6.4, "six bits on the lines": data and strobe after each bit. -/
theorem test_six_bits_on_the_lines :
    let line := fun (x : Loop) (b : Bool) => driveBit b x
    let lines := fun (n : Nat) =>
      let x := ([true, true, false, false, false, true].take n).foldl line Loop.reset
      (x.data, x.strobe)
    lines 1 = (true, false) ∧ lines 2 = (true, true) ∧ lines 3 = (false, true) ∧ lines 4 = (false, false)
      ∧ lines 5 = (false, true) ∧ lines 6 = (true, true) := by decide

/-- 10.7, "configuring after power-on": JERK_UP 300 is clamped to 200, TRIM −3 is taken. -/
theorem test_configuring :
    (after (.config .vehicle 1 5 300) State.reset).ord.config.jerkUp = 200
      ∧ (after (.config .vehicle 1 4 65533) State.reset).ord.config.trim = -3
      ∧ (after (.config .vehicle 1 11 600) running).ord.waiting.stopWindow = some 600
      ∧ (after (.config .vehicle 1 11 600) running).ord.config.stopWindow = 500 := by decide +kernel

/-- 10.7: CONFIG_DONE is REFUSED with TRAM_ID 0, and enters RUN once it is set. -/
theorem test_config_done :
    (after (.configDone .vehicle 2) State.reset).ord.run = false
      ∧ (after (.configDone .vehicle 2) (after (.config .vehicle 1 3 417) State.reset)).ord.run = true := by
  decide +kernel

/-- 10.7: a CLAIM on the vehicle link fails check 1, PLAN_CLEAR in UNCONFIGURED check 2. -/
theorem test_checks_in_order :
    lastFrame .vehicle (after (.claim .vehicle 1) State.reset) = some (finalReply 1 .claim .wrongPort .none)
      ∧ lastFrame .vehicle (after (.planClear .vehicle 1) State.reset)
        = some (finalReply 1 .planClear .unconfigured (.plan .bankA .empty)) := by decide +kernel

/-- 11.1, R201: a KEY ON frame, its bytes one after another, joins the End 1 queue. -/
theorem test_key_frame_arrives :
    ((after (.frameArrival .end1 (orderFrame 9 (.key 1))) State.reset).port .end1).queue
      = [{ tag := 9, order := .key 1 }] := by decide +kernel

/-- R195, 11.3: IDENT's ten bytes; 1402 is 5 × 256 + 122. -/
theorem test_ident_bytes : resultBytes .ident = [122, 5, 2, 3, 64, 16, 8, 4, 26, 10] := by decide

/-- 11.4: a picture's body has 49 bytes, 11.6: a fault record 15. -/
theorem test_layout_lengths :
    (pictureBody State.reset.picture).length = 49
      ∧ (faultBytes (newRecord .protect .notice .none (some 1) State.reset)).length = 15 := by decide +kernel

/-! ### Witnesses: hypotheses of the statements met, AXL and PTH -/

theorem test_meets_StepTakesTheFrontCommand :
    ({ State.reset with pending := [.coldReset, .gapEnd] }).pending = .coldReset :: [.gapEnd] := rfl

theorem test_meets_AnEmptyQueueLetsOneTickPass : State.reset.pending = [] := rfl

/-- A driven tram whose axles have had these counts in every period, with E. An axle's speed is 250 times its count. -/
def rolling (c1 c2 c3 c4 e : Int) : State :=
  let axle := fun (c : Int) => { AxleState.reset with net := c, window := ⟨c, c, c, c, c⟩ }
  { driven with axl.axles := ⟨axle c1, axle c2, axle c3, axle c4⟩, eff.e := e }

/-- The marks of axles 3 and 4, axles 1 and 2 being CUT. -/
def marked (m3 m4 : AxleMark) (s : State) : State :=
  { s with
    axl.axles.a1.mark := .cut
    axl.axles.a2.mark := .cut
    axl.axles.a3.mark := m3
    axl.axles.a4.mark := m4 }

/-- The reference axle under power, under brake and at E = 0, where 2250 is as far from 2000 as from 2500; under UNKNOWN
with an axle that is FAULTY; and with every axle CUT (R50, R51). -/
theorem test_meets_CountClosePublishesTheSpeed :
    (∀ x ∈ [((1 : Int), Axle.a1), (-1, .a4), (0, .a1)],
      (rolling 8 8 8 10 x.1).eff.e = x.1 ∧ (after .countClose (rolling 8 8 8 10 x.1)).axl.record.unknown = false
        ∧ (after .countClose (rolling 8 8 8 10 x.1)).axl.record.axle = some x.2)
      ∧ (∀ x ∈ [(AxleMark.faulty, some Axle.a4), (.valid, some .a4), (.cut, none)],
        (after .countClose (marked .cut x.1 (rolling 8 8 8 10 0))).axl.record.unknown = true
          ∧ (after .countClose (marked .cut x.1 (rolling 8 8 8 10 0))).axl.record.axle = x.2) := by decide +kernel

/-- The implausibility test with two other axles above 2000 (2250), and at 2000; run counters 98 and 99 (R49). -/
theorem test_meets_CountClosePublishesTheSpeed_test :
    ∀ x ∈ [((9 : Int), 98, AxleMark.valid, 99), (9, 99, .faulty, 0), (8, 99, .valid, 0)],
      let s := { rolling x.1 x.1 0 x.1 0 with axl.axles.a3.run := x.2.1 }
      s.markOf .a3 = .valid ∧ ((after .countClose s).speedOf .a3).natAbs < 100
        ∧ (after .countClose s).markOf .a3 = x.2.2.1 ∧ ((after .countClose s).axl.axles.get .a3).run = x.2.2.2 := by
  decide +kernel

/-- v risen by 61 and by 60 under power; brake; E = 0; a bogie without a VALID axle takes the other's result (R53, R54). -/
theorem test_meets_AdhesionFollowsSlip :
    ∀ x ∈ [((1 : Int), 1939, SlipResult.slipping, SlipResult.slipping), (1, 1940, .notSlipping, .slipping),
        (-1, 0, .slipping, .slipping), (0, 0, .notSlipping, .notSlipping)],
      let t := after .countClose { rolling 8 8 8 10 x.1 with axl.record.v := x.2.1 }
      t.axl.record.unknown = false ∧ (t.axl.bogie .b1).slip = x.2.2.1 ∧ (t.axl.bogie .b2).slip = x.2.2.2 := by
  decide +kernel

theorem test_meets_AdhesionFollowsSlip_other :
    let t := after .countClose (marked .valid .valid (rolling 8 8 8 10 (-1)))
    t.axl.record.unknown = false ∧ (∀ a ∈ [Axle.a1, .a2], t.markOf a ≠ .valid) ∧ bogieOfAxle .a4 = .b2
      ∧ t.markOf .a4 = .valid ∧ (t.axl.bogie .b1).slip = .slipping := by decide +kernel

theorem test_meets_CutTakesOutOfService :
    ∀ x ∈ [((0 : Byte), (1 : Byte), (0 : Byte)), (0, 4, 0), (0, 1, 1), (0, 4, 1), (1, 1, 0), (1, 2, 0), (1, 1, 1), (1, 2, 1)],
      (ordered .end1 7 (.cut x.1 x.2.1 x.2.2) driven).ready .end1 7 (.cut x.1 x.2.1 x.2.2)
        ∧ (x.1 = 0 → ∃ a ∈ [Axle.a1, Axle.a4], x.2.1.toNat = axleNumber a) := by decide +kernel

/-- Targets, actions and numbers one beyond their codes: axles 0 and 5, bogies 0 and 3 (R48, R202). -/
theorem test_meets_CutTakesOutOfService_refused :
    ∀ o ∈ [Order.cut 2 1 0, .cut 0 1 2, .cut 0 0 0, .cut 0 5 1, .cut 1 0 0, .cut 1 3 1],
      (ordered .end1 7 o driven).ready .end1 7 o
        ∧ lastFrame .end1 (after (takingCommand .end1 { tag := 7, order := o }) (ordered .end1 7 o driven))
          = some (finalReply 7 o .refused .none) := by decide +kernel

/-- Count closes with no pulses, and with 7 pulses either way. -/
theorem test_meets_PositionAdvancesWithThePulses :
    let at7 := fun (n : Int) => { State.reset with axl.axles := State.reset.axl.axles.map fun x => { x with net := n } }
    ∀ n ∈ [(0 : Int), 7, -7], (at7 n).pth.pendingSwitch = false
      ∧ (after .countClose (at7 n)).axl.record.nRef = n := by decide +kernel

/-- A count close that moves p from 0 to 4: a request point at 4 fires, one at 5 does not (R36). -/
theorem test_meets_PositionAdvancesWithThePulses_marks :
    ∀ x ∈ [(404, 1), (405, 0)],
      let s := withPlan [junctionEntry 5 x.1 (newJunction .left 400 1500)] (rolling 8 8 8 8 0)
      s.liveBank = some .bankA ∧ s.pth.p = 0 ∧ s.beforeSwitch.pth.p = 4
        ∧ (after .countClose s).loop.queue.length = x.2 := by decide +kernel

theorem test_meets_ShiftMovesThePosition (x : BitVec 16) :
    (ordered .end1 7 (.shift x) driven).ready .end1 7 (.shift x)
      ∧ (ordered .end1 7 (.shift x) (moving driven)).ready .end1 7 (.shift x) :=
  ⟨⟨.inr rfl, rfl, .inl rfl, .inl rfl, nofun, fun _ => .inr rfl⟩,
    ⟨.inr rfl, rfl, .inl rfl, .inl rfl, nofun, fun _ => .inr rfl⟩⟩

/-- 5000 and −5000 (60536) are taken at standstill; 5001, −5001 (60535) and a moving tram are not. -/
theorem test_shift_operands_at_the_bounds :
    (5000 : BitVec 16).toInt = 5000 ∧ (60536 : BitVec 16).toInt = -5000 ∧ (5001 : BitVec 16).toInt = 5001
      ∧ (60535 : BitVec 16).toInt = -5001 ∧ driven.standstill = true ∧ (moving driven).standstill = false := by
  decide

/-- A junction 1500 cm ahead, one 1501 cm ahead, an unknown id, one behind, and no live plan. -/
theorem test_meets_FixSetsThePosition :
    (5 : BitVec 12) ≠ 0 ∧ running.liveBank = none
      ∧ (withPlan [junctionEntry 5 1500 (junctionIn .waiting .stopped)] running).liveJunction 5
        = some (.bankA, 0, junctionEntry 5 1500 (junctionIn .waiting .stopped))
      ∧ (withPlan [junctionEntry 5 1501 (junctionIn .waiting .stopped)] running).liveJunction 5
        = some (.bankA, 0, junctionEntry 5 1501 (junctionIn .waiting .stopped))
      ∧ (withPlan [] running).liveBank ≠ none ∧ (withPlan [] running).liveJunction 5 = none
      ∧ 1500 < (((1501 : Nat) : Int) - (running.pth.p : Int)).natAbs
      ∧ (((1500 : Nat) : Int) - (running.pth.p : Int)).natAbs ≤ 1500
      ∧ ({ withPlan [junctionEntry 5 1500 (junctionIn .waiting .stopped)] running with pth.p := 3000 }).liveJunction 5
        = some (.bankA, 0, junctionEntry 5 1500 (junctionIn .waiting .stopped)) := by decide +kernel

/-- A state whose standby bank A is in a bank state, with an order in the vehicle link's slot or none. -/
def standbyIn (state : BankState) (slot : Option Deferred) (s : State) : State :=
  let s : State := { s with pth.bankA := { state, slots := slotsOf checkedPlan } }
  s.setPort .vehicle { s.port .vehicle with slot := slot.map fun o => { tag := 4, order := o, bank := .bankA } }

theorem test_meets_PlanClearEmptiesTheStandbyBank :
    (∀ o ∈ [none, some Deferred.planSeal],
      (ordered .vehicle 7 .planClear (standbyIn .ready o running)).ready .vehicle 7 .planClear)
      ∧ ((standbyIn .clearing (some .planClear) running).bank .bankA).state = .clearing
      ∧ (standbyIn .clearing (some .planClear) running).pth.standby = .bankA
      ∧ ((standbyIn .clearing (some .planClear) running).port .vehicle).slot
        = some { tag := 4, order := .planClear, bank := .bankA } := by decide +kernel

/-- What PLAN_PUT of a record into a FILLING bank is answered. -/
def putAnswer (w : WaypointPayload) : Option OutFrame :=
  lastFrame .vehicle (after (.planPut .vehicle 7 w) (standbyIn .filling none running))

/-- Records at the bounds of every field: all are written. -/
def goodRecords : List WaypointPayload :=
  [⟨63, 1, 4095, 16777215, 0, 100, 1000⟩, ⟨0, 1, 1, 0, 2, 20000, 8400⟩, ⟨5, 2, 1, 0, 0, 0, 0⟩, ⟨5, 2, 1, 0, 2, 258, 9⟩]

/-- Records with one field outside its range, or another kind: none is written. -/
def badRecords : List WaypointPayload :=
  [⟨64, 2, 1, 0, 0, 0, 0⟩, ⟨0, 2, 0, 0, 0, 0, 0⟩, ⟨0, 2, 4096, 0, 0, 0, 0⟩, ⟨0, 0, 1, 0, 0, 100, 1000⟩,
    ⟨0, 3, 1, 0, 0, 100, 1000⟩, ⟨0, 1, 1, 0, 3, 100, 1000⟩, ⟨0, 1, 1, 0, 0, 99, 1000⟩, ⟨0, 1, 1, 0, 0, 20001, 1000⟩,
    ⟨0, 1, 1, 0, 0, 100, 999⟩, ⟨0, 1, 1, 0, 0, 100, 8401⟩, ⟨0, 2, 1, 0, 3, 0, 0⟩, ⟨0, 2, 1, 0, 0, 3, 0⟩]

theorem test_meets_PlanPutWritesOneEntry :
    (∀ w ∈ goodRecords ++ badRecords, ∀ b ∈ [BankState.filling, .clearing, .ready],
      (ordered .vehicle 7 (.planPut w) (standbyIn b none running)).ready .vehicle 7 (.planPut w)
        ∧ ((standbyIn b none running).bank .bankA).state = b)
      ∧ ((standbyIn .filling none running).bank .bankA).slots.length = 64
      ∧ (∀ w ∈ goodRecords, putAnswer w = some (finalReply 7 (.planPut w) .done (.plan .bankA .filling)))
      ∧ (∀ w ∈ badRecords, putAnswer w = some (finalReply 7 (.planPut w) .refused (.plan .bankA .filling))) := by
  decide +kernel

/-- The hypotheses on a junction record and on a stop record, at two of those bounds. -/
theorem test_meets_PlanPutWritesOneEntry_fields :
    (∀ w ∈ goodRecords, w.index.toNat ≤ 63 ∧ 1 ≤ w.id.toNat ∧ w.id.toNat ≤ 4095)
      ∧ (∀ w ∈ goodRecords.take 2, w.kind = 1
          ∧ (∃ leg ∈ [Leg.straight, .right], (w.first, leg) ∈ [((0 : Byte), Leg.straight), (1, .left), (2, .right)])
          ∧ 100 ≤ w.second.toNat ∧ w.second.toNat ≤ 20000 ∧ 1000 ≤ w.third.toNat ∧ w.third.toNat ≤ 8400)
      ∧ (∀ w ∈ goodRecords.drop 2, w.kind = 2
          ∧ (∃ m ∈ [StopMode.request, .pass], (w.first, m) ∈ [((0 : Byte), StopMode.request), (1, .always), (2, .pass)])
          ∧ ∃ x ∈ [Side.left, .both], (w.second.toNat % 256, x) ∈ [(0, Side.left), (1, .right), (2, .both)]) := by
  decide +kernel

/-- Counts 1 and 64; the completion of a seal of the checked plan. -/
theorem test_meets_SealingTestsThePlan :
    (∀ n ∈ [(1 : Byte), 64],
      (ordered .vehicle 7 (.planSeal n 5) (standbyIn .filling none running)).ready .vehicle 7 (.planSeal n 5)
        ∧ 1 ≤ n.toNat ∧ n.toNat ≤ 64)
      ∧ ((standbyIn .filling none running).port .vehicle).slot = none
      ∧ ((standbyIn .filling none running).bank .bankA).state = .filling
      ∧ ((standbyIn (.sealing 2 39212) (some .planSeal) running).bank .bankA).state = .sealing 2 39212
      ∧ ((standbyIn (.sealing 2 39212) (some .planSeal) running).port .vehicle).slot
        = some { tag := 4, order := .planSeal, bank := .bankA } := by decide +kernel

/-- BUSY with the slot occupied; REFUSED in another state, and for the counts 0 and 65 (R23). -/
theorem test_meets_SealingTestsThePlan_refused :
    ∀ x ∈ [(BankState.filling, some Deferred.settle, (1 : Byte), Status.busy), (.ready, none, 1, .refused),
        (.filling, none, 0, .refused), (.filling, none, 65, .refused)],
      let s := ordered .vehicle 7 (.planSeal x.2.2.1 5) (standbyIn x.1 x.2.1 running)
      s.ready .vehicle 7 (.planSeal x.2.2.1 5)
        ∧ lastFrame .vehicle (after (.planSeal .vehicle 7 x.2.2.1 5) s)
          = some (finalReply 7 (.planSeal x.2.2.1 5) x.2.2.2 (.plan .bankA x.1)) := by decide +kernel

theorem test_meets_PlanCheckIsOnesComplement :
    (∀ e ∈ checkedPlan, ∀ w ∈ checkWords e, w ≤ 65535)
      ∧ ((newJunction .left 4000 4170).leg, 1) ∈ [(Leg.straight, 0), (.left, 1), (.right, 2)]
      ∧ ((newStop .always .right).mode, 1) ∈ [(StopMode.request, 0), (.always, 1), (.pass, 2)]
      ∧ ((newStop .always .right).side, 1) ∈ [(Side.left, 0), (.right, 1), (.both, 2)] := by decide

/-- A READY standby bank without a live plan, and beside one; a pending switch, and none. -/
theorem test_meets_PlanSwitchTurnsTheBanks :
    (ordered .vehicle 7 .planSwitch (standbyIn .ready none running)).ready .vehicle 7 .planSwitch
      ∧ (standbyIn .ready none running).liveBank = none
      ∧ ((standbyIn .ready none running).bank .bankA).state = .ready
      ∧ ({ standbyIn .ready none running with pth.bankB.state := .live }).liveBank = some .bankB
      ∧ (ordered .vehicle 7 .planSwitch { standbyIn .ready none running with pth.bankB.state := .live }).ready
        .vehicle 7 .planSwitch
      ∧ (∀ b, (ordered .vehicle 7 .planWithdraw { standbyIn .ready (some .planSwitch) running with
          pth.pendingSwitch := b }).ready .vehicle 7 .planWithdraw)
      ∧ ((standbyIn .ready (some .planSwitch) running).port .vehicle).slot
        = some { tag := 4, order := .planSwitch, bank := .bankA } := by decide +kernel

/-- The slot occupied, and a standby bank that is not READY. -/
theorem test_meets_PlanSwitchTurnsTheBanks_refused :
    ∀ s ∈ [standbyIn .ready (some .settle) running, standbyIn .stale none running],
      (ordered .vehicle 7 .planSwitch s).ready .vehicle 7 .planSwitch
        ∧ ((s.port .vehicle).slot ≠ none ∨ (s.bank .bankA).state ≠ .ready) := by decide +kernel

/-- A switch pending from a live plan of one junction in bank B to the checked plan, with a request record. -/
def switching (state : JunctionState) (d : Dwell) (s : State) : State :=
  { standbyIn .ready (some .planSwitch) s with
    pth.bankB := { state := .live, slots := slotsOf [junctionEntry 5 9000 (junctionIn state .stopped), stopEntry 12 9500] }
    pth.pendingSwitch := true
    stp.dwell := d
    stp.request := some ⟨true, false, ⟨true, false, false, false, false, false⟩, 0, 1⟩ }

/-- Each switch condition met and not met at a count close (R27); the switch carries the record to the stop 12 (R30). -/
theorem test_meets_PlanSwitchTurnsTheBanks_close :
    (∀ x ∈ [switching .waiting .running running, switching .passed .dwell running],
      x.pth.pendingSwitch = true ∧ (x.port .vehicle).slot = some { tag := 4, order := .planSwitch, bank := .bankA }
        ∧ x.beforeSwitch.standstill = true ∧ (after .countClose x).liveBank = some .bankA
        ∧ (after .countClose x).stp.request = x.stp.request)
      ∧ ∀ x ∈ [switching .asked .running running, switching .moving .running running, switching .locked .running running,
          switching .waiting .closing running, switching .waiting .unsecured running,
          switching .waiting .running (rolling 1 1 1 1 0)],
        (after .countClose x).liveBank = some .bankB ∧ (after .countClose x).pth.pendingSwitch = true := by decide +kernel

/-! ### Witnesses: JCT and LOOP -/

/-- In RUN with one junction of the live plan, id 5 at 1000 cm, in a state. -/
def facing (state : JunctionState) (timer : Timer) : State :=
  withPlan [junctionEntry 5 1000 (junctionIn state timer)] running

theorem facing_hasJunction (state : JunctionState) (timer : Timer) :
    (facing state timer).hasJunction 5 .bankA 0 (junctionEntry 5 1000 (junctionIn state timer)) (junctionIn state timer) :=
  ⟨rfl, rfl⟩

/-- SHIFT by 1 with a live plan. The marks of a junction: WAITING without a telegram due, with LOOP free and with a telegram
of its id queued; and in another state. Both kinds of leg. -/
theorem test_meets_ShiftMovesThePosition_increase :
    let s := ordered .end1 7 (.shift 1) { facing .waiting .stopped with aut := driven.aut }
    s.ready .end1 7 (.shift 1) ∧ s.standstill = true ∧ s.liveBank = some .bankA ∧ s.pth.p = 0
      ∧ (after (.shift .end1 7 1) s).pth.p = 1 := by decide +kernel

theorem test_meets_ShiftMovesThePosition_marks :
    (∀ x ∈ [JunctionState.waiting, .asked, .passed],
      (facing x .stopped).liveBank = some .bankA
        ∧ (facing x .stopped).entryAt .bankA 0 = some (junctionEntry 5 1000 (junctionIn x .stopped)))
      ∧ (junctionIn .waiting .stopped).due = [] ∧ (facing .waiting .stopped).loop.queue = []
      ∧ (junctionIn .waiting .stopped).leg = .left ∧ (newJunction .straight 400 1500).leg = .straight
      ∧ (fireMark .bankA (facing .waiting .stopped) (.request 0)).loop.queue.length = 1
      ∧ (fireMark .bankA { facing .waiting .stopped with
          loop.queue := [⟨⟨.cancel, 417, 5, 2⟩, .bankA, 0, true⟩] } (.request 0)).loop.queue.length = 1 := by
  decide +kernel

/-- A clearance in each state: with LOOP free, with a telegram of the id queued that is in transmission, and with its REQUEST
queued behind another, which merges. -/
theorem test_meets_FixSetsThePosition_clearance :
    let request : QueuedTelegram := ⟨⟨.request .left, 417, 5, 3⟩, .bankA, 0, true⟩
    let other : QueuedTelegram := ⟨⟨.cancel, 417, 6, 1⟩, .bankA, 1, true⟩
    (∀ x ∈ [JunctionState.locked, .asked, .moving],
      (facing x .stopped).loop.queue.length < 8
        ∧ (fireMark .bankA (facing x .stopped) (.clearance 0)).loop.queue.length = 1)
      ∧ (∀ x ∈ [JunctionState.waiting, .onSight, .passed, .lost],
        (fireMark .bankA (facing x .stopped) (.clearance 0)).loop.queue.length = 0)
      ∧ (∀ q ∈ ({ facing .asked .stopped with loop.queue := [request], loop.transmitter := .sending 0 } : State).loop.mergeable,
        q.telegram.junction = 5 → isRequest q.telegram = false)
      ∧ (∀ x ∈ [([], Transmitter.idle), ([other], .sending 0)],
        let u := { facing .asked .stopped with loop.queue := x.1 ++ request :: [], loop.transmitter := x.2 }
        isRequest request.telegram = true ∧ (∀ q ∈ x.1, q.telegram.junction ≠ 5) ∧ u.dueHeads = []
          ∧ (fireMark .bankA u (.clearance 0)).loop.queue = x.1) := by decide +kernel

/-- A SHIFT from 0 to 5000, over the request point at 600 and the clearance at 4200, sends nothing: the transmitter and the
lines stay as they were (R99). A SHIFT to 600 alone begins the REQUEST (R111). -/
theorem test_a_jump_over_both_marks_sends_nothing :
    let s := { facing .waiting .stopped with aut := driven.aut }
    (s.liveBank = some .bankA ∧ (junctionIn .waiting .stopped).due = [] ∧ s.loop.queue.length < 8 ∧ s.nothingDue
        ∧ s.loop.transmitter = .idle)
      ∧ (after (.shift .end1 7 5000) s).loop = s.loop
      ∧ (after (.shift .end1 7 5000) s).flt.queue.map FaultRecord.kind = [.passedUnlocked, .planEnd]
      ∧ (after (.shift .end1 7 600) s).loop.transmitter = .sending 1
      ∧ (after (.shift .end1 7 600) s).loop.data = true := by decide +kernel

/-- A window end of the target, with a request record and without, and of a stop that is no target; and the plan end. -/
theorem test_meets_FixSetsThePosition_window :
    let u := withPlan [stopEntry 12 500, stopEntry 13 900] driven
    let asked : State :=
      { u with stp.request := some ⟨true, false, ⟨true, false, false, false, false, false⟩, 0, 1⟩ }
    u.liveBank = some .bankA ∧ u.target = some (0, stopEntry 12 500) ∧ u.entryAt .bankA 0 = some (stopEntry 12 500)
      ∧ u.entryAt .bankA 1 = some (stopEntry 13 900)
      ∧ (fireMark .bankA asked (.window 0)).flt.queue.length = 1 ∧ (fireMark .bankA asked (.window 1)).flt.queue = []
      ∧ (fireMark .bankA u (.window 0)).flt.queue = [] ∧ (fireMark .bankA u .planEnd).pth.planEnd = true := by
  decide +kernel

theorem test_meets_AcceptAndSetAdvanceTheExchange :
    (5 : BitVec 12) ≠ 0 ∧ (417 : BitVec 14) ≠ 0
      ∧ ((417 : BitVec 14).toNat : Int) = (facing .asked .stopped).cfg .tramId
      ∧ (facing .moving (.running 24000 5)).hasJunction (5 : BitVec 12).toNat .bankA 0
        (junctionEntry 5 1000 (junctionIn .moving (.running 24000 5))) (junctionIn .moving (.running 24000 5))
      ∧ (facing .asked .stopped).hasJunction (5 : BitVec 12).toNat .bankA 0
        (junctionEntry 5 1000 (junctionIn .asked .stopped)) (junctionIn .asked .stopped)
      ∧ ∀ p, (facing .asked .stopped).settleOutstanding p = false :=
  ⟨by decide, by decide, by decide, facing_hasJunction _ _, facing_hasJunction _ _, fun p => by cases p <;> rfl⟩

/-- A port's settle list that is full, one that holds the id, and one with a place. -/
def fullLists : State :=
  { facing .asked (.running 8000 100) with
    jct.lists := ⟨⟨[1, 2, 3, 4, 6, 7, 8, 9], false⟩, ⟨[5], false⟩, ⟨[1, 2, 3, 4, 6, 7, 8], false⟩⟩ }

theorem test_meets_RefusedAndLostJunctionsAreReported :
    fullLists.hasJunction 5 .bankA 0 (junctionEntry 5 1000 (junctionIn .asked (.running 8000 100)))
        (junctionIn .asked (.running 8000 100))
      ∧ (417 : BitVec 14) ≠ 0 ∧ ((417 : BitVec 14).toNat : Int) = fullLists.cfg .tramId
      ∧ (5 : BitVec 12) ≠ 0 ∧ (5 : BitVec 12).toNat = 5
      ∧ (∀ x ∈ [((1 : BitVec 3), Reason.occupied), (4, .badLeg)],
          x ∈ [((1 : BitVec 3), Reason.occupied), (2, .conflict), (3, .failed), (4, .badLeg)])
      ∧ (∀ p, fullLists.settleOutstanding p = false)
      ∧ (junctionIn .asked (.running 8000 100)).timer ≠ .stopped :=
  ⟨⟨rfl, rfl⟩, by decide, by decide, by decide, rfl, by decide, fun p => by cases p <;> rfl, by decide⟩

/-- End 2's SETTLE outstanding, its list full, while the one junction of the live plan is ASKED with its timer running. -/
def settling : State :=
  let s : State := { facing .asked (.running 8000 100) with jct.lists.end2 := ⟨[1, 2, 3, 4, 6, 7, 8, 9], false⟩ }
  s.setPort .end2 { s.port .end2 with slot := some { tag := 4, order := .settle, bank := .bankB } }

/-- A SET ends the last exchange: the list as it is; a REFUSE or an expiry: the id sets MORE; an ACCEPT leaves the SETTLE
waiting (R101, R102). -/
theorem test_meets_SettleHandsTheListOver_completes :
    (settling.hasJunction 5 .bankA 0 (junctionEntry 5 1000 (junctionIn .asked (.running 8000 100)))
        (junctionIn .asked (.running 8000 100)) ∧ (∀ y ∈ settling.liveEntries, y.1 = 0))
      ∧ (∀ x ∈ [(Instr.setLocked 417 5 3, false), (.refuse 417 5 3 1, true), (.exchangeTimerExpiry 5, true)],
        lastFrame .end2 (after x.1 settling) = some (completionReply 4 28 .done (.settle [1, 2, 3, 4, 6, 7, 8, 9] x.2))
          ∧ ((after x.1 settling).port .end2).slot = none
          ∧ (after x.1 settling).jct.lists.end2 = { ids := [], more := false })
      ∧ (after (.accept 417 5 3) settling).settleOutstanding .end2 = true := by decide +kernel

/-- p at the stand start, 1000 − 800, and one below it. -/
theorem test_meets_LockLostTakesItsClassFromThePosition :
    ∀ p ∈ [200, 199], (5 : BitVec 12) ≠ 0 ∧ (417 : BitVec 14) ≠ 0
      ∧ ((417 : BitVec 14).toNat : Int) = ({ facing .locked .stopped with pth.p := p } : State).cfg .tramId
      ∧ ({ facing .locked .stopped with pth.p := p } : State).hasJunction 5 .bankA 0
        (junctionEntry 5 1000 (junctionIn .locked .stopped)) (junctionIn .locked .stopped)
      ∧ (facing .locked .stopped).flt.latch = false ∧ (∀ r ∈ (facing .locked .stopped).flt.queue, r.acked ≠ some false) := by
  decide +kernel

theorem test_stand_start_is_200 :
    (junctionEntry 5 1000 (junctionIn .locked .stopped)).distance - (facing .locked .stopped).cfgNat .standLen = 200 := by
  decide

theorem facing_state {state : JunctionState} {timer : Timer} {b : BankName} {i : Nat} {e : Entry} {j : Junction}
    (h : (facing state timer).hasJunction 5 b i e j) : j.state = state := by
  obtain ⟨h, hp⟩ := h
  rw [(facing_hasJunction state timer).1] at h
  cases h
  cases hp
  rfl

/-- A junction that waits answers nothing; one that is MOVING takes no ACCEPT. -/
theorem test_meets_StrayAnswersChangeNothing :
    (∀ p, (facing .waiting .stopped).settleOutstanding p = false)
      ∧ (∀ b i e j, (facing .moving .stopped).hasJunction 5 b i e j → j.number = 3 → j.state ≠ .asked)
      ∧ (∀ b i e j, (facing .waiting .stopped).hasJunction 5 b i e j → j.number = 3 → j.state ≠ .asked ∧ j.state ≠ .moving)
      ∧ (∀ b i e j, (facing .waiting .stopped).hasJunction 5 b i e j → j.number = 3 → j.state ≠ .locked) := by
  refine ⟨fun p => by cases p <;> rfl, ?_, ?_, ?_⟩ <;> intro b i e j h _ <;> simp [facing_state h]

/-- The reasons 0 and 5 to 7; a SETTLE outstanding while a junction is ASKED, and no exchange with the number 4. -/
theorem test_meets_StrayAnswersChangeNothing_settle :
    (∀ q ∈ [(0 : BitVec 3), 5, 6, 7], q.toNat = 0 ∨ 4 < q.toNat)
      ∧ settling.settleOutstanding .end2 = true ∧ settling.exchangeInProgress = true
      ∧ (junctionIn .asked (.running 8000 100)).number ≠ 4 := by decide +kernel

/-- An id that the live plan lacks, no live plan, and a junction that is WAITING. -/
theorem test_meets_RetryAsksAgainAndOverrideTakesOnSight_refused :
    ∀ x ∈ [((6 : BitVec 16), facing .lost .stopped), (5, running), (5, facing .waiting .stopped)],
      let s := { x.2 with aut := driven.aut }
      (ordered .end1 7 (.retry x.1) s).ready .end1 7 (.retry x.1)
        ∧ (ordered .end1 7 (.override x.1) s).ready .end1 7 (.override x.1)
        ∧ (∀ y ∈ s.liveJunction x.1.toNat, y.2.2.junction?.map Junction.state = some .waiting)
        ∧ lastFrame .end1 (after (.retry .end1 7 x.1) s) = some (finalReply 7 (.retry x.1) .refused .none) := by
  decide +kernel

/-- LOST and REFUSED; p below 1000 and at 1000; a queue with room, and one that holds a telegram for the junction. -/
theorem test_meets_RetryAsksAgainAndOverrideTakesOnSight (state : JunctionState)
    (_h : state = .lost ∨ ∃ x, state = .refused x) :
    let s := { facing state .stopped with aut := driven.aut }
    s.hasJunction (5 : BitVec 16).toNat .bankA 0 (junctionEntry 5 1000 (junctionIn state .stopped)) (junctionIn state .stopped)
      ∧ (ordered .end1 7 (.retry 5) s).ready .end1 7 (.retry 5)
      ∧ (ordered .end1 7 (.retry 5) { s with pth.p := 1000 }).ready .end1 7 (.retry 5)
      ∧ (ordered .end1 7 (.override 5) s).ready .end1 7 (.override 5)
      ∧ s.pth.p < 1000 ∧ s.loop.queue.length < 8 ∧ (∀ q ∈ s.loop.queue, q.telegram.junction ≠ 5) :=
  ⟨⟨rfl, rfl⟩, ⟨.inr rfl, rfl, .inl rfl, .inl rfl, nofun, fun _ => .inr rfl⟩,
    ⟨.inr rfl, rfl, .inl rfl, .inl rfl, nofun, fun _ => .inr rfl⟩,
    ⟨.inr rfl, rfl, .inl rfl, .inl rfl, fun _ => rfl, fun _ => .inr rfl⟩, Nat.zero_lt_succ _, Nat.zero_lt_succ _, nofun⟩

/-- A telegram in the outbound queue. -/
def queuedAs (kind : TelegramKind) : QueuedTelegram :=
  { telegram := { kind, tram := 417, junction := 5, number := 3 }, bank := .bankA, index := 0, entryStands := true }

/-- The transmitter in a state with one telegram queued. -/
def transmitting (kind : TelegramKind) (transmitter : Transmitter) : State :=
  { facing .asked .stopped with loop.queue := [queuedAs kind], loop.transmitter := transmitter }

theorem test_meets_CompletionStartsTheExchangeTimer :
    (∀ kind ∈ [TelegramKind.request .left, .cancel, .release],
      (transmitting kind (.sending 80)).loop.transmitter = .sending 80
        ∧ (transmitting kind (.sending 80)).loop.queue = [queuedAs kind] ∧ (transmitting kind (.sending 80)).nothingDue)
      ∧ (transmitting (.request .left) (.sending 80)).hasJunction 5 .bankA 0
        (junctionEntry 5 1000 (junctionIn .asked .stopped)) (junctionIn .asked .stopped)
      ∧ (junctionIn .asked .stopped).number = (queuedAs (.request .left)).telegram.number :=
  ⟨by decide +kernel, ⟨rfl, rfl⟩, rfl⟩

/-- A REQUEST reported to an entry that is MOVING; a RELEASE and then a REQUEST due for other junctions, behind six telegrams
and behind seven: the RELEASE is taken, and the REQUEST while there is a place (R90, R109, R113). -/
theorem test_meets_CompletionStartsTheExchangeTimer_due :
    let due := fun (id : Nat) (k : TelegramKind) (n : BitVec 4) =>
      { junctionIn .waiting .stopped with due := [(⟨k, 417, id, n⟩ : Telegram)] }
    let plan := [junctionEntry 5 1000 (junctionIn .moving .stopped), junctionEntry 6 2000 (due 6 (.request .left) 4),
      junctionEntry 7 3000 (due 7 .release 3)]
    ∀ n ∈ [6, 7],
      let rest := (List.range n).map fun k => { queuedAs .cancel with telegram := ⟨.cancel, 417, 20 + k, 1⟩ }
      let s := { withPlan plan running with loop.transmitter := .sending 80, loop.queue := queuedAs (.request .left) :: rest }
      (∀ x ∈ s.dueHeads, x.telegram.kind = .cancel → ∀ y ∈ rest, y.telegram.junction = x.telegram.junction →
          isRequest y.telegram = false)
        ∧ ((after .transmissionCompletion s).loop.queue.drop n).map (fun q => q.telegram.junction)
          = (if n = 6 then [7, 6] else [7])
        ∧ (after .transmissionCompletion s).liveEntries.map (fun x => x.2.junction?.map Junction.timer)
          = s.liveEntries.map (fun x => x.2.junction?.map Junction.timer) := by decide +kernel

/-- A gap with and without a telegram; the bits 0 and 79. -/
theorem test_meets_OneLineChangesAtEachBit :
    ({ running with loop.transmitter := .gap 8 } : State).loop.queue = []
      ∧ (transmitting .cancel (.gap 8)).loop.queue = [queuedAs .cancel]
      ∧ (∀ k ∈ [0, 79], (transmitting .cancel (.sending k)).loop.transmitter = .sending k ∧ k < 80) := by decide

/-- A decoder that is QUIET, in SKIP (as after reset), at bit 15, at bit 16, and one bit before its last but one. -/
theorem test_meets_InboundLinesBringBits :
    State.reset.loop.decoder = .skip
      ∧ (∀ n ∈ [15, 16, 78], (List.replicate n true).length < 79
          ∧ ({ State.reset with loop.decoder := .receiving (List.replicate n true) } : State).loop.decoder
            = .receiving (List.replicate n true))
      ∧ (true = if LineChange.data = .strobe then State.reset.loop.inboundData else !State.reset.loop.inboundData)
      ∧ (false = if LineChange.strobe = .strobe then State.reset.loop.inboundData else !State.reset.loop.inboundData) := by
  decide

theorem test_meets_AFrameOnTheLinesIsDelivered :
    (15 : Nat) < 16 ∧ ({ running with loop.decoder := .quiet } : State).loop.decoder = .quiet := by decide

/-! ### Witnesses: ORD -/

/-- A port whose queue holds `n` IDENT orders. -/
def queueing (n : Nat) : State :=
  State.reset.setPort .end1 { PortContext.reset with queue := List.replicate n { tag := 1, order := .ident } }

theorem test_meets_AnOrderFrameJoinsItsQueue : ((queueing 7).port .end1).queue.length < 8 := by decide

/-- Code 31 is no order's, and KEY's code with no payload is no order's; a queue of 8; a check that is wrong. -/
theorem test_meets_OtherFramesAreDroppedOrAnswered :
    (∀ o : Order, codeByte o = 31 → (orderPayload o).length ≠ ([] : List Byte).length)
      ∧ (∀ o : Order, codeByte o = 1 → (orderPayload o).length ≠ ([] : List Byte).length)
      ∧ 8 ≤ ((queueing 8).port .end1).queue.length
      ∧ ([0, 0] : List Byte) ≠ envelopeCheck [4, 1, 2] ∧ ([1] : List Byte).length ≠ (4 : Byte).toNat := by
  refine ⟨fun o h => ?_, fun o h => ?_, by decide, by decide +kernel, by decide⟩
  · cases o <;> simp [codeByte, orderCode] at h
  · cases o <;> simp [codeByte, orderCode] at h
    simp [orderPayload]

/-- A length byte at the least length 4, and a receiver in each state. -/
theorem test_meets_BytesMakeAFrame :
    (State.reset.port .end1).receiver = .hunting ∧ (4 : Byte) ≠ 165 ∧ 4 ≤ (4 : Byte).toNat
      ∧ ([7, 2, 0, 0] : List Byte).length = (4 : Byte).toNat
      ∧ ((State.reset.setPort .end1 { PortContext.reset with receiver := .started }).port .end1).receiver = .started
      ∧ ((State.reset.setPort .end1 { PortContext.reset with receiver := .collecting 4 [7, 2] }).port .end1).receiver
        = .collecting 4 [7, 2] ∧ ([7, 2] : List Byte).length + 1 < (4 : Byte).toNat := by decide

/-- In HALT, with a LOCKOUT record. -/
def halted : State :=
  { driven with
    flt.halt := true, flt.latch := true, eff.emergencyBrake := true
    flt.queue := [newRecord .lockout .stop .none none running] }

/-- A CLAIM on the vehicle link; a CLAIM in UNCONFIGURED; an ACK in HALT; a CUT without its preface; a LEVER from the end
that is not live. -/
theorem test_meets_ChecksAnswerInOrder :
    (State.reset.atHead .vehicle 1 .claim ∧ portAllows .vehicle .claim = false)
      ∧ (State.reset.atHead .end1 1 .claim ∧ portAllows .end1 .claim = true ∧ State.reset.ord.run = false
          ∧ admittedUnconfigured .claim = false)
      ∧ (halted.atHead .end1 1 .ack ∧ portAllows .end1 .ack = true ∧ halted.ord.run = true ∧ halted.flt.halt = true
          ∧ admittedInHalt .ack = false)
      ∧ (driven.atHead .end1 1 (.cut 0 1 0) ∧ driven.flt.halt = false ∧ isProtected (.cut 0 1 0) = true
          ∧ (driven.port .end1).preface ≠ some { code := 26, payload := [0, 1, 0] })
      ∧ (driven.atHead .end2 1 .close ∧ needsLiveEnd .close = true ∧ deskEnd .end2 ≠ none
          ∧ driven.liveEnd ≠ deskEnd .end2) := by decide

theorem test_meets_EveryOrderIsAnswered :
    (ordered .end1 7 .ident running).atHead .end1 7 .ident ∧ Order.ident ≠ .restart
      ∧ ∀ c x y z, Order.ident ≠ .preface c x y z := ⟨.inr rfl, nofun, nofun⟩

theorem test_meets_PrefaceSetsTheRecord :
    ∀ c ∈ [(10 : Byte), 26, 24, 25], (ordered .end2 7 (.preface c 1 2 3) running).ready .end2 7 (.preface c 1 2 3) := by
  decide

/-- Parameters 0 and 13, 1 and 12, TRAM_ID, in UNCONFIGURED, in RUN at standstill and moving. -/
theorem test_meets_ConfigStoresOrWaits (n : Byte) (v : BitVec 16) :
    (ordered .vehicle 7 (.config n v) State.reset).ready .vehicle 7 (.config n v)
      ∧ (ordered .vehicle 7 (.config n v) running).ready .vehicle 7 (.config n v)
      ∧ (ordered .vehicle 7 (.config n v) (moving running)).ready .vehicle 7 (.config n v)
      ∧ State.reset.ord.run = false ∧ running.ord.run = true ∧ running.standstill = true
      ∧ (moving running).standstill = false :=
  ⟨⟨.inr rfl, rfl, .inr rfl, .inl rfl, nofun, nofun⟩, ⟨.inr rfl, rfl, .inl rfl, .inl rfl, nofun, nofun⟩,
    ⟨.inr rfl, rfl, .inl rfl, .inl rfl, nofun, nofun⟩, rfl, rfl, rfl, rfl⟩

theorem test_config_numbers :
    (0 : Byte).toNat = 0 ∧ 12 < (13 : Byte).toNat ∧ (1 : Byte).toNat = 1 ∧ (12 : Byte).toNat = 12
      ∧ max (0 : Int) (min 9999 (0 : BitVec 16).toInt) = 0 := by decide

theorem test_meets_ConfigDoneEntersRun :
    (ordered .vehicle 7 .configDone State.reset).ready .vehicle 7 .configDone
      ∧ (ordered .vehicle 7 .configDone running).ready .vehicle 7 .configDone
      ∧ running.cfg .tramId ≠ 0 ∧ running.ord.waiting.get .tramId ≠ some 0
      ∧ ∃ t, step { running with pending := [.countClose] } = .next t :=
  ⟨by decide, by decide, by decide, by decide, _, rfl⟩

/-- In HALT, in UNCONFIGURED; position 15 with one record held, 16, and the position of the record. -/
theorem test_meets_IdentAndReadFaultOnlyAnswer :
    State.reset.atHead .end2 7 .ident ∧ (∀ n ∈ [(0 : Byte), 15, 16], halted.atHead .end1 7 (.readFault n))
      ∧ 15 < (16 : Byte).toNat ∧ (15 : Byte).toNat ≤ 15 ∧ halted.flt.queue.length ≤ (15 : Byte).toNat
      ∧ halted.flt.queue[(0 : Byte).toNat]? = some (newRecord .lockout .stop .none none running) := by decide

/-- An open STOP record before a NOTICE, and open STOP records alone. -/
theorem test_meets_FaultTakeRemovesTheOldest :
    (ordered .vehicle 7 .faultTake halted).ready .vehicle 7 .faultTake
      ∧ (∀ x ∈ [newRecord .lockout .stop .none none running], x.acked = some false)
      ∧ (newRecord .fixRejected .notice (.junction 5) none running).acked ≠ some false
      ∧ (∀ x ∈ halted.flt.queue, x.acked = some false) := by decide

theorem test_meets_SettleHandsTheListOver :
    (ordered .vehicle 7 .settle (standbyIn .clearing (some .planClear) running)).ready .vehicle 7 .settle
      ∧ ((standbyIn .clearing (some .planClear) running).port .vehicle).slot ≠ none
      ∧ (ordered .end2 7 .settle (facing .asked .stopped)).ready .end2 7 .settle
      ∧ ((facing .asked .stopped).port .end2).slot = none
      ∧ (ordered .end2 7 .settle (facing .locked .stopped)).ready .end2 7 .settle
      ∧ (facing .asked .stopped).liveEntries = [(0, junctionEntry 5 1000 (junctionIn .asked .stopped))]
      ∧ (facing .locked .stopped).liveEntries = [(0, junctionEntry 5 1000 (junctionIn .locked .stopped))] := by
  decide +kernel

theorem test_meets_SettleHandsTheListOver_step :
    (∀ p, (facing .asked .stopped).settleOutstanding p = true → (facing .asked .stopped).exchangeInProgress = true)
      ∧ ∃ t, step { facing .asked .stopped with pending := [.gapEnd] } = .next t :=
  ⟨fun p => by cases p <;> decide +kernel, _, rfl⟩

/-- RESTART with a deferred order in the slot and without, at standstill and moving. -/
theorem test_meets_RestartInterruptsEverything :
    (∀ o ∈ [none, some Deferred.planSeal],
      (ordered .vehicle 7 .restart (standbyIn (.sealing 2 5) o running)).ready .vehicle 7 .restart)
      ∧ (ordered .vehicle 7 .restart (moving running)).ready .vehicle 7 .restart
      ∧ (standbyIn (.sealing 2 5) none running).standstill = true ∧ (moving running).standstill = false := by
  decide +kernel

/-- RESTART with the RELEASE of a passed junction and the REQUEST of an ASKED one queued: the RELEASE is queued again, the
CANCEL joins it, and the new REQUEST is due behind it (R105). A CLEARING bank is EMPTY, a SEALING one FILLING (R42). -/
theorem test_restart_makes_the_give_ups_again :
    let s := { withPlan [junctionEntry 5 1000 (junctionIn .passed .stopped), junctionEntry 6 2000 (junctionIn .asked .stopped)]
        running with
      loop.queue := [⟨⟨.release, 417, 5, 3⟩, .bankA, 0, true⟩, ⟨⟨.request .left, 417, 6, 3⟩, .bankA, 1, true⟩] }
    let t := after (.restart .vehicle 7) s
    t.loop.queue.map QueuedTelegram.telegram = [⟨.release, 417, 5, 3⟩, ⟨.cancel, 417, 6, 3⟩]
      ∧ t.liveEntries.map (fun x => x.2.junction?.map Junction.state) = [some .passed, some .waiting]
      ∧ t.liveEntries.map (fun x => x.2.junction?.map Junction.due) = [some [], some [⟨.request .left, 417, 6, 4⟩]]
      ∧ ((after (.restart .vehicle 7) (standbyIn .clearing none running)).bank .bankA).state = .empty
      ∧ ((after (.restart .vehicle 7) (standbyIn .clearing none running)).bank .bankA).entries = []
      ∧ (after (.restart .vehicle 7) (standbyIn (.sealing 2 5) none running)).bank .bankA
        = { state := .filling, slots := slotsOf checkedPlan } := by decide +kernel

/-! ### Witnesses: AUT, FLT and EFF -/

/-- KEY bytes 0, 1 and 2 on both desks, from the live end and from the other. -/
theorem test_meets_KeysMoveAuthority :
    ∀ p ∈ [Port.end1, .end2], ∀ k ∈ [(0 : Byte), 1, 2], ∀ s ∈ [driven, moving driven],
      (ordered p 7 (.key k) s).ready p 7 (.key k) := by decide

theorem test_meets_KeysMoveAuthority_state :
    deskEnd .end1 = some .one ∧ driven.liveEnd = some .one ∧ driven.liveEnd ≠ some .two
      ∧ driven.aut.keys.get .one = true ∧ driven.aut.keys.get .two = false ∧ 1 < (2 : Byte).toNat
      ∧ driven.standstill = true ∧ (moving driven).standstill = false ∧ driven.flt.latch = false := by decide

/-- The live end with its key OFF: the key-lost condition, which KEY ON ends. -/
def keyOff : State :=
  { moving driven with aut.keys := ⟨false, false⟩, aut.keyLost := true }

theorem test_meets_KeysMoveAuthority_on :
    (ordered .end1 7 (.key 1) keyOff).ready .end1 7 (.key 1) ∧ keyOff.liveEnd = some .one
      ∧ keyOff.aut.keys.get .one = false ∧ ∀ r ∈ keyOff.flt.queue, r.acked ≠ some false := by decide

/-- Count closes that find the key lost: at standstill, and still moving (R5). -/
theorem test_meets_KeysMoveAuthority_close :
    ∀ x ∈ [(keyOff, Authority.offered .one), ({ rolling 8 8 8 8 0 with aut := keyOff.aut }, .live .one)],
      x.1.liveEnd = some .one ∧ x.1.aut.keyLost = true ∧ (after .countClose x.1).aut.authority = x.2
        ∧ (after .countClose x.1).standstill = decide (x.2 ≠ .live .one) := by decide +kernel

/-- KEY ON in VACANT and in OFFERED_1, and a CLAIM that is granted. -/
theorem test_meets_KeyOnNeverGrantsAuthority :
    (∀ a ∈ [Authority.vacant, .offered .one],
      (ordered .end1 7 (.key 1) { running with aut.authority := a }).ready .end1 7 (.key 1)
        ∧ ((ordered .end1 7 (.key 1) { running with aut.authority := a }).port .end1).queue ≠ []
        ∧ ({ running with aut.authority := a } : State).liveEnd = none)
      ∧ (after (.claim .end1 7) { running with aut.keys := ⟨true, false⟩ }).aut.authority = .live .one := by decide +kernel

/-- No live end, both keys ON. -/
def keyed : State :=
  { running with aut.keys := ⟨true, true⟩ }

/-- CLAIM from the live end, with the other end live, with the key OFF, and granted to either end. -/
theorem test_meets_ClaimGrantsAuthority :
    ∀ p ∈ [Port.end1, .end2], ∀ s ∈ [driven, running, keyed], (ordered p 7 .claim s).ready p 7 .claim := by decide

theorem test_meets_ClaimGrantsAuthority_state :
    deskEnd .end1 = some .one ∧ deskEnd .end2 = some .two ∧ driven.liveEnd = some .one ∧ running.liveEnd = none
      ∧ running.aut.keys.get .one = false ∧ keyed.liveEnd = none ∧ keyed.aut.keys.get .one = true
      ∧ keyed.aut.keys.get .two = true ∧ keyed.directionEnd = .one ∧ keyed.pth.pendingSwitch = false
      ∧ keyed.standstill = true := by decide

/-- A grant to the other end with a live plan, a request record at its target, and a switch pending or not. -/
theorem test_meets_ClaimGrantsAuthority_plan :
    ∀ b ∈ [true, false],
      let s : State := { switching .asked .running keyed with pth.pendingSwitch := b }
      (ordered .end2 7 .claim s).ready .end2 7 .claim ∧ s.liveEnd = none ∧ s.aut.keys.get .two = true
        ∧ s.standstill = true ∧ s.directionEnd ≠ .two ∧ s.liveBank = some .bankB ∧ s.stp.request.isSome = true
        ∧ s.target = some (1, stopEntry 12 9500)
        ∧ (s.port .vehicle).slot = some { tag := 4, order := .planSwitch, bank := .bankA }
        ∧ (∀ y ∈ (s.bank s.pth.standby).entries, (y.2.junction?.map Junction.due).getD [] = [])
        ∧ (after (.claim .end2 7) (ordered .end2 7 .claim s)).liveBank = (if b = true then some .bankA else none) := by
  decide +kernel

/-- Authority held, with a bell stroke and a horn blast of 1199 ticks sounding; and a window open. -/
theorem test_meets_AuthorityEndsByReleaseAndExpiry :
    (∀ s ∈ [running, driven, moving driven], (ordered .vehicle 7 .forceRelease s).ready .vehicle 7 .forceRelease)
      ∧ running.aut.authority = .vacant ∧ driven.aut.authority ≠ .vacant ∧ driven.standstill = true
      ∧ (moving driven).standstill = false
      ∧ ({ driven with snd.bell.state := .stroke 1 600 false, snd.horn.state := .blast 1199 false } : State).snd.horn.state
        = .blast 1199 false
      ∧ ({ running with aut.authority := .offered .two } : State).aut.authority = .offered .two := by decide +kernel

/-- A silence timer that runs; a vigilance timer that runs; no open STOP record, one of the kind, and the latch set by
another kind. -/
theorem test_meets_WatchesRaiseStops :
    driven.liveEnd = some .one ∧ driven.aut.silence ≠ .stopped
      ∧ ({ driven with aut.vigilance := .running 10000 } : State).aut.vigilance = .running 10000
      ∧ (∀ r ∈ driven.flt.queue, r.acked ≠ some false) ∧ driven.flt.latch = false
      ∧ (∃ r ∈ (raiseStop .deskSilent (.cab .one) driven).flt.queue, r.kind = .deskSilent ∧ r.acked = some false)
      ∧ (∀ r ∈ (raiseStop .vigilance (.cab .one) driven).flt.queue, r.kind = .deskSilent → r.acked ≠ some false)
      ∧ (raiseStop .vigilance (.cab .one) driven).flt.latch = true
      ∧ (raiseStop .vigilance (.cab .one) driven).flt.halt = false := by decide +kernel

/-- The vigilance timer at a count close: started at |v| of 500, stopped below it (250), left where it runs (R14). -/
theorem test_meets_WatchesRaiseStops_close :
    (∀ x ∈ [((2 : Int), Vigilance.stopped, Vigilance.running 0), (2, .running 7, .running 7), (2, .expired, .expired),
        (1, .running 7, .stopped)],
      let s := { rolling x.1 x.1 x.1 x.1 0 with aut.vigilance := x.2.1 }
      (after .countClose s).axl.record.v = 250 * x.1.toNat ∧ (after .countClose s).aut.vigilance = x.2.2)
      ∧ (rolling 2 2 2 2 0).flt.queue = [] := by decide +kernel

theorem test_meets_WatchesRaiseStops_kept : (rolling 2 2 2 2 0).faultsKept :=
  ⟨by decide +kernel, by decide +kernel, by decide +kernel, by decide +kernel, by decide +kernel⟩

/-- A record of a class with a serial. -/
def recordOf (c : FaultClass) (acked : Option Bool) (serial : Nat) : FaultRecord :=
  { serial, kind := .deskSilent, cls := c, source := .aut, key := .none, p := 0, tag := none, count := 1, acked }

/-- 9.3, "a full queue": serials 200 to 215, then six of the case's seven events, up to the second ROLLBACK. -/
theorem test_full_queue :
    let s : State := { running with
      flt.queue := recordOf .stop (some true) 200 :: recordOf .restrict none 201 :: recordOf .notice none 202
        :: (List.range 13).map fun n => recordOf .restrict none (203 + n)
      flt.serial := 216 }
    let s3 := raiseRestrict .junctionLost (.junction 340)
      (raiseRestrict .axleImplausible (.axle .a3) (raiseNotice .buttonStuck (.button 9) s))
    let s6 := raiseNotice .rollback .none (raiseStop .vigilance (.cab .one) (handleFaultTake s3).1)
    s3.flt.queue.map FaultRecord.serial = [200, 203, 204, 205, 206, 207, 208, 209, 210, 211, 212, 213, 214, 215, 217, 218]
      ∧ s6.flt.queue.map FaultRecord.serial
        = [204, 205, 206, 207, 208, 209, 210, 211, 212, 213, 214, 215, 217, 218, 219, 220]
      ∧ s6.flt.latch = true := by decide +kernel

/-- A full queue of STOP records alone gives up the first acknowledged one (R169). -/
theorem test_full_queue_of_stops :
    let rest := (List.range 14).map fun n => recordOf .stop (some true) (n + 3)
    makeRoom (recordOf .stop (some false) 1 :: recordOf .stop (some true) 2 :: rest) = recordOf .stop (some false) 1 :: rest := by
  decide +kernel

/-- ACK with the lever at full brake, the latch clear and set; and with the lever elsewhere. -/
theorem test_meets_AckClearsTheLatch :
    (∀ s ∈ [driven, setLever (-127) .forward .forward driven,
        raiseStop .vigilance (.cab .one) (setLever (-127) .forward .forward driven)],
      (ordered .end1 7 .ack s).ready .end1 7 .ack)
      ∧ driven.eff.d ≠ -1000 ∧ (setLever (-127) .forward .forward driven).eff.d = -1000
      ∧ (setLever (-127) .forward .forward driven).flt.latch = false
      ∧ (raiseStop .vigilance (.cab .one) (setLever (-127) .forward .forward driven)).flt.latch = true
      ∧ driven.standstill = true := by decide +kernel

/-- The selector bytes 0 to 3, at standstill and moving; REVERSE is the change from FORWARD. -/
theorem test_meets_LeverIsTaken :
    (∀ x ∈ [(0 : Byte), 1, 2, 3], (ordered .end1 7 (.lever 128 1 x) driven).ready .end1 7 (.lever 128 1 x)
      ∧ (ordered .end1 7 (.lever 128 1 x) (moving driven)).ready .end1 7 (.lever 128 1 x))
      ∧ driven.eff.taken = .forward ∧ 2 < (3 : Byte).toNat ∧ driven.standstill = true
      ∧ (moving driven).standstill = false ∧ driven.eff.settleCount < 25
      ∧ (128 : Byte).toInt = -128 := by decide +kernel

/-- The latch clear with both inputs seen; set and held by a lever off full brake, or by an input; and cleared by full brake,
without a live end, and in HALT (R67, R68). -/
theorem test_meets_EmergencyInputsBrake_close :
    let latched := fun (s : State) => { s with eff.latch := true }
    let input := after (.emergencyInput .two true)
    (∀ s ∈ [input driven, input (after (.emergencyInput .one true) driven), input halted],
      s.ord.run = true ∧ s.eff.latch = false ∧ s.aut.keyLost = false ∧ (s.eff.inputs.get .two).capture = true
        ∧ (after .countClose s).eff.latch = true)
      ∧ (∀ s ∈ [latched driven, input (latched running), latched { rolling 1 1 1 1 0 with aut := running.aut }],
        s.ord.run = true ∧ (after .countClose s).eff.latch = true)
      ∧ (∀ s ∈ [latched running, latched (setLever (-127) .forward .forward driven), latched { halted with aut := running.aut }],
        s.ord.run = true ∧ (after .countClose s).standstill = true
          ∧ ((after .countClose s).liveEnd = none ∨ (after .countClose s).eff.d = -1000)
          ∧ (after .countClose s).eff.latch = false ∧ s.eff.settleCount < 25) := by decide +kernel

theorem test_meets_EmergencyInputsBrake :
    driven.ord.run = true ∧ driven.eff.latch = false
      ∧ (((after (.emergencyInput .two true) driven).eff.inputs.get .two).capture = true)
      ∧ (after (.emergencyInput .two true) driven).ord.run = true
      ∧ (after (.emergencyInput .two true) driven).eff.latch = false := by decide +kernel

theorem test_meets_EffortFollowsTheStages :
    driven.ord.run = true ∧ driven.flt.halt = false ∧ driven.eff.latch = false
      ∧ ∀ c ∈ [CabEnd.one, .two], (driven.eff.inputs.get c).active = false ∧ (driven.eff.inputs.get c).capture = false := by
  decide

/-- The cap without a live plan; in the zone of a junction that is LOCKED, ASKED (one below its stand start, 1000 − 800, and
at it), ON_SIGHT and PASSED; and under REVERSE (R74, R100). -/
theorem test_meets_EffortFollowsTheStages_cap :
    let cap := fun (s : State) => (after .countClose s).eff.cap
    cap driven = 1400
      ∧ cap { facing .locked .stopped with aut := driven.aut } = 1500
      ∧ (∀ x ∈ [(199, (1400 : Int)), (200, 0)],
        cap { facing .asked .stopped with aut := driven.aut, pth.p := x.1 } = x.2)
      ∧ cap { facing .onSight .stopped with aut := driven.aut, pth.p := 200 } = 1400
      ∧ cap { facing .passed .stopped with aut := driven.aut } = 19400
      ∧ cap { facing .passed .stopped with aut := driven.aut, eff.selector := .reverse } = 1400 := by decide +kernel

/-- The latch cleared at this close; OVERSPEED, v at 2750 and at 3000 with the cap 1400 (R68, R75). -/
theorem test_meets_EffortFollowsTheStages_stages :
    (after .countClose { running with eff.latch := true }).eff.latch = false
      ∧ (after .countClose { running with eff.latch := true }).eff.e = -950
      ∧ (∀ x ∈ [((11 : Int), false), (12, true)],
        (rolling x.1 x.1 x.1 x.1 0).ord.run = true ∧ (rolling x.1 x.1 x.1 x.1 0).eff.overspeed = false
          ∧ (after .countClose (rolling x.1 x.1 x.1 x.1 0)).eff.overspeed = x.2) := by decide +kernel

/-- The hold brake in RUN: the tenth standstill and the ninth; E of 150 and of 149; a rollback (R81, R82). -/
theorem test_meets_EffortFollowsTheStages_hold :
    (∀ x ∈ [(9, true), (8, false)],
      (after .countClose { driven with eff.held := false, eff.runCounter := x.1 }).eff.held = x.2)
      ∧ (∀ x ∈ [((150 : Int), false), (149, true)],
        (after .countClose { driven with eff.e := x.1, eff.d := x.1, eff.selector := .forward }).eff.held = x.2)
      ∧ (∀ x ∈ [((-1 : Int), true), (1, false)],
        (after .countClose { rolling x.1 x.1 x.1 x.1 0 with eff.held := false }).vSel = 250 * x.1
          ∧ (after .countClose { rolling x.1 x.1 x.1 x.1 0 with eff.held := false }).eff.rollback = x.2) := by decide +kernel

theorem test_meets_EffortIsZeroOutsideService :
    State.reset.ord.run = false ∧ halted.ord.run = true ∧ halted.flt.halt = true := by decide

/-! ### Witnesses: STP and SND -/

/-- A state with one button's debouncer replaced. -/
def withButton (n : Nat) (d : Debouncer) : State :=
  { driven with stp.buttons := driven.stp.buttons.set n d }

/-- Buttons 1 and 26; run counts 1 and 2. -/
theorem test_meets_ButtonsAreDebounced :
    (List.replicate 26 true).length = 26 ∧ driven.stp.levels.length = 26
      ∧ (∀ n ∈ [0, 25], ∀ r ∈ [1, 2], (withButton n ⟨true, r, 1999, false⟩).stp.buttons.length = 26
          ∧ (withButton n ⟨true, r, 1999, false⟩).stp.buttons[n]? = some ⟨true, r, 1999, false⟩
          ∧ (List.replicate 26 true)[n]? = some true)
      ∧ driven.target = none := by decide +kernel

/-- A stop ahead at a distance, its window of 500 cm. -/
def stopping (distance : Nat) : State :=
  withPlan [stopEntry 12 distance] driven

/-- A press of button 24, 25 or 26 with a target, and of each with none: the request record (R127). -/
theorem test_meets_ButtonsAreDebounced_press :
    ∀ x ∈ [(23, (⟨true, false, ⟨false, false, false, true, false, false⟩, 0, 1⟩ : RequestRecord)),
        (24, ⟨false, true, ⟨false, false, false, false, true, false⟩, 0, 1⟩),
        (25, ⟨false, true, ⟨false, false, false, false, false, true⟩, 0, 1⟩)],
      let s := { stopping 500 with stp.buttons := driven.stp.buttons.set x.1 ⟨false, 2, 0, false⟩ }
      let levels := (List.replicate 26 false).set x.1 true
      s.stp.dwell = .running ∧ s.target ≠ none ∧ s.stp.buttons.length = 26 ∧ levels.length = 26
        ∧ (after (.buttonSample levels) s).stp.request = some x.2
        ∧ (after (.buttonSample levels) { s with pth.standby := .bankA }).stp.request = none := by decide +kernel

/-- A button in its 2000th sample PRESSED and in its 1999th; and one that is released at its 2000th (log entry 25). -/
theorem test_meets_ButtonsAreDebounced_stuck :
    ∀ x ∈ [((⟨true, 0, 1999, false⟩ : Debouncer), true, 1), (⟨true, 1, 1999, false⟩, false, 1), (⟨true, 0, 1998, false⟩, true, 0),
        (⟨true, 2, 1999, false⟩, false, 0)],
      (after (.buttonSample ((List.replicate 26 false).set 25 x.2.1)) (withButton 25 x.1)).flt.queue.length = x.2.2 := by
  decide +kernel

/-- DWELL with a record. -/
def dwelling (d : DwellRecord) (s : State) : State :=
  { s with stp.dwell := .dwell, stp.dwellRecord := some d }

/-- The sides bytes 0 to 4, in RUNNING, DWELL and CLOSING, standing and moving, with E at 0 and at 1. -/
theorem test_meets_DoorsGrantPermits :
    ∀ x ∈ [(0 : Byte), 1, 2, 3, 4], ∀ s ∈ [stopping 500, dwelling emptyDwell (stopping 500),
        { driven with stp.dwell := .closing }, moving driven, { driven with eff.e := 1 }],
      (ordered .end1 7 (.doors x 1) s).ready .end1 7 (.doors x 1) := by decide +kernel

/-- A target 500 cm ahead and one 499 cm behind lie in the window. -/
theorem test_meets_DoorsGrantPermits_target :
    (stopping 500).standstill = true ∧ (stopping 500).eff.e ≤ 0 ∧ (stopping 500).stp.dwell = .running
      ∧ (stopping 500).target = some (0, stopEntry 12 500) ∧ 500 ≤ (stopping 500).pth.p + (stopping 500).cfgNat .stopWindow
      ∧ ({ stopping 1 with pth.p := 500 } : State).target = some (0, stopEntry 12 1)
      ∧ 500 < 1 + (stopping 1).cfgNat .stopWindow
      ∧ (dwelling emptyDwell (stopping 500)).stp.dwellRecord = some emptyDwell
      ∧ emptyDwell.served = none ∧ emptyDwell.ramp = none
      ∧ ({ emptyDwell with served := some (12, .left), ramp := some .left } : DwellRecord).served ≠ none
      ∧ driven.target = none := by decide +kernel

/-- A target 501 cm ahead and one 500 cm behind, at its window end, lie outside (R129, R134). -/
theorem test_doors_outside_the_window :
    (stopping 501).target = some (0, stopEntry 12 501) ∧ 0 + (stopping 501).cfgNat .stopWindow < 501
      ∧ 1 + (stopping 1).cfgNat .stopWindow ≤ 501
      ∧ ∀ s ∈ [stopping 501, { stopping 1 with pth.p := 501 }],
        (after (.doors .end1 7 3 1) s).stp.dwellRecord
          = some { sides := some .both, ramp := none, served := none, wish := ⟨false, false⟩ } := by decide +kernel

/-- A stop with the platform on both sides: the wish picks the ramp side, the left one unless the right is wished alone
(R135). -/
theorem test_ramp_side_of_a_stop_on_both_sides :
    ∀ x ∈ [(true, false, RampSide.left), (false, true, .right), (true, true, .left)],
      let s := { withPlan [{ id := 12, distance := 500, point := .stop (newStop .request .both) }] driven with
        stp.request := some ⟨false, true, ⟨false, false, false, false, x.1, x.2.1⟩, 0, 1⟩ }
      (after (.doors .end1 7 3 0) s).stp.dwellRecord
        = some { sides := some .both, ramp := some x.2.2, served := some (12, .both), wish := ⟨x.1, x.2.1⟩ } := by
  decide +kernel

/-- DOORS at a stop on the left with an access wish serves it and grants the left ramp (7.5). -/
theorem test_doors_serve_the_stop :
    (after (.doors .end1 7 3 1) (stopping 500)).stp.dwellRecord
      = some { sides := some .both, ramp := some .left, served := some (12, .left), wish := ⟨false, false⟩ } := by
  decide +kernel

/-- CLOSE in DWELL and elsewhere. -/
theorem test_meets_ClosingSecuresTheTram_close :
    ∀ s ∈ [driven, dwelling emptyDwell driven], (ordered .end1 7 .close s).ready .end1 7 .close := by decide

/-- The door report and the ramp input, from each dwell state. -/
theorem test_meets_ClosingSecuresTheTram :
    (∀ d ∈ [Dwell.running, .dwell, .closing, .unsecured], ∀ k ∈ [(0 : Byte), 1, 2],
      (ordered .vehicle 7 (.doorState k) { driven with stp.dwell := d }).ready .vehicle 7 (.doorState k))
      ∧ false ≠ driven.stp.rampStowed ∧ driven.standstill = true ∧ driven.eff.e ≤ 0
      ∧ (moving driven).standstill = false ∧ driven.flt.latch = false ∧ driven.stp.doorsLocked = true := by decide

/-- A count close in RUNNING finds the doors not locked: at standstill with E at 0, and with E at 1, and moving (R141). -/
theorem test_meets_ClosingSecuresTheTram_countClose :
    ∀ x ∈ [(driven, Dwell.unsecured), ({ driven with eff.e := 1 }, .running), (rolling 8 8 8 8 0, .running)],
      (after .countClose { x.1 with stp.doorsLocked := false }).stp.dwell = x.2 := by decide +kernel

/-- A door found open while moving sets the brake latch (7.6). -/
theorem test_door_open_moving_latches :
    (after (.doorState .vehicle 7 0) (moving driven)).flt.latch = true
      ∧ (after (.doorState .vehicle 7 0) driven).stp.dwell = .unsecured := by decide +kernel

/-- Programs 0, 1, 10 and 11. -/
theorem test_meets_SoundOrdersReachTheChannels :
    (∀ n ∈ [(0 : Byte), 1, 10, 11], (ordered .vehicle 7 (.sound n) running).ready .vehicle 7 (.sound n))
      ∧ running.snd.chime.state = .idle ∧ running.snd.chime.queue = []
      ∧ (programSteps 10)[0]? = some (.high, 800) := by decide

/-- A program merged, queued, and started, on the bell. -/
theorem test_sound_outcomes :
    (requestOn .bell false 3 { ChannelRecord.reset with state := .program 3 1 480 false }).2 = .merged
      ∧ (requestOn .bell false 1 { ChannelRecord.reset with state := .program 3 1 480 false }).2 = .queued
      ∧ (requestOn .bell false 3 { ChannelRecord.reset with state := .program 3 1 480 true }).2 = .queued
      ∧ (requestOn .bell false 4 { ChannelRecord.reset with state := .stroke 1 600 false, queue := [1, 2, 3, 4] }).2 = .merged
      ∧ (requestOn .chime true 8 ChannelRecord.reset).2 = .started := by decide

/-- SOUND_BREAK bytes 0, 1 and 2, and 3, which is REFUSED. -/
theorem test_meets_SoundOrdersReachTheChannels_break :
    (∀ n ∈ [(0 : Byte), 1, 2, 3], (ordered .vehicle 7 (.soundBreak n) running).ready .vehicle 7 (.soundBreak n))
      ∧ 2 < (3 : Byte).toNat := by decide

theorem test_meets_SoundOrdersReachTheChannels_level :
    ∀ n ∈ [(0 : Byte), 1, 2], (ordered .vehicle 7 (.level n) running).ready .vehicle 7 (.level n) := by decide

/-- A state with the bell and the horn in given states. -/
def sounding (bell horn : ChannelState) : State :=
  { driven with snd.bell.state := bell, snd.horn.state := horn }

/-- BELL and HORN bytes 0, 1 and 2; a blast of 1199 ticks and one of 1200. -/
theorem test_meets_ManualSoundingTakesTheChannel :
    ∀ n ∈ [(0 : Byte), 1, 2], ∀ s ∈ [driven, sounding (.stroke 1 600 false) (.blast 1199 false),
        sounding (.program 2 1 600 false) (.blast 1200 true)],
      (ordered .end1 7 (.bell n) s).ready .end1 7 (.bell n) := by decide +kernel

theorem test_meets_ManualSoundingTakesTheChannel_horn :
    ∀ n ∈ [(0 : Byte), 1, 2], ∀ s ∈ [driven, sounding (.stroke 1 600 false) (.blast 1199 false),
        sounding (.program 2 1 600 false) (.blast 1200 true)],
      (ordered .end1 7 (.horn n) s).ready .end1 7 (.horn n) := by decide +kernel

/-- The last step but one and the last of program 2; an empty queue and one program queued. -/
theorem test_meets_SoundersGoStepByStep :
    (sounding (.program 2 3 1 false) .idle).snd.bell.state = .program 2 3 1 false ∧ (programSteps 2)[3]? = some (.off, 1600)
      ∧ (programSteps 2).length ≤ 4 ∧ (sounding (.program 2 4 1 false) .idle).snd.bell.queue = []
      ∧ ({ driven with snd.bell.queue := [3] } : State).snd.bell.queue = 3 :: []
      ∧ (programSteps 3)[0]? = some (.high, 480)
      ∧ (sounding (.stroke 2 1 true) (.blast 1199 true)).snd.bell.state = .stroke 2 1 true
      ∧ (sounding (.stroke 2 1 true) (.blast 1199 true)).snd.horn.state = .blast 1199 true := by decide +kernel

/-! ### Witnesses: what every step keeps -/

/-- HALT as the laws have it. -/
def lockedOut : State :=
  { halted with
    flt.queue := [newRecord .vigilance .stop (.cab .one) none running, newRecord .lockout .stop .none none running] }

theorem test_meets_EveryStepKeepsTheQueueBounds :
    ({ queueing 8 with loop.queue := [queuedAs .cancel] } : State).queuesBounded
      ∧ ∃ t, step { queueing 8 with loop.queue := [queuedAs .cancel], pending := [.gapEnd] } = .next t :=
  ⟨⟨fun p => by cases p <;> decide, by decide, by decide, fun p => by cases p <;> decide, fun c => by cases c <;> decide⟩,
    _, rfl⟩

theorem test_meets_EveryStepKeepsTheFaultLaws_queue : lockedOut.faultsKept :=
  ⟨by decide +kernel, by decide +kernel, by decide +kernel, by decide +kernel, by decide +kernel⟩

theorem test_meets_EveryStepKeepsTheFaultLaws_latch : lockedOut.latchKept :=
  ⟨by decide +kernel, fun _ => rfl, nofun⟩

theorem test_meets_EveryStepKeepsTheFaultLaws_halt :
    lockedOut.lockedDown ∧ ∃ t, step { lockedOut with pending := [.gapEnd] } = .next t :=
  ⟨fun _ => ⟨rfl, rfl, rfl, rfl, rfl⟩, _, rfl⟩

/-- A dwell with E at 0, the parameters at a bound, one of them pending. -/
theorem test_meets_EveryStepHoldsTheDwell :
    let s := { dwelling emptyDwell driven with ord.waiting := Table.noneWaiting.set .jerkUp (some 200) }
    s.configInRange ∧ s.dwellBraked ∧ ∃ t, step { s with pending := [.gapEnd] } = .next t :=
  ⟨fun q => by cases q <;> refine ⟨⟨by decide, by decide⟩, fun v h => (by cases h <;> decide)⟩, fun _ => by decide, _, rfl⟩

theorem test_meets_EveryStepKeepsAuthorityConsistent :
    driven.authorityKept ∧ ∃ t, step { driven with pending := [.gapEnd] } = .next t :=
  ⟨⟨nofun, fun _ => rfl, fun h => absurd rfl h,
      ⟨fun h => (by obtain ⟨c, h⟩ := h; cases h), fun h => absurd rfl h⟩, fun c h => by rcases h with h | h <;> cases h; rfl⟩,
    _, rfl⟩

/-- CONFIG_DONE enters RUN; a cold reset leaves RUN and HALT; a count close changes the record. -/
theorem test_meets_FewCommandsChangeTheModes :
    (after (.configDone .vehicle 2) { running with ord.run := false }).ord.run = true
      ∧ (after .coldReset halted).ord.run = false ∧ (after .coldReset halted).flt.halt = false
      ∧ (after .countClose (moving driven)).axl.record ≠ (moving driven).axl.record := by decide +kernel

end Sys2Proof.Tests
end

section
/-! PROOF. Who may make an end live (R6, R7): what each handling does to AUT's authority, the same for every
command, and the taking of a KEY without a live end. -/

namespace Sys2Proof.Machine

/-! ### No end made live -/

/-- An end that is live in `t` was live in `s`: nothing between them granted authority (R6). -/
def GrantsNone (s t : State) : Prop :=
  ∀ cab, t.aut.authority = .live cab → s.aut.authority = .live cab

theorem GrantsNone.of_authority {s t : State} (h : t.aut.authority = s.aut.authority) : GrantsNone s t :=
  fun _ live => h.symm.trans live

theorem GrantsNone.of_aut {s t : State} (h : t.aut = s.aut) : GrantsNone s t :=
  .of_authority (congrArg Aut.authority h)

theorem GrantsNone.of_not_live {s t : State} (h : ∀ cab, t.aut.authority ≠ .live cab) : GrantsNone s t :=
  fun cab live => absurd live (h cab)

theorem GrantsNone.trans {s t u : State} (h : GrantsNone s t) (h' : GrantsNone t u) : GrantsNone s u :=
  fun cab live => h cab (h' cab live)

/-! ### Handlings that leave AUT as it is -/

@[simp] theorem serveTarget_aut (d : DwellRecord) (s : State) : (serveTarget d s).2.2.aut = s.aut := by
  unfold serveTarget; (repeat' split) <;> simp

@[simp] theorem grantDoors_aut (ramp : Bool) (d : DwellRecord) (s : State) : (grantDoors ramp d s).1.aut = s.aut :=
  serveTarget_aut d s

@[simp] theorem handleDoors_aut (sides ramp : Byte) (s : State) : (handleDoors sides ramp s).1.aut = s.aut := by
  unfold handleDoors; (repeat' split) <;> simp

@[simp] theorem handleClose_aut (s : State) : (handleClose s).1.aut = s.aut := by
  unfold handleClose; split <;> rfl

@[simp] theorem handleManual_aut (c : Channel) (operand : Byte) (s : State) :
    (handleManual c operand s).1.aut = s.aut := by
  unfold handleManual; split <;> simp

@[simp] theorem handleRetry_aut (junction : BitVec 16) (s : State) : (handleRetry junction s).1.aut = s.aut := by
  unfold handleRetry; (repeat' split) <;> simp

@[simp] theorem handleOverride_aut (junction : BitVec 16) (s : State) : (handleOverride junction s).1.aut = s.aut := by
  unfold handleOverride; (repeat' split) <;> simp

@[simp] theorem handleShift_aut (correction : BitVec 16) (s : State) : (handleShift correction s).1.aut = s.aut := by
  unfold handleShift; dsimp only; (repeat' split) <;> simp

@[simp] theorem handleConfig_aut (parameter : Byte) (value : BitVec 16) (s : State) :
    (handleConfig parameter value s).1.aut = s.aut := by
  unfold handleConfig; dsimp only; (repeat' split) <;> rfl

@[simp] theorem handleConfigDone_aut (s : State) : (handleConfigDone s).1.aut = s.aut := by
  unfold handleConfigDone; (repeat' split) <;> rfl

@[simp] theorem handlePlanClear_aut (tag : Byte) (s : State) : (handlePlanClear tag s).1.aut = s.aut := by
  unfold handlePlanClear; split <;> simp

@[simp] theorem handlePlanPut_aut (w : WaypointPayload) (s : State) : (handlePlanPut w s).1.aut = s.aut := by
  unfold handlePlanPut; dsimp only; (repeat' split) <;> simp

@[simp] theorem handlePlanSeal_aut (tag count : Byte) (check : BitVec 16) (s : State) :
    (handlePlanSeal tag count check s).1.aut = s.aut := by
  unfold handlePlanSeal; dsimp only; (repeat' split) <;> simp

@[simp] theorem handlePlanSwitch_aut (tag : Byte) (s : State) : (handlePlanSwitch tag s).1.aut = s.aut := by
  unfold handlePlanSwitch; dsimp only; (repeat' split) <;> simp

@[simp] theorem handlePlanWithdraw_aut (s : State) : (handlePlanWithdraw s).1.aut = s.aut := by
  unfold handlePlanWithdraw; split <;> simp

@[simp] theorem handleDoorState_aut (locked : Byte) (s : State) : (handleDoorState locked s).1.aut = s.aut :=
  doorReport_aut _ s

@[simp] theorem handleSound_aut (program : Byte) (s : State) : (handleSound program s).1.aut = s.aut := by
  unfold handleSound; dsimp only; split <;> simp

@[simp] theorem handleSoundBreak_aut (channel : Byte) (s : State) : (handleSoundBreak channel s).1.aut = s.aut := by
  unfold handleSoundBreak; split <;> simp

@[simp] theorem handleLevel_aut (level : Byte) (s : State) : (handleLevel level s).1.aut = s.aut := by
  unfold handleLevel; split <;> rfl

@[simp] theorem handleFaultTake_aut (s : State) : (handleFaultTake s).1.aut = s.aut := by
  unfold handleFaultTake; split <;> rfl

@[simp] theorem handleReadFault_aut (position : Byte) (s : State) : (handleReadFault position s).1.aut = s.aut := by
  unfold handleReadFault; split <;> rfl

@[simp] theorem cutBogie_aut (inService : Bool) (b : Bogie) (s : State) : (cutBogie inService b s).aut = s.aut := by
  cases inService with
  | true => rfl
  | false => cases b <;> rfl

@[simp] theorem handleCut_aut (target number action : Byte) (s : State) :
    (handleCut target number action s).1.aut = s.aut := by
  unfold handleCut; split <;> simp

@[simp] theorem handlePreface_aut (p : Port) (code first second third : Byte) (s : State) :
    (handlePreface p code first second third s).1.aut = s.aut := by
  unfold handlePreface; split <;> simp

@[simp] theorem handleSettle_aut (p : Port) (tag : Byte) (s : State) : (handleSettle p tag s).1.aut = s.aut := by
  unfold handleSettle; (repeat' split) <;> simp

/-! ### Frames, telegrams and line changes leave AUT as it is -/

@[simp] theorem frameArrives_aut (p : Port) (frame : List Byte) (s : State) : (frameArrives p frame s).aut = s.aut := by
  unfold frameArrives; (repeat' split) <;> rfl

@[simp] theorem byteArrives_aut (p : Port) (b : Byte) (s : State) : (byteArrives p b s).aut = s.aut := by
  unfold byteArrives; (repeat' split) <;> simp

@[simp] theorem receiveAccept_aut (tram : BitVec 14) (junction : BitVec 12) (number : BitVec 4) (s : State) :
    (receiveAccept tram junction number s).aut = s.aut := by
  unfold receiveAccept; split <;> simp

@[simp] theorem receiveSet_aut (tram : BitVec 14) (junction : BitVec 12) (number : BitVec 4) (s : State) :
    (receiveSet tram junction number s).aut = s.aut := by
  unfold receiveSet; split <;> simp

@[simp] theorem receiveRefuse_aut (tram : BitVec 14) (junction : BitVec 12) (number : BitVec 4) (qualifier : BitVec 3)
    (s : State) : (receiveRefuse tram junction number qualifier s).aut = s.aut := by
  unfold receiveRefuse; (repeat' split) <;> simp

@[simp] theorem receiveLockLost_aut (tram : BitVec 14) (junction : BitVec 12) (number : BitVec 4) (s : State) :
    (receiveLockLost tram junction number s).aut = s.aut := by
  unfold receiveLockLost; split <;> simp

@[simp] theorem receiveFix_aut (junction : BitVec 12) (s : State) : (receiveFix junction s).aut = s.aut := by
  unfold receiveFix; split <;> simp

@[simp] theorem deliver_aut (f : InboundFields) (s : State) : (deliver f s).aut = s.aut := by
  unfold deliver; split <;> simp

@[simp] theorem setDecoder_aut (d : Decoder) (data : Bool) (s : State) : (setDecoder d data s).aut = s.aut := rfl

@[simp] theorem examineFrame_aut (bits : List Bool) (s : State) : (examineFrame bits s).aut = s.aut := by
  unfold examineFrame; split <;> simp

@[simp] theorem takeBit_aut (bits : List Bool) (bit : Bool) (s : State) : (takeBit bits bit s).aut = s.aut := by
  unfold takeBit; dsimp only; (repeat' split) <;> simp

@[simp] theorem lineChange_aut (c : LineChange) (s : State) : (lineChange c s).aut = s.aut := by
  unfold lineChange; dsimp only; (repeat' split) <;> simp

/-! ### Operations that leave authority as it is, and those that take it away -/

@[simp] theorem reviseVigilance_authority (s : State) : (reviseVigilance s).aut.authority = s.aut.authority := by
  rcases reviseVigilance_cases s with ⟨-, h⟩ | ⟨-, -, h⟩ | ⟨-, -, h⟩ <;> rw [h]

@[simp] theorem acknowledge_authority (s : State) : (acknowledge s).aut.authority = s.aut.authority := by
  simp [acknowledge]

@[simp] theorem handleLever_authority (l grip selector : Byte) (s : State) :
    (handleLever l grip selector s).1.aut.authority = s.aut.authority := by
  simp [handleLever]

@[simp] theorem handleAck_authority (s : State) : (handleAck s).1.aut.authority = s.aut.authority := by
  unfold handleAck; (repeat' split) <;> simp

@[simp] theorem silenceExpired_authority (s : State) : (silenceExpired s).aut.authority = s.aut.authority := by
  unfold silenceExpired; (repeat' split) <;> simp

@[simp] theorem vigilanceExpired_authority (s : State) : (vigilanceExpired s).aut.authority = s.aut.authority := by
  unfold vigilanceExpired; split <;> simp

@[simp] theorem offerAuthority_authority (cab : CabEnd) (s : State) :
    (offerAuthority cab s).aut.authority = .offered cab := by
  simp [offerAuthority]

@[simp] theorem vacate_authority (s : State) : (vacate s).aut.authority = .vacant := by
  simp [vacate]

theorem offerAuthority_grantsNone (cab : CabEnd) (s t : State) : GrantsNone s (offerAuthority cab t) :=
  .of_not_live (by simp)

theorem handoverExpired_grantsNone (s : State) : GrantsNone s (handoverExpired s) := by
  unfold handoverExpired
  split
  · exact .of_not_live nofun
  · exact .of_authority rfl
  · exact .of_authority rfl

theorem handleForceRelease_grantsNone (s : State) : GrantsNone s (handleForceRelease s).1 := by
  unfold handleForceRelease
  split
  · exact .of_authority rfl
  · split
    · exact .of_authority rfl
    · exact .of_not_live (by simp)

/-! ### KEY -/

/-- What a key report does to authority is to leave it, or to offer it (R3). -/
theorem keyEffect_grantsNone (cab : CabEnd) (on : Bool) (s : State) : GrantsNone s (keyEffect cab on s) := by
  unfold keyEffect
  (repeat' split)
  · exact .of_authority rfl
  · exact offerAuthority_grantsNone cab s s
  · exact .of_authority (by simp)
  · exact .of_authority rfl

theorem reportKey_grantsNone (cab : CabEnd) (on : Bool) (s : State) : GrantsNone s (reportKey cab on s) := by
  unfold reportKey
  split
  · exact .of_authority rfl
  · exact .trans (.of_authority rfl) (keyEffect_grantsNone cab on _)

theorem handleKey_grantsNone (p : Port) (state : Byte) (s : State) : GrantsNone s (handleKey p state s).1 := by
  unfold handleKey
  split
  · exact reportKey_grantsNone _ _ s
  · exact .of_authority rfl

@[simp] theorem set_get_end {α : Type} (t : PerEnd α) (c : CabEnd) : t.set c (t.get c) = t := by cases c <;> rfl

/-- Without a live end a key report sets the key state alone (R3). -/
theorem reportKey_noLiveEnd {s : State} (cab : CabEnd) (on : Bool) (h : s.liveEnd = none) :
    reportKey cab on s = { s with aut.keys := s.aut.keys.set cab on } := by
  unfold reportKey
  split
  · next held => rw [← held, set_get_end]
  · have noEffect : ({ s with aut.keys := s.aut.keys.set cab on } : State).liveEnd ≠ some cab := by
      have same : ({ s with aut.keys := s.aut.keys.set cab on } : State).liveEnd = s.liveEnd := rfl
      simp [same, h]
    exact if_neg noEffect

/-- KEY's operand 0 or 1 is OFF or ON (spec 11.2). -/
theorem readKey_of_le_one {k : Byte} (h : k.toNat ≤ 1) : readKey k = some (decide (k = 1)) := by
  have : k = 0 ∨ k = 1 := by bv_omega
  rcases this with rfl | rfl <;> rfl

/-! ### The cold reset, RESTART and the count close -/

theorem coldReset_authority (s : State) : (coldReset s).aut.authority = .vacant := by
  have vacant : (coldValues s).aut.authority = .vacant := rfl
  unfold coldReset
  dsimp only
  split
  · exact vacant
  · rw [foundOpen_aut, vacant]

theorem restartBlocks_authority (s : State) : (restartBlocks s).aut.authority = .vacant := by
  simp [restartBlocks, autRestart]

theorem endKeyLost_grantsNone (s : State) : GrantsNone s (endKeyLost s) := by
  unfold endKeyLost
  (repeat' split)
  · exact offerAuthority_grantsNone _ s s
  · exact .of_authority rfl
  · exact .of_authority rfl

/-- What follows AUT at a count close leaves AUT as it is (R52). -/
theorem countClose_aut (s : State) :
    (countClose s).aut = (autClose (advancePosition (axlClose (putConfigInForce s)))).aut := by
  simp [countClose, closeBeforeEffort]

theorem countClose_grantsNone (s : State) : GrantsNone s (countClose s) := by
  have before : GrantsNone s (advancePosition (axlClose (putConfigInForce s))) := .of_aut (by simp)
  have close := endKeyLost_grantsNone (advancePosition (axlClose (putConfigInForce s)))
  refine before.trans (close.trans (.of_authority ?_))
  rw [countClose_aut, autClose, reviseVigilance_authority]

/-! ### The taking of an order -/

@[simp] theorem failOrder_aut (p : Port) (tag : Byte) (o : Order) (x : Status) (s : State) :
    (failOrder p tag o x s).aut = s.aut := by
  unfold failOrder; dsimp only; split <;> simp

/-- An order's taking grants authority only if its handling does. -/
theorem takeOrder_grantsNone {p : Port} {tag : Byte} {o : Order} {h : State → State × Answer} {s : State}
    (hh : ∀ t, GrantsNone t (h t).1) : GrantsNone s (takeOrder p tag o h s) := by
  rcases takeOrder_cases p tag o h s with e | ⟨-, x, -, e⟩ | ⟨-, -, e⟩
  · exact .of_authority (by rw [e])
  · exact .of_aut (by rw [e, failOrder_aut, taken_aut])
  · rw [e]
    exact hh (s.taken p)

/-- An order whose handling leaves AUT as it is grants no authority. -/
theorem takeOrder_grantsNone_of_aut {p : Port} {tag : Byte} {o : Order} {h : State → State × Answer} {s : State}
    (hh : ∀ t, (h t).1.aut = t.aut) : GrantsNone s (takeOrder p tag o h s) :=
  takeOrder_grantsNone fun t => .of_aut (hh t)

theorem consumed_aut {p : Port} {tag : Byte} {o : Order} {s t : State} (h : consumed p tag o s = some t) :
    t.aut = s.aut := by
  unfold consumed leaveQueue at h
  split at h
  · cases h
    rfl
  · split at h <;> cases h
    rfl

theorem handleRestart_grantsNone (p : Port) (tag : Byte) (s : State) : GrantsNone s (handleRestart p tag s) := by
  unfold handleRestart
  split
  · exact .of_authority rfl
  · exact .of_not_live (by simp [restartBlocks_authority])

theorem takeRestart_grantsNone (p : Port) (tag : Byte) (s : State) : GrantsNone s (takeRestart p tag s) := by
  unfold takeRestart
  split
  · exact .of_authority rfl
  · next t taken =>
    refine .trans (.of_aut (consumed_aut taken)) ?_
    split
    · exact .of_aut (failOrder_aut ..)
    · exact handleRestart_grantsNone p tag t

/-! ### Every command but CLAIM -/

/-- A command other than CLAIM makes no end live (R6, R7). -/
theorem exec_grantsNone (c : Instr) (s : State) (h : ∀ p tag, c ≠ .claim p tag) :
    ∃ t, exec c s = .next t ∧ GrantsNone s t := by
  cases c with
  | coldReset => exact ⟨_, rfl, .of_not_live (by simp [coldReset_authority])⟩
  | axlePulse axle active => exact ⟨_, rfl, .of_aut rfl⟩
  | countClose => exact ⟨_, rfl, countClose_grantsNone s⟩
  | emergencyInput cab active => exact ⟨_, rfl, .of_aut rfl⟩
  | buttonSample levels => exact ⟨_, rfl, .of_aut (sampleButtons_aut ..)⟩
  | buttonStuck button => exact ⟨_, rfl, .of_aut (stickButton_aut ..)⟩
  | rampStowedChange stowed => exact ⟨_, rfl, .of_aut (rampChange_aut ..)⟩
  | handoverTimerExpiry => exact ⟨_, rfl, handoverExpired_grantsNone s⟩
  | silenceTimerExpiry => exact ⟨_, rfl, .of_authority (silenceExpired_authority s)⟩
  | vigilanceTimerExpiry => exact ⟨_, rfl, .of_authority (vigilanceExpired_authority s)⟩
  | exchangeTimerExpiry junction => exact ⟨_, rfl, .of_aut (by simp)⟩
  | stepExpiry channel => exact ⟨_, rfl, .of_aut (modChannel_aut ..)⟩
  | bellStrokeEnd => exact ⟨_, rfl, .of_aut (modChannel_aut ..)⟩
  | hornMinimum => exact ⟨_, rfl, .of_aut (modChannel_aut ..)⟩
  | gapEnd => exact ⟨_, rfl, .of_aut rfl⟩
  | transmissionCompletion => exact ⟨_, rfl, .of_aut (completeTransmission_aut s)⟩
  | inboundFrameCutOff => exact ⟨_, rfl, .of_aut rfl⟩
  | inboundGapEnd => exact ⟨_, rfl, .of_aut rfl⟩
  | accept tram junction number => exact ⟨_, rfl, .of_aut (receiveAccept_aut ..)⟩
  | setLocked tram junction number => exact ⟨_, rfl, .of_aut (receiveSet_aut ..)⟩
  | refuse tram junction number reason => exact ⟨_, rfl, .of_aut (receiveRefuse_aut ..)⟩
  | lockLost tram junction number => exact ⟨_, rfl, .of_aut (receiveLockLost_aut ..)⟩
  | fix junction => exact ⟨_, rfl, .of_aut (receiveFix_aut ..)⟩
  | frameArrival port frame => exact ⟨_, rfl, .of_aut (frameArrives_aut ..)⟩
  | orderFrameCutOff port => exact ⟨_, rfl, .of_aut rfl⟩
  | key port tag state => exact ⟨_, rfl, takeOrder_grantsNone (handleKey_grantsNone port state)⟩
  | claim port tag => exact absurd rfl (h port tag)
  | lever port tag l grip selector =>
    exact ⟨_, rfl, takeOrder_grantsNone fun t => .of_authority (handleLever_authority l grip selector t)⟩
  | ack port tag => exact ⟨_, rfl, takeOrder_grantsNone fun t => .of_authority (handleAck_authority t)⟩
  | doors port tag sides ramp => exact ⟨_, rfl, takeOrder_grantsNone_of_aut (handleDoors_aut sides ramp)⟩
  | close port tag => exact ⟨_, rfl, takeOrder_grantsNone_of_aut handleClose_aut⟩
  | bell port tag operand => exact ⟨_, rfl, takeOrder_grantsNone_of_aut (handleManual_aut .bell operand)⟩
  | horn port tag operand => exact ⟨_, rfl, takeOrder_grantsNone_of_aut (handleManual_aut .horn operand)⟩
  | retry port tag junction => exact ⟨_, rfl, takeOrder_grantsNone_of_aut (handleRetry_aut junction)⟩
  | override port tag junction => exact ⟨_, rfl, takeOrder_grantsNone_of_aut (handleOverride_aut junction)⟩
  | shift port tag correction => exact ⟨_, rfl, takeOrder_grantsNone_of_aut (handleShift_aut correction)⟩
  | config port tag parameter value => exact ⟨_, rfl, takeOrder_grantsNone_of_aut (handleConfig_aut parameter value)⟩
  | configDone port tag => exact ⟨_, rfl, takeOrder_grantsNone_of_aut handleConfigDone_aut⟩
  | planClear port tag => exact ⟨_, rfl, takeOrder_grantsNone_of_aut (handlePlanClear_aut tag)⟩
  | planClearCompletion => exact ⟨_, rfl, .of_aut (completeClear_aut s)⟩
  | planPut port tag waypoint => exact ⟨_, rfl, takeOrder_grantsNone_of_aut (handlePlanPut_aut waypoint)⟩
  | planSeal port tag count check => exact ⟨_, rfl, takeOrder_grantsNone_of_aut (handlePlanSeal_aut tag count check)⟩
  | planSealCompletion => exact ⟨_, rfl, .of_aut (completeSeal_aut s)⟩
  | planSwitch port tag => exact ⟨_, rfl, takeOrder_grantsNone_of_aut (handlePlanSwitch_aut tag)⟩
  | planWithdraw port tag => exact ⟨_, rfl, takeOrder_grantsNone_of_aut handlePlanWithdraw_aut⟩
  | doorState port tag locked => exact ⟨_, rfl, takeOrder_grantsNone_of_aut (handleDoorState_aut locked)⟩
  | sound port tag program => exact ⟨_, rfl, takeOrder_grantsNone_of_aut (handleSound_aut program)⟩
  | soundBreak port tag channel => exact ⟨_, rfl, takeOrder_grantsNone_of_aut (handleSoundBreak_aut channel)⟩
  | level port tag level => exact ⟨_, rfl, takeOrder_grantsNone_of_aut (handleLevel_aut level)⟩
  | faultTake port tag => exact ⟨_, rfl, takeOrder_grantsNone_of_aut handleFaultTake_aut⟩
  | readFault port tag position => exact ⟨_, rfl, takeOrder_grantsNone_of_aut (handleReadFault_aut position)⟩
  | forceRelease port tag => exact ⟨_, rfl, takeOrder_grantsNone handleForceRelease_grantsNone⟩
  | cut port tag target number action => exact ⟨_, rfl, takeOrder_grantsNone_of_aut (handleCut_aut target number action)⟩
  | preface port tag code first second third =>
    exact ⟨_, rfl, takeOrder_grantsNone_of_aut (handlePreface_aut port code first second third)⟩
  | settle port tag => exact ⟨_, rfl, takeOrder_grantsNone_of_aut (handleSettle_aut port tag)⟩
  | ident port tag => exact ⟨_, rfl, takeOrder_grantsNone fun _ => .of_aut rfl⟩
  | restart port tag => exact ⟨_, rfl, takeRestart_grantsNone port tag s⟩
  | inboundLineChange change => exact ⟨_, rfl, .of_aut (lineChange_aut change s)⟩
  | outboundBitTime => exact ⟨_, rfl, .of_aut rfl⟩
  | orderLinkByteArrival port byte => exact ⟨_, rfl, .of_aut (byteArrives_aut port byte s)⟩
  | outboundFrameSent port => exact ⟨_, rfl, .of_aut rfl⟩

/-- The taking of a KEY from a desk's queue without a live end: the key state and the DONE, nothing more (R3). -/
theorem execKey_noLiveEnd {p : Port} {tag k : Byte} {c : CabEnd} {s : State} (ready : s.ready p tag (.key k))
    (desk : deskEnd p = some c) (operand : k.toNat ≤ 1) (noLive : s.liveEnd = none) :
    execKey p tag k s = .next (({ s.taken p with aut.keys := s.aut.keys.set c (decide (k = 1)) }).sent p
      (finalReply tag (.key k) .done .none)) := by
  have stillNone : (s.taken p).liveEnd = none := noLive
  have handled : handleKey p k (s.taken p)
      = ({ s.taken p with aut.keys := s.aut.keys.set c (decide (k = 1)) }, plain .done) := by
    simp only [handleKey, readKey_of_le_one operand, desk, reportKey_noLiveEnd c _ stillNone, taken_aut]
  rw [execKey, takeOrder_ready ready, handled]
  rfl

/-- Settles O40: every command but CLAIM grants none, and a KEY without a live end records the key state alone. -/
theorem keyOnNeverGrantsAuthority : Obligations.KeyOnNeverGrantsAuthority := by
  unfold Obligations.KeyOnNeverGrantsAuthority
  constructor
  · intro c s t cab taken live
    by_cases isClaim : ∃ p tag, c = .claim p tag
    · exact .inr isClaim
    · obtain ⟨u, next, grantsNone⟩ := exec_grantsNone c s fun p tag e => isClaim ⟨p, tag, e⟩
      cases next.symm.trans taken
      exact .inl (grantsNone cab live)
  · intro p tag k c s ready desk _ operand noLive
    exact execKey_noLiveEnd ready desk operand noLive

end Sys2Proof.Machine
end

section
/-! PROOF. The fault queue across a count close: every raising in it is a NOTICE or a RESTRICT, so a record stored by AXL
is still there at its end unless the queue has been full (R165, R169). -/

namespace Sys2Proof.Machine

/-! ### Records joining at the tail -/

/-- While the fault queue of `t` has room left, it is that of `s` with records joined at its tail. -/
def FaultsJoined (s t : State) : Prop :=
  t.flt.queue.length < 16 → s.flt.queue <+: t.flt.queue

theorem FaultsJoined.of_flt {s t : State} (h : t.flt = s.flt) : FaultsJoined s t :=
  fun _ => by rw [h]

theorem FaultsJoined.trans {s t u : State} (first : FaultsJoined s t) (second : FaultsJoined t u) :
    FaultsJoined s u := fun room =>
  have joined := second room
  (first (Nat.lt_of_le_of_lt joined.length_le room)).trans joined

/-- A change before it that leaves FLT as it is makes no difference. -/
theorem FaultsJoined.from_flt {s s' t : State} (h : s'.flt = s.flt) (joined : FaultsJoined s' t) : FaultsJoined s t :=
  (FaultsJoined.of_flt h).trans joined

/-- Making room gives up at most one record (R169). -/
theorem length_le_makeRoom (q : List FaultRecord) : q.length ≤ (makeRoom q).length + 1 := by
  have erased : ∀ f : FaultRecord → Bool, q.length ≤ (q.eraseP f).length + 1 := fun f => by
    rw [List.length_eraseP]
    split <;> omega
  unfold makeRoom
  split
  · exact Nat.le_succ _
  · split
    · exact erased _
    · split <;> exact erased _

theorem storeFault_joined (k : FaultKind) (c : FaultClass) (key : FaultKey) (tag : Option Byte) (s : State) :
    FaultsJoined s (storeFault k c key tag s) := by
  intro room
  have stored : (storeFault k c key tag s).flt.queue = makeRoom s.flt.queue ++ [newRecord k c key tag s] := rfl
  have atMostOne := length_le_makeRoom s.flt.queue
  rw [stored, List.length_append, List.length_singleton] at room
  rw [stored, (makeRoom_made _).1 (by omega)]
  exact List.prefix_append _ _

theorem raiseNotice_joined (k : FaultKind) (key : FaultKey) (s : State) : FaultsJoined s (raiseNotice k key s) :=
  storeFault_joined k .notice key none s

theorem raiseRestrict_joined (k : FaultKind) (key : FaultKey) (s : State) : FaultsJoined s (raiseRestrict k key s) :=
  storeFault_joined k .restrict key none s

/-- A fold joins records where each of its steps does. -/
theorem foldl_joined {α : Type} {f : State → α → State} (h : ∀ s a, FaultsJoined s (f s a)) :
    ∀ (l : List α) (s : State), FaultsJoined s (l.foldl f s)
  | [], _ => .of_flt rfl
  | a :: l, s => (h s a).trans (foldl_joined h l (f s a))

/-! ### The blocks that follow AXL (R52) -/

theorem passClearance_joined (b : BankName) (i : Nat) (s : State) : FaultsJoined s (passClearance b i s) := by
  unfold passClearance
  split
  · exact .of_flt rfl
  · split
    · exact .of_flt rfl
    · dsimp only
      split
      case h_1 | h_7 | h_8 => exact .of_flt (by simp)
      all_goals exact .from_flt (by simp) (raiseNotice_joined _ _ _)

theorem passWindowEnd_joined (b : BankName) (i : Nat) (s : State) : FaultsJoined s (passWindowEnd b i s) := by
  unfold passWindowEnd
  split
  · exact .of_flt rfl
  · split
    · exact .of_flt rfl
    · dsimp only
      (repeat' split)
      · exact .from_flt (by simp) (raiseNotice_joined _ _ _)
      · exact .of_flt (by simp)
      · exact .from_flt (by simp) (raiseNotice_joined _ _ _)
      · exact .of_flt (by simp)

theorem firePlanEnd_joined (s : State) : FaultsJoined s (firePlanEnd s) :=
  .from_flt rfl (raiseRestrict_joined _ _ _)

theorem fireMark_joined (b : BankName) (s : State) (m : Mark) : FaultsJoined s (fireMark b s m) := by
  cases m with
  | request i => exact .of_flt (by simp [fireMark])
  | approach i => exact .of_flt (by simp [fireMark])
  | stand i => exact .of_flt (by simp [fireMark])
  | clearance i => exact .from_flt (by simp) (passClearance_joined b i _)
  | window i => exact .from_flt (by simp) (passWindowEnd_joined b i _)
  | planEnd => exact firePlanEnd_joined s

theorem fireMarks_joined (s : State) : FaultsJoined s (fireMarks s) := by
  unfold fireMarks
  split
  · exact .of_flt rfl
  · exact foldl_joined (fireMark_joined _) _ s

theorem advancePosition_joined (s : State) : FaultsJoined s (advancePosition s) := by
  unfold advancePosition
  dsimp only
  rcases moveTo_cases (advanced s).1 { s with pth.rem := (advanced s).2 } with ⟨-, h⟩ | ⟨-, h⟩ <;> rw [h]
  · exact .from_flt rfl (fireMarks_joined _)
  · exact .of_flt rfl

theorem setUpPlan_joined (b : BankName) (s : State) : FaultsJoined s (setUpPlan b s) := by
  unfold setUpPlan
  dsimp only
  split
  · exact .from_flt (by simp) (firePlanEnd_joined _)
  · exact .of_flt (by simp)

theorem carryRequest_joined (o : Option Nat) (s : State) : FaultsJoined s (carryRequest o s) := by
  unfold carryRequest
  split
  · split
    · exact .of_flt rfl
    · exact .from_flt rfl (raiseNotice_joined _ _ _)
  · exact .of_flt rfl

theorem switchPlans_joined (s : State) : FaultsJoined s (switchPlans s) :=
  .trans (.from_flt (turnBanks_flt s) (setUpPlan_joined _ _)) (carryRequest_joined _ _)

theorem examineSwitch_joined (s : State) : FaultsJoined s (examineSwitch s) := by
  rcases examineSwitch_cases s with ⟨-, -, -, h⟩ | h <;> rw [h]
  · exact (switchPlans_joined s).trans (.of_flt (completePlan_flt _ _ _))
  · exact .of_flt rfl

/-! ### EFF -/

theorem setEmergency_joined (seen1 seen2 : Bool) (s : State) : FaultsJoined s (setEmergency seen1 seen2 s) := by
  have raised : ∀ (seen : Bool) (cab : CabEnd) (t : State),
      FaultsJoined t (if seen then raiseNotice .emergencyBrake (.cab cab) t else t) := fun seen cab t => by
    split
    · exact raiseNotice_joined _ _ _
    · exact .of_flt rfl
  exact .from_flt (s' := { s with eff.latch := true }) rfl
    ((raised seen1 .one _).trans ((raised seen2 .two _).trans (.of_flt (by simp [setEmergency]))))

theorem noteOverspeed_joined (s : State) : FaultsJoined s (noteOverspeed s) := by
  unfold noteOverspeed
  split
  · exact .from_flt rfl (raiseNotice_joined _ _ _)
  · exact .of_flt rfl

theorem limitEffort_joined (e : Int) (s : State) : FaultsJoined s (limitEffort e s) :=
  .trans (.from_flt (countSettle_flt s) (noteOverspeed_joined _)) (.of_flt rfl)

theorem reviseHold_joined (s : State) : FaultsJoined s (reviseHold s) := by
  unfold reviseHold
  (repeat' split)
  case isFalse.isTrue => exact .from_flt rfl (raiseNotice_joined _ _ _)
  all_goals exact .of_flt rfl

theorem runEffort_joined (seen1 seen2 : Bool) (s : State) : FaultsJoined s (runEffort seen1 seen2 s) := by
  unfold runEffort
  split
  · split
    · exact .from_flt (clearEmergency_flt s) (limitEffort_joined _ _)
    · exact .of_flt rfl
  · split
    · exact (setEmergency_joined seen1 seen2 s).trans (.of_flt rfl)
    · exact limitEffort_joined _ s

theorem runClose_joined (seen1 seen2 : Bool) (s : State) : FaultsJoined s (runClose seen1 seen2 s) := by
  refine .trans ?_ (reviseHold_joined _)
  exact (runEffort_joined seen1 seen2 s).trans (.of_flt rfl)

theorem haltEmergency_joined (seen1 seen2 : Bool) (s : State) : FaultsJoined s (haltEmergency seen1 seen2 s) := by
  unfold haltEmergency
  split
  · split
    · exact .of_flt (clearEmergency_flt s)
    · exact .of_flt rfl
  · split
    · exact setEmergency_joined seen1 seen2 s
    · exact .of_flt rfl

theorem haltClose_joined (seen1 seen2 : Bool) (s : State) : FaultsJoined s (haltClose seen1 seen2 s) :=
  (haltEmergency_joined seen1 seen2 s).trans (.of_flt rfl)

theorem effClose_joined (s : State) : FaultsJoined s (effClose s) := by
  unfold effClose
  dsimp only
  (repeat' split)
  · exact .of_flt (by simp)
  · exact .from_flt (by simp) (haltClose_joined _ _ _)
  · exact .from_flt (by simp) (runClose_joined _ _ _)

/-- What follows AXL at a count close leaves the fault queue, or joins records to it. -/
theorem countClose_joined (s : State) : FaultsJoined (axlClose (putConfigInForce s)) (countClose s) := by
  have position := advancePosition_joined (axlClose (putConfigInForce s))
  have switch := examineSwitch_joined (dwellCheck (autClose (advancePosition (axlClose (putConfigInForce s)))))
  have effort := effClose_joined (closeBeforeEffort s)
  refine position.trans (.trans (.from_flt (by simp) switch) (.trans (.of_flt ?_) (effort.trans (.of_flt ?_))))
  · simp [closeBeforeEffort]
  · simp [countClose]

/-! ### A RESTRICT record stored in a count close -/

/-- A RESTRICT record of a kind and key, raised at a position, is in the queue of `t` while that has room left. -/
def RestrictStored (k : FaultKind) (key : FaultKey) (p : Nat) (t : State) : Prop :=
  t.flt.queue.length < 16 →
    ∃ r ∈ t.flt.queue, r.kind = k ∧ r.cls = .restrict ∧ r.key = key ∧ r.p = p ∧ r.tag = none

theorem RestrictStored.joined {k : FaultKind} {key : FaultKey} {p : Nat} {s t : State} (stored : RestrictStored k key p s)
    (joined : FaultsJoined s t) : RestrictStored k key p t := fun room =>
  have front := joined room
  have ⟨r, mem, fields⟩ := stored (Nat.lt_of_le_of_lt front.length_le room)
  ⟨r, front.subset mem, fields⟩

theorem raiseRestrict_stored (k : FaultKind) (key : FaultKey) (s : State) :
    RestrictStored k key s.pth.p (raiseRestrict k key s) := fun _ =>
  ⟨newRecord k .restrict key none s, by simp [raiseRestrict, storeFault], rfl, rfl, rfl, rfl, rfl⟩

/-- AXLE_IMPLAUSIBLE raised for each axle of a list. -/
theorem raiseFaulty_stored {a : Axle} {l : List Axle} (s : State) (mem : a ∈ l) :
    RestrictStored .axleImplausible (.axle a) s.pth.p
      (l.foldl (fun t b => raiseRestrict .axleImplausible (.axle b) t) s) := by
  induction l generalizing s with
  | nil => cases mem
  | cons b l ih =>
    rcases List.mem_cons.mp mem with rfl | later
    · exact (raiseRestrict_stored _ _ s).joined (foldl_joined (fun _ _ => raiseRestrict_joined _ _ _) l _)
    · have stored := ih (raiseRestrict .axleImplausible (.axle b) s) later
      rwa [raiseRestrict_pth] at stored

end Sys2Proof.Machine
end

section
/-! PROOF. The axles and the reference speed record of a count close (R43 to R45, R49 to R52). -/

namespace Sys2Proof.Machine

/-! ### The best of a list of axles -/

theorem bestAxle_eq_none {f : AxleState → Int} : ∀ {l : List (Axle × AxleState)}, bestAxle f l = none → l = []
  | [], _ => rfl
  | x :: rest, h => by
    unfold bestAxle at h
    split at h
    · cases h
    · split at h <;> cases h

theorem exists_bestAxle (f : AxleState → Int) {l : List (Axle × AxleState)} (h : l ≠ []) : ∃ y, bestAxle f l = some y :=
  Option.ne_none_iff_exists'.mp fun noBest => h (bestAxle_eq_none noBest)

/-- Whether the front axle or the best of the rest is the best one. -/
theorem bestAxle_cons {f : AxleState → Int} {x y : Axle × AxleState} {rest : List (Axle × AxleState)}
    (h : bestAxle f (x :: rest) = some y) :
    (y = x ∧ (rest = [] ∨ ∃ z, bestAxle f rest = some z ∧ f z.2 ≤ f x.2))
      ∨ (bestAxle f rest = some y ∧ f x.2 < f y.2) := by
  unfold bestAxle at h
  split at h
  · next noBest => cases h; exact .inl ⟨rfl, .inl (bestAxle_eq_none noBest)⟩
  · next z best =>
    split at h
    · next less => cases h; exact .inr ⟨best, less⟩
    · next notLess => cases h; exact .inl ⟨rfl, .inr ⟨z, best, Int.not_lt.mp notLess⟩⟩

/-- The best axle has the greatest `f`, and of those that tie the lowest number. -/
theorem bestAxle_spec {f : AxleState → Int} {l : List (Axle × AxleState)} {y : Axle × AxleState}
    (sorted : l.Pairwise fun u v => axleNumber u.1 < axleNumber v.1) (h : bestAxle f l = some y) :
    y ∈ l ∧ ∀ x ∈ l, f x.2 ≤ f y.2 ∧ (axleNumber x.1 < axleNumber y.1 → f x.2 < f y.2) := by
  induction l generalizing y with
  | nil => cases h
  | cons x rest ih =>
    obtain ⟨front, sortedRest⟩ := List.pairwise_cons.mp sorted
    rcases bestAxle_cons h with ⟨rfl, tail⟩ | ⟨best, less⟩
    · refine ⟨List.mem_cons_self, List.forall_mem_cons.mpr ⟨⟨Int.le_refl _, fun lower => ?_⟩, fun u later => ?_⟩⟩
      · exact absurd lower (Nat.lt_irrefl _)
      · refine ⟨?_, fun lower => absurd lower (Nat.lt_asymm (front u later))⟩
        rcases tail with rfl | ⟨z, best, le⟩
        · cases later
        · exact Int.le_trans ((ih sortedRest best).2 u later).1 le
    · obtain ⟨memRest, greatest⟩ := ih sortedRest best
      exact ⟨List.mem_cons_of_mem _ memRest,
        List.forall_mem_cons.mpr ⟨⟨Int.le_of_lt less, fun _ => less⟩, greatest⟩⟩

theorem mem_axles {t : PerAxle AxleState} {x : Axle × AxleState} : x ∈ t.list ↔ x.2 = t.get x.1 := by
  obtain ⟨a, y⟩ := x
  cases a <;> simp [PerAxle.list, PerAxle.get]

theorem axles_sorted (t : PerAxle AxleState) : t.list.Pairwise fun u v => axleNumber u.1 < axleNumber v.1 := by
  simp [PerAxle.list, axleNumber]

/-- Among the axles that pass a test there is a best one, if any passes it; it has the least `-f` of them. -/
theorem exists_leastAxle (t : PerAxle AxleState) (test : AxleState → Bool) (f : AxleState → Int)
    (some_axle : (t.list.filter fun x => test x.2) ≠ []) :
    ∃ a, bestAxle f (t.list.filter fun x => test x.2) = some (a, t.get a)
      ∧ leastAxle (fun b => test (t.get b) = true) (fun b => -f (t.get b)) a := by
  obtain ⟨⟨a, x⟩, best⟩ := exists_bestAxle f some_axle
  obtain ⟨mem, greatest⟩ := bestAxle_spec ((axles_sorted t).filter _) best
  obtain ⟨inList, passes⟩ := List.mem_filter.mp mem
  have values : x = t.get a := mem_axles.mp inList
  subst values
  have among : ∀ b, test (t.get b) = true → (b, t.get b) ∈ t.list.filter fun x => test x.2 := fun b passes =>
    List.mem_filter.mpr ⟨mem_axles.mpr rfl, passes⟩
  exact ⟨a, best, passes, fun b hb => Int.neg_le_neg (greatest _ (among b hb)).1,
    fun b hb lower => Int.neg_lt_neg ((greatest _ (among b hb)).2 lower)⟩

/-- The least speed is that of the axle best by `-speed`. -/
theorem leastSpeed_eq {l : List (Axle × AxleState)} {y : Axle × AxleState}
    (h : bestAxle (fun x => -x.speed) l = some y) : leastSpeed l = y.2.speed := by
  induction l generalizing y with
  | nil => cases h
  | cons x rest ih =>
    have ofRest : ∀ {z}, bestAxle (fun x => -x.speed) rest = some z →
        leastSpeed (x :: rest) = min x.2.speed z.2.speed := fun {z} best => by
      rw [← ih best]
      cases rest with
      | nil => cases best
      | cons u rest => rfl
    rcases bestAxle_cons h with ⟨rfl, rfl | ⟨z, best, le⟩⟩ | ⟨best, less⟩
    · rfl
    · rw [ofRest best]; omega
    · rw [ofRest best]; omega

/-- The greatest speed is that of the axle best by `speed`. -/
theorem greatestSpeed_eq {l : List (Axle × AxleState)} {y : Axle × AxleState}
    (h : bestAxle (fun x => x.speed) l = some y) : greatestSpeed l = y.2.speed := by
  induction l generalizing y with
  | nil => cases h
  | cons x rest ih =>
    have ofRest : ∀ {z}, bestAxle (fun x => x.speed) rest = some z →
        greatestSpeed (x :: rest) = max x.2.speed z.2.speed := fun {z} best => by
      rw [← ih best]
      cases rest with
      | nil => cases best
      | cons u rest => rfl
    rcases bestAxle_cons h with ⟨rfl, rfl | ⟨z, best, le⟩⟩ | ⟨best, less⟩
    · rfl
    · rw [ofRest best]; omega
    · rw [ofRest best]; omega

/-! ### The reference axle and v_dir (R50, R51) -/

/-- An axle of `t` is VALID (R46). -/
abbrev isValid (t : PerAxle AxleState) (a : Axle) : Prop :=
  (t.get a).mark = .valid

/-- The best VALID axle, where there are two of them. -/
theorem exists_leastValid {t : PerAxle AxleState} (known : unknownSpeed t = false) (f : AxleState → Int) :
    ∃ a, bestAxle f (validAxles t) = some (a, t.get a) ∧ leastAxle (isValid t) (fun b => -f (t.get b)) a := by
  have nonempty : validAxles t ≠ [] := fun nil => by simp [unknownSpeed, nil] at known
  obtain ⟨a, best, least⟩ := exists_leastAxle t (fun x => x.mark == .valid) f nonempty
  exact ⟨a, best, by simpa using least⟩

theorem reference_known {e : Int} {t : PerAxle AxleState} (known : unknownSpeed t = false) :
    reference e t = chooseReference e (validAxles t) := by
  simp [reference, known]

/-- Under power the VALID axle of smallest magnitude is chosen. -/
theorem reference_power {e : Int} {t : PerAxle AxleState} (known : unknownSpeed t = false) (power : 0 < e) :
    ∃ a, reference e t = (some (a, t.get a), (t.get a).speed)
      ∧ leastAxle (isValid t) (fun b => ((t.get b).speed.natAbs : Int)) a := by
  obtain ⟨a, best, least⟩ := exists_leastValid known fun x => -(x.speed.natAbs : Int)
  exact ⟨a, by simp only [reference_known known, chooseReference, if_pos power, best, Option.map_some, Option.getD_some],
    by simpa only [Int.neg_neg] using least⟩

/-- Under brake the VALID axle of largest magnitude is chosen. -/
theorem reference_brake {e : Int} {t : PerAxle AxleState} (known : unknownSpeed t = false) (brake : e < 0) :
    ∃ a, reference e t = (some (a, t.get a), (t.get a).speed)
      ∧ leastAxle (isValid t) (fun b => -((t.get b).speed.natAbs : Int)) a := by
  obtain ⟨a, best, least⟩ := exists_leastValid known fun x => (x.speed.natAbs : Int)
  have noPower : ¬ 0 < e := Int.not_lt.mpr (Int.le_of_lt brake)
  exact ⟨a, by simp only [reference_known known, chooseReference, if_neg noPower, if_pos brake, best, Option.map_some,
    Option.getD_some], least⟩

/-- At E = 0 v_dir is the midpoint of the extremes, and the VALID axle nearest it is chosen. -/
theorem reference_coast {e : Int} {t : PerAxle AxleState} (known : unknownSpeed t = false) (coast : e = 0) :
    ∃ a lo hi mid, reference e t = (some (a, t.get a), mid)
      ∧ leastAxle (isValid t) (fun b => (t.get b).speed) lo
      ∧ leastAxle (isValid t) (fun b => -(t.get b).speed) hi
      ∧ mid = Int.tdiv ((t.get lo).speed + (t.get hi).speed) 2
      ∧ leastAxle (isValid t) (fun b => (((t.get b).speed - mid).natAbs : Int)) a := by
  subst coast
  obtain ⟨lo, bestLo, leastLo⟩ := exists_leastValid known fun x => -x.speed
  obtain ⟨hi, bestHi, leastHi⟩ := exists_leastValid known fun x => x.speed
  obtain ⟨a, best, nearest⟩ := exists_leastValid known fun x =>
    -((x.speed - Int.tdiv ((t.get lo).speed + (t.get hi).speed) 2).natAbs : Int)
  refine ⟨a, lo, hi, _, ?_, by simpa only [Int.neg_neg] using leastLo, leastHi, rfl,
    by simpa only [Int.neg_neg] using nearest⟩
  have mid : truncDiv (leastSpeed (validAxles t) + greatestSpeed (validAxles t)) 2
      = Int.tdiv ((t.get lo).speed + (t.get hi).speed) 2 := by
    rw [leastSpeed_eq bestLo, greatestSpeed_eq bestHi]; rfl
  simp only [reference_known known, chooseReference, Int.lt_irrefl, if_false, mid, best]

theorem reference_unknown {e : Int} {t : PerAxle AxleState} (unknown : unknownSpeed t = true) :
    reference e t = (bestAxle (fun x => (x.speed.natAbs : Int)) (uncutAxles t),
      ((bestAxle (fun x => (x.speed.natAbs : Int)) (uncutAxles t)).map fun x => x.2.speed).getD 0) := by
  simp [reference, unknown]

/-- Under UNKNOWN the axle of largest magnitude is chosen among those that are not CUT. -/
theorem reference_uncut {e : Int} {t : PerAxle AxleState} (unknown : unknownSpeed t = true)
    (uncut : ∃ a, (t.get a).mark ≠ .cut) :
    ∃ a, reference e t = (some (a, t.get a), (t.get a).speed)
      ∧ leastAxle (fun b => (t.get b).mark ≠ .cut) (fun b => -((t.get b).speed.natAbs : Int)) a := by
  obtain ⟨b, notCut⟩ := uncut
  have mem : (b, t.get b) ∈ uncutAxles t := List.mem_filter.mpr ⟨mem_axles.mpr rfl, by simpa using notCut⟩
  obtain ⟨a, best, least⟩ := exists_leastAxle t (fun x => x.mark != .cut) (fun x => (x.speed.natAbs : Int))
    (List.ne_nil_of_mem mem)
  have best : bestAxle (fun x => (x.speed.natAbs : Int)) (uncutAxles t) = some (a, t.get a) := best
  exact ⟨a, by simp only [reference_unknown unknown, best, Option.map_some, Option.getD_some], by simpa using least⟩

/-- Under UNKNOWN with every axle CUT no axle is chosen. -/
theorem reference_allCut {e : Int} {t : PerAxle AxleState} (unknown : unknownSpeed t = true)
    (allCut : ∀ a, (t.get a).mark = .cut) : reference e t = (none, 0) := by
  have nil : uncutAxles t = [] := List.filter_eq_nil_iff.mpr fun x mem => by simp [mem_axles.mp mem, allCut]
  simp [reference_unknown unknown, nil, bestAxle]

/-- The axle chosen comes with its own values. -/
theorem reference_values {e : Int} {t : PerAxle AxleState} {x : Axle × AxleState} (h : (reference e t).1 = some x) :
    x.2 = t.get x.1 := by
  cases known : unknownSpeed t with
  | true =>
    by_cases uncut : ∃ a, (t.get a).mark ≠ .cut
    · obtain ⟨a, chosen, -⟩ := reference_uncut (e := e) known uncut
      rw [chosen] at h; cases h; rfl
    · rw [reference_allCut known (by simpa using uncut)] at h; cases h
  | false =>
    rcases Int.lt_trichotomy e 0 with brake | coast | power
    · obtain ⟨a, chosen, -⟩ := reference_brake known brake
      rw [chosen] at h; cases h; rfl
    · obtain ⟨a, lo, hi, mid, chosen, -⟩ := reference_coast known coast
      rw [chosen] at h; cases h; rfl
    · obtain ⟨a, chosen, -⟩ := reference_power known power
      rw [chosen] at h; cases h; rfl

/-! ### An axle at a count close (R43 to R45, R49) -/

/-- Rounding to the nearest, halves away from zero (Conventions), for hundredths. -/
theorem roundDiv_hundred (n : Int) : roundDiv n 100 = n.sign * (((n.natAbs + 50) / 100 : Nat) : Int) := by
  have halves : (2 * n.natAbs + 100) / (2 * 100) = (n.natAbs + 50) / 100 := by omega
  unfold roundDiv
  rw [halves]
  rcases Int.lt_trichotomy n 0 with neg | rfl | pos
  · simp [neg, Int.sign_eq_neg_one_of_neg neg]
  · rfl
  · simp [Int.not_lt.mpr (Int.le_of_lt pos), Int.sign_eq_one_of_pos pos]

theorem resign_eq (c : CabEnd) (n : Int) : resign c n = (if c = .one then 1 else -1) * n := by
  cases c <;> simp [resign]

theorem axleSpeed_eq (d : Int) (c : CabEnd) (w : Window) :
    axleSpeed d c w = (if c = .one then (windowSum w * d).sign else -(windowSum w * d).sign)
      * ((((windowSum w * d).natAbs + 50) / 100 : Nat) : Int) := by
  cases c <;> simp [axleSpeed, resign, roundDiv_hundred]

@[simp] theorem testAxle_net (t : PerAxle AxleState) (x : AxleState) : (testAxle t x).net = x.net := by
  unfold testAxle; (repeat' split) <;> rfl

@[simp] theorem testAxle_window (t : PerAxle AxleState) (x : AxleState) : (testAxle t x).window = x.window := by
  unfold testAxle; (repeat' split) <;> rfl

@[simp] theorem testAxle_speed (t : PerAxle AxleState) (x : AxleState) : (testAxle t x).speed = x.speed := by
  unfold testAxle; (repeat' split) <;> rfl

/-- How many axles are fast, said over the axles' names. -/
theorem fastAxles_eq (t : PerAxle AxleState) :
    fastAxles t = ([Axle.a1, .a2, .a3, .a4].filter fun b =>
      (t.get b).mark = .valid ∧ 2000 < (t.get b).speed.natAbs).length := by
  have named : t.list = [Axle.a1, .a2, .a3, .a4].map fun b => (b, t.get b) := rfl
  rw [fastAxles, named, List.countP_map, List.countP_eq_length_filter]
  congr 2
  funext b
  exact (Bool.decide_and ..).symm

theorem mem_newlyFaulty {t : PerAxle AxleState} {a : Axle} (test : implausible t (t.get a) = true)
    (full : 100 ≤ (t.get a).run + 1) : a ∈ newlyFaulty t :=
  List.mem_filterMap.mpr ⟨(a, t.get a), mem_axles.mpr rfl, if_pos ⟨test, full⟩⟩

/-! ### AXL at a count close -/

/-- The axles of a count close before the implausibility test: counted, with the pending parameters in force. -/
def State.countedAxles (s : State) : PerAxle AxleState :=
  s.axl.axles.map (closeAxle ((putConfigInForce s).cfg .pulseDist) s.directionEnd)

/-- The axles as the implausibility test of a count close leaves them. -/
def State.testedAxles (s : State) : PerAxle AxleState :=
  s.countedAxles.map (testAxle s.countedAxles)

theorem countedAxles_get (s : State) (a : Axle) :
    s.countedAxles.get a = closeAxle ((putConfigInForce s).cfg .pulseDist) s.directionEnd (s.axl.axles.get a) :=
  get_map_axle _ _ a

theorem countedAxles_run (s : State) (a : Axle) : (s.countedAxles.get a).run = (s.axl.axles.get a).run := by
  rw [countedAxles_get]; rfl

theorem countedAxles_mark (s : State) (a : Axle) : (s.countedAxles.get a).mark = s.markOf a := by
  rw [countedAxles_get]; rfl

theorem testedAxles_get (s : State) (a : Axle) :
    s.testedAxles.get a = testAxle s.countedAxles (s.countedAxles.get a) :=
  get_map_axle _ _ a

/-- What follows AXL at a count close leaves AXL but for the sand output (R52, R56). -/
theorem countClose_axl (s : State) :
    (countClose s).axl
      = { (axlClose (putConfigInForce s)).axl with sand := (effClose (closeBeforeEffort s)).sandCondition } := by
  simp [countClose, updateSand, closeBeforeEffort]

@[simp] theorem countClose_axles (s : State) : (countClose s).axl.axles = s.testedAxles := by
  rw [countClose_axl]; rfl

@[simp] theorem countClose_record (s : State) :
    (countClose s).axl.record = speedRecord s.eff.e s.directionEnd s.testedAxles := by
  rw [countClose_axl]; rfl

@[simp] theorem countClose_prev (s : State) : (countClose s).axl.prev = s.axl.record.v := by
  rw [countClose_axl]; rfl

@[simp] theorem countClose_speedOf (s : State) : (countClose s).speedOf = fun a => (s.testedAxles.get a).speed := by
  funext a
  simp [State.speedOf]

@[simp] theorem countClose_markOf (s : State) (a : Axle) : (countClose s).markOf a = (s.testedAxles.get a).mark := by
  simp [State.markOf]

/-- The period count of R43 is the newest of the window, and the net count starts again. -/
theorem testedAxles_window (s : State) (a : Axle) :
    (s.testedAxles.get a).window = pushWindow (periodCount (s.axl.axles.get a).net) (s.axl.axles.get a).window := by
  rw [testedAxles_get, testAxle_window, countedAxles_get, closeAxle]

theorem testedAxles_net (s : State) (a : Axle) : (s.testedAxles.get a).net = 0 := by
  rw [testedAxles_get, testAxle_net, countedAxles_get, closeAxle]

theorem testedAxles_speed (s : State) (a : Axle) :
    (s.testedAxles.get a).speed
      = axleSpeed ((putConfigInForce s).cfg .pulseDist) s.directionEnd (s.testedAxles.get a).window := by
  rw [testedAxles_window, testedAxles_get, testAxle_speed, countedAxles_get, closeAxle]

/-! ### The parameters at a count close (R193) -/

@[simp] theorem completeSlot_config (p : Port) (d : Deferred) (x : Status) (r : Slot → Results) (s : State) :
    (completeSlot p d x r s).ord.config = s.ord.config := by
  unfold completeSlot; (repeat' split) <;> simp

@[simp] theorem completeSettle_config (p : Port) (s : State) : (completeSettle s p).ord.config = s.ord.config := by
  unfold completeSettle; (repeat' split) <;> simp

@[simp] theorem settleCheck_config (s : State) : (settleCheck s).ord.config = s.ord.config := by
  rcases settleCheck_cases s with ⟨-, h⟩ | ⟨-, h⟩ <;> rw [h]
  exact foldl_keeps (g := fun s => s.ord.config) (fun t p => completeSettle_config p t) _ s

@[simp] theorem examineSwitch_config (s : State) : (examineSwitch s).ord.config = s.ord.config := by
  rcases examineSwitch_cases s with ⟨-, -, -, h⟩ | h <;> rw [h]
  simp [completeSwitch, completePlan]

@[simp] theorem pictureClose_config (s : State) : (pictureClose s).ord.config = s.ord.config := by
  unfold pictureClose; split <;> rfl

/-- The parameters after a count close are those that were put in force at its beginning. -/
@[simp] theorem countClose_cfg (s : State) (q : Param) : (countClose s).cfg q = (putConfigInForce s).cfg q := by
  simp [State.cfg, countClose, closeBeforeEffort]

/-! ### The implausibility test (R49) -/

/-- The test of R49, over the marks before the count close and the speeds it computes. -/
theorem implausible_iff (s : State) (a : Axle) :
    implausible s.countedAxles (s.countedAxles.get a) = true ↔
      s.markOf a = .valid ∧ ((countClose s).speedOf a).natAbs < 100
        ∧ 2 ≤ ([Axle.a1, .a2, .a3, .a4].filter fun b =>
            s.markOf b = .valid ∧ 2000 < ((countClose s).speedOf b).natAbs).length := by
  have tested : ∀ b, (s.testedAxles.get b).speed = (s.countedAxles.get b).speed := fun b => by
    rw [testedAxles_get, testAxle_speed]
  simp [implausible, fastAxles_eq, countedAxles_mark, tested, and_assoc]

/-- The state of a count close once AXLE_IMPLAUSIBLE has been raised for every axle that the test marks FAULTY. -/
def State.implausibleRaised (s : State) : State :=
  (newlyFaulty s.countedAxles).foldl (fun t a => raiseRestrict .axleImplausible (.axle a) t) (putConfigInForce s)

/-- AXL raises nothing else at a count close but SPEED_UNKNOWN, where UNKNOWN begins (R49, R51). -/
theorem axlClose_flt (s : State) :
    (axlClose (putConfigInForce s)).flt
      = if unknownSpeed s.testedAxles = true ∧ s.axl.record.unknown = false then
          (raiseRestrict .speedUnknown .none s.implausibleRaised).flt
        else s.implausibleRaised.flt := by
  have begins : (unknownSpeed s.testedAxles && !s.axl.record.unknown) = true
      ↔ unknownSpeed s.testedAxles = true ∧ s.axl.record.unknown = false := by simp
  rw [← if_congr begins rfl rfl]
  exact apply_ite State.flt _ _ _

/-- An axle marked FAULTY has its AXLE_IMPLAUSIBLE record (R49). -/
theorem countClose_axleImplausible {s : State} {a : Axle}
    (test : implausible s.countedAxles (s.countedAxles.get a) = true) (full : 100 ≤ (s.axl.axles.get a).run + 1) :
    RestrictStored .axleImplausible (.axle a) s.pth.p (countClose s) := by
  have mem : a ∈ newlyFaulty s.countedAxles := mem_newlyFaulty test (by rwa [countedAxles_run])
  have stored : RestrictStored .axleImplausible (.axle a) s.pth.p s.implausibleRaised :=
    raiseFaulty_stored (putConfigInForce s) mem
  refine (stored.joined ?_).joined (countClose_joined s)
  have flt := axlClose_flt s
  split at flt
  · exact (raiseRestrict_joined .speedUnknown .none s.implausibleRaised).trans (.of_flt flt)
  · exact .of_flt flt

/-- The beginning of UNKNOWN has its SPEED_UNKNOWN record (R51). -/
theorem countClose_speedUnknown {s : State} (unknown : unknownSpeed s.testedAxles = true)
    (known : s.axl.record.unknown = false) : RestrictStored .speedUnknown .none s.pth.p (countClose s) := by
  have stored := raiseRestrict_stored .speedUnknown .none s.implausibleRaised
  have position : s.implausibleRaised.pth = s.pth := raiseFaulty_pth _ (putConfigInForce s)
  rw [position] at stored
  refine (stored.joined (.of_flt ?_)).joined (countClose_joined s)
  rw [axlClose_flt, if_pos ⟨unknown, known⟩]

/-- What R49 makes of an axle's mark and run counter. -/
theorem testedAxles_markRun (s : State) (a : Axle) :
    ((s.testedAxles.get a).mark, (s.testedAxles.get a).run)
      = if implausible s.countedAxles (s.countedAxles.get a) = true then
          if (s.axl.axles.get a).run + 1 < 100 then (s.markOf a, (s.axl.axles.get a).run + 1) else (.faulty, 0)
        else (s.markOf a, 0) := by
  rw [testedAxles_get, testAxle, countedAxles_run]
  (repeat' split) <;> simp [countedAxles_mark]

/-! ### The statements -/

/-- Settles O4: the pulse is one update of its axle, the count close takes the net count through `testedAxles`. -/
theorem axlePulseCountsOne : Obligations.AxlePulseCountsOne := by
  unfold Obligations.AxlePulseCountsOne
  constructor
  · intro a active s
    refine ⟨_, rfl, ?_, ?_, ?_, rfl⟩
    · simp [countPulse]
    · simp [countPulse]
    · exact fun b other => get_set_axle_ne _ _ other
  · intro a s
    refine ⟨countClose s, rfl, ?_, ?_⟩
    · rw [countClose_axles, testedAxles_window]; rfl
    · rw [countClose_axles, testedAxles_net]

/-- Settles O5: every window of `testedAxles` is the old one with the period count pushed. -/
theorem countCloseMovesEveryWindow : Obligations.CountCloseMovesEveryWindow := by
  unfold Obligations.CountCloseMovesEveryWindow
  refine fun s => ⟨countClose s, rfl, fun a => ⟨?_, ?_⟩⟩
  · rw [countClose_axles, testedAxles_window]; rfl
  · rw [countClose_axles, testedAxles_net]

theorem countClose_unknown (s : State) : (countClose s).axl.record.unknown = unknownSpeed s.testedAxles := by
  rw [countClose_record]; rfl

/-- The record publishes the reference axle and v_dir (R52). -/
theorem countClose_publishes {s : State} {a : Axle} {x : AxleState} {n : Int}
    (chosen : reference s.eff.e s.testedAxles = (some (a, x), n)) :
    (countClose s).axl.record.axle = some a ∧ (countClose s).axl.record.vDir = n := by
  simp [speedRecord, chosen]

/-- The record's n_ref is the reference axle's newest count, re-signed (R50, R52). -/
theorem countClose_nRef {s : State} {a : Axle} (h : (countClose s).axl.record.axle = some a) :
    (countClose s).axl.record.nRef = resign s.directionEnd (s.testedAxles.get a).window.c4 := by
  rw [countClose_record] at h ⊢
  obtain ⟨x, chosen, rfl⟩ := Option.map_eq_some_iff.mp h
  rw [← reference_values chosen]
  simp [speedRecord, chosen]

/-- Settles O6: AXL's computation clause by clause, with its fault records followed to the end of the count close. -/
theorem countClosePublishesTheSpeed : Obligations.CountClosePublishesTheSpeed := by
  unfold Obligations.CountClosePublishesTheSpeed
  intro s
  refine ⟨countClose s, rfl, ?speeds, ?marks, ?v, ?standstill, ?unknown, ?unknownRecord, ?power, ?brake, ?coast,
    ?uncut, ?allCut, ?nRef, countClose_prev s⟩
  case speeds =>
    rintro a n rfl
    rw [countClose_axles, countClose_cfg, testedAxles_speed]
    exact axleSpeed_eq _ _ _
  case marks =>
    intro a test testIff
    have testIff := testIff.trans (implausible_iff s a).symm
    have markRun := testedAxles_markRun s a
    rw [countClose_markOf, countClose_axles]
    refine ⟨fun no => ?_, fun yes low => ?_, fun yes full => ?_⟩
    · exact Prod.mk.inj (markRun.trans (if_neg (mt testIff.mpr no)))
    · obtain ⟨mark, run⟩ := Prod.mk.inj (markRun.trans ((if_pos (testIff.mp yes)).trans (if_pos low)))
      have valid := ((implausible_iff s a).mp (testIff.mp yes)).1
      exact ⟨mark.trans valid, run⟩
    · obtain ⟨mark, run⟩ := Prod.mk.inj
        (markRun.trans ((if_pos (testIff.mp yes)).trans (if_neg (Nat.not_lt.mpr full))))
      exact ⟨mark, run, countClose_axleImplausible (testIff.mp yes) full⟩
  case v => rw [countClose_record]; rfl
  case standstill => simp [speedRecord]
  case unknown =>
    rw [countClose_unknown, countClose_axles]
    exact decide_eq_true_iff
  case unknownRecord =>
    intro unknown known
    exact countClose_speedUnknown (countClose_unknown s ▸ unknown) known
  all_goals simp only [countClose_unknown, countClose_markOf, countClose_speedOf, countClose_axles]
  case power =>
    intro known power
    obtain ⟨a, chosen, least⟩ := reference_power known power
    obtain ⟨axle, vDir⟩ := countClose_publishes chosen
    exact ⟨a, axle, vDir, least⟩
  case brake =>
    intro known brake
    obtain ⟨a, chosen, least⟩ := reference_brake known brake
    obtain ⟨axle, vDir⟩ := countClose_publishes chosen
    exact ⟨a, axle, vDir, least⟩
  case coast =>
    intro known coast
    obtain ⟨a, lo, hi, mid, chosen, least, greatest, middle, nearest⟩ := reference_coast known coast
    obtain ⟨axle, vDir⟩ := countClose_publishes chosen
    rw [vDir]
    exact ⟨a, lo, hi, axle, least, greatest, middle, nearest⟩
  case uncut =>
    intro unknown uncut
    obtain ⟨a, chosen, least⟩ := reference_uncut unknown uncut
    obtain ⟨axle, vDir⟩ := countClose_publishes chosen
    exact ⟨a, axle, vDir, least⟩
  case allCut =>
    intro unknown allCut
    simp [speedRecord, reference_allCut unknown allCut]
  case nRef =>
    intro a chosen
    rw [countClose_nRef chosen, resign_eq]

end Sys2Proof.Machine
end

section
/-! PROOF. What each command may change: the handling of every order (R182, R184), the events, and one table of the blocks
that each can touch. -/

namespace Sys2Proof.Machine

/-! ### States that agree in every block -/

theorem state_ext {s t : State} (aut : s.aut = t.aut) (axl : s.axl = t.axl) (pth : s.pth = t.pth) (eff : s.eff = t.eff)
    (jct : s.jct = t.jct) (loop : s.loop = t.loop) (stp : s.stp = t.stp) (snd : s.snd = t.snd) (flt : s.flt = t.flt)
    (ord : s.ord = t.ord) (pending : s.pending = t.pending) (clock : s.clock = t.clock) : s = t := by
  cases s; cases t; simp_all

/-- What ORD holds but its ports: the operating state, the configuration and the picture count. -/
def Ord.settings (x : Ord) : Ord :=
  { x with ports := Ord.reset.ports }

theorem ord_of_settings {x y : Ord} (h : x.settings = y.settings) : x = { y with ports := x.ports } := by
  cases x; cases y; simp_all [Ord.settings]

@[simp] theorem setPort_settings (p : Port) (c : PortContext) (s : State) :
    (s.setPort p c).ord.settings = s.ord.settings := rfl

@[simp] theorem modPort_settings (p : Port) (f : PortContext → PortContext) (s : State) :
    (modPort p f s).ord.settings = s.ord.settings := rfl

@[simp] theorem pushFrame_settings (p : Port) (f : OutFrame) (s : State) :
    (pushFrame p f s).ord.settings = s.ord.settings := rfl

@[simp] theorem pushReply_settings (p : Port) (r : Reply) (s : State) :
    (pushReply p r s).ord.settings = s.ord.settings := rfl

@[simp] theorem enterSlot_settings (p : Port) (tag : Byte) (d : Deferred) (s : State) :
    (enterSlot p tag d s).ord.settings = s.ord.settings := rfl

@[simp] theorem completeSlot_settings (p : Port) (d : Deferred) (x : Status) (r : Slot → Results) (s : State) :
    (completeSlot p d x r s).ord.settings = s.ord.settings := by
  unfold completeSlot; (repeat' split) <;> rfl

@[simp] theorem completePlan_settings (d : Deferred) (x : Status) (s : State) :
    (completePlan d x s).ord.settings = s.ord.settings := completeSlot_settings ..

@[simp] theorem completeSettle_settings (s : State) (p : Port) :
    (completeSettle s p).ord.settings = s.ord.settings := by
  unfold completeSettle; dsimp only; (repeat' split) <;> simp

@[simp] theorem settleCheck_settings (s : State) : (settleCheck s).ord.settings = s.ord.settings := by
  rcases settleCheck_cases s with ⟨-, h⟩ | ⟨-, h⟩ <;> rw [h]
  exact foldl_keeps (g := fun t : State => t.ord.settings) completeSettle_settings _ _

@[simp] theorem completeSwitch_settings (s : State) : (completeSwitch s).ord.settings = s.ord.settings := by
  simp [completeSwitch]

@[simp] theorem examineSwitch_settings (s : State) : (examineSwitch s).ord.settings = s.ord.settings := by
  rcases examineSwitch_cases s with ⟨-, -, -, h⟩ | h <;> simp [h]

@[simp] theorem retirePlan_settings (s : State) : (retirePlan s).ord.settings = s.ord.settings := by
  unfold retirePlan; dsimp only; (repeat' split) <;> simp

@[simp] theorem grantAuthority_settings (cab : CabEnd) (s : State) :
    (grantAuthority cab s).ord.settings = s.ord.settings := by
  unfold grantAuthority; dsimp only; split <;> simp

@[simp] theorem takeFix_settings (junction : Nat) (s : State) : (takeFix junction s).ord.settings = s.ord.settings := by
  unfold takeFix; (repeat' split) <;> simp

/-! ### The handling of every order -/

/-- The handling of an order after its checks. RESTART's is none: it makes its own replies (`takeRestart`). -/
def handleOrder (p : Port) (tag : Byte) : Order → State → State × Answer
  | .key k => handleKey p k
  | .claim => handleClaim p
  | .lever l g x => handleLever l g x
  | .ack => handleAck
  | .doors x r => handleDoors x r
  | .close => handleClose
  | .bell x => handleManual .bell x
  | .horn x => handleManual .horn x
  | .retry j => handleRetry j
  | .override j => handleOverride j
  | .shift x => handleShift x
  | .config q v => handleConfig q v
  | .configDone => handleConfigDone
  | .planClear => handlePlanClear tag
  | .planPut w => handlePlanPut w
  | .planSeal c k => handlePlanSeal tag c k
  | .planSwitch => handlePlanSwitch tag
  | .planWithdraw => handlePlanWithdraw
  | .doorState x => handleDoorState x
  | .sound n => handleSound n
  | .soundBreak c => handleSoundBreak c
  | .level x => handleLevel x
  | .faultTake => handleFaultTake
  | .forceRelease => handleForceRelease
  | .restart => fun s => (s, plain .done)
  | .cut t n x => handleCut t n x
  | .preface c x y z => handlePreface p c x y z
  | .settle => handleSettle p tag
  | .readFault n => handleReadFault n
  | .ident => handleIdent

/-- The command that takes an order takes it whole, with that order's handling (R182). -/
theorem exec_takingCommand (p : Port) (q : QueuedOrder) (s : State) (h : q.order ≠ .restart) :
    exec (takingCommand p q) s = .next (takeOrder p q.tag q.order (handleOrder p q.tag q.order) s) := by
  obtain ⟨tag, o⟩ := q
  cases o with
  | restart => exact absurd rfl h
  | _ => rfl

/-- The commands that take no order. -/
def isEvent : Instr → Bool
  | .coldReset | .axlePulse .. | .countClose | .emergencyInput .. | .buttonSample _ | .buttonStuck _
  | .rampStowedChange _ | .handoverTimerExpiry | .silenceTimerExpiry | .vigilanceTimerExpiry | .exchangeTimerExpiry _
  | .stepExpiry _ | .bellStrokeEnd | .hornMinimum | .gapEnd | .transmissionCompletion | .inboundFrameCutOff
  | .inboundGapEnd | .accept .. | .setLocked .. | .refuse .. | .lockLost .. | .fix _ | .frameArrival ..
  | .orderFrameCutOff _ | .planClearCompletion | .planSealCompletion | .inboundLineChange _ | .outboundBitTime
  | .orderLinkByteArrival .. | .outboundFrameSent _ => true
  | _ => false

/-- Every command is an event, the taking of a RESTART, or the taking of another order. -/
theorem instr_cases (c : Instr) :
    isEvent c = true ∨ (∃ p tag, c = .restart p tag) ∨ ∃ p q, q.order ≠ .restart ∧ c = takingCommand p q := by
  cases c with
  | key p tag k => exact .inr (.inr ⟨p, ⟨tag, .key k⟩, nofun, rfl⟩)
  | claim p tag => exact .inr (.inr ⟨p, ⟨tag, .claim⟩, nofun, rfl⟩)
  | lever p tag l g x => exact .inr (.inr ⟨p, ⟨tag, .lever l g x⟩, nofun, rfl⟩)
  | ack p tag => exact .inr (.inr ⟨p, ⟨tag, .ack⟩, nofun, rfl⟩)
  | doors p tag x r => exact .inr (.inr ⟨p, ⟨tag, .doors x r⟩, nofun, rfl⟩)
  | close p tag => exact .inr (.inr ⟨p, ⟨tag, .close⟩, nofun, rfl⟩)
  | bell p tag x => exact .inr (.inr ⟨p, ⟨tag, .bell x⟩, nofun, rfl⟩)
  | horn p tag x => exact .inr (.inr ⟨p, ⟨tag, .horn x⟩, nofun, rfl⟩)
  | retry p tag j => exact .inr (.inr ⟨p, ⟨tag, .retry j⟩, nofun, rfl⟩)
  | override p tag j => exact .inr (.inr ⟨p, ⟨tag, .override j⟩, nofun, rfl⟩)
  | shift p tag x => exact .inr (.inr ⟨p, ⟨tag, .shift x⟩, nofun, rfl⟩)
  | config p tag q v => exact .inr (.inr ⟨p, ⟨tag, .config q v⟩, nofun, rfl⟩)
  | configDone p tag => exact .inr (.inr ⟨p, ⟨tag, .configDone⟩, nofun, rfl⟩)
  | planClear p tag => exact .inr (.inr ⟨p, ⟨tag, .planClear⟩, nofun, rfl⟩)
  | planPut p tag w => exact .inr (.inr ⟨p, ⟨tag, .planPut w⟩, nofun, rfl⟩)
  | planSeal p tag n k => exact .inr (.inr ⟨p, ⟨tag, .planSeal n k⟩, nofun, rfl⟩)
  | planSwitch p tag => exact .inr (.inr ⟨p, ⟨tag, .planSwitch⟩, nofun, rfl⟩)
  | planWithdraw p tag => exact .inr (.inr ⟨p, ⟨tag, .planWithdraw⟩, nofun, rfl⟩)
  | doorState p tag x => exact .inr (.inr ⟨p, ⟨tag, .doorState x⟩, nofun, rfl⟩)
  | sound p tag n => exact .inr (.inr ⟨p, ⟨tag, .sound n⟩, nofun, rfl⟩)
  | soundBreak p tag n => exact .inr (.inr ⟨p, ⟨tag, .soundBreak n⟩, nofun, rfl⟩)
  | level p tag x => exact .inr (.inr ⟨p, ⟨tag, .level x⟩, nofun, rfl⟩)
  | faultTake p tag => exact .inr (.inr ⟨p, ⟨tag, .faultTake⟩, nofun, rfl⟩)
  | readFault p tag n => exact .inr (.inr ⟨p, ⟨tag, .readFault n⟩, nofun, rfl⟩)
  | forceRelease p tag => exact .inr (.inr ⟨p, ⟨tag, .forceRelease⟩, nofun, rfl⟩)
  | cut p tag t n x => exact .inr (.inr ⟨p, ⟨tag, .cut t n x⟩, nofun, rfl⟩)
  | preface p tag n x y z => exact .inr (.inr ⟨p, ⟨tag, .preface n x y z⟩, nofun, rfl⟩)
  | settle p tag => exact .inr (.inr ⟨p, ⟨tag, .settle⟩, nofun, rfl⟩)
  | ident p tag => exact .inr (.inr ⟨p, ⟨tag, .ident⟩, nofun, rfl⟩)
  | restart p tag => exact .inr (.inl ⟨p, tag, rfl⟩)
  | _ => exact .inl rfl

/-- The state with the blocks of `t` that the handling of an order may change. -/
def changedByOrder (o : Order) (s t : State) : State :=
  match o with
  | .key _ => { s with aut := t.aut, eff := t.eff, snd := t.snd, flt := t.flt }
  | .claim => { s with
      aut := t.aut, eff := t.eff, pth := t.pth, jct := t.jct, loop := t.loop, stp := t.stp, flt := t.flt
      ord.ports := t.ord.ports }
  | .lever .. => { s with aut := t.aut, eff := t.eff }
  | .ack => { s with aut := t.aut, eff := t.eff, flt := t.flt }
  | .doors .. => { s with pth := t.pth, stp := t.stp }
  | .close => { s with stp := t.stp }
  | .bell _ | .horn _ | .sound _ | .soundBreak _ | .level _ => { s with snd := t.snd }
  | .retry _ => { s with pth := t.pth, loop := t.loop }
  | .override _ => { s with pth := t.pth }
  | .shift _ => { s with
      pth := t.pth, jct := t.jct, loop := t.loop, stp := t.stp, snd := t.snd, flt := t.flt, ord.ports := t.ord.ports }
  | .config .. => { s with ord.config := t.ord.config, ord.waiting := t.ord.waiting }
  | .configDone => { s with ord.run := t.ord.run }
  | .planClear | .planSeal .. | .planWithdraw => { s with pth := t.pth, ord.ports := t.ord.ports }
  | .planPut _ => { s with pth := t.pth, loop := t.loop }
  | .planSwitch => { s with
      pth := t.pth, jct := t.jct, loop := t.loop, stp := t.stp, flt := t.flt, ord.ports := t.ord.ports }
  | .doorState _ => { s with eff := t.eff, stp := t.stp, snd := t.snd, flt := t.flt }
  | .faultTake => { s with flt := t.flt }
  | .forceRelease => { s with aut := t.aut, eff := t.eff, snd := t.snd }
  | .cut .. => { s with axl := t.axl, eff := t.eff }
  | .preface .. => { s with ord.ports := t.ord.ports }
  | .settle => { s with jct := t.jct, ord.ports := t.ord.ports }
  | .restart | .readFault _ | .ident => s

@[simp] theorem serveTarget_axl (d : DwellRecord) (s : State) : (serveTarget d s).2.2.axl = s.axl := by
  unfold serveTarget; (repeat' split) <;> simp

/-- The serving test changes the banks and the request record alone. -/
theorem serveTarget_changes (d : DwellRecord) (s : State) :
    (serveTarget d s).2.2 = { s with pth := (serveTarget d s).2.2.pth, stp := (serveTarget d s).2.2.stp } := by
  unfold serveTarget
  (repeat' split) <;> apply state_ext <;> simp

theorem handleKey_changes (p : Port) (k : Byte) (s : State) :
    (handleKey p k s).1 = changedByOrder (.key k) s (handleKey p k s).1 := by
  simp only [changedByOrder, handleKey]
  split <;> apply state_ext <;> simp

theorem handleClaim_changes (p : Port) (s : State) :
    (handleClaim p s).1 = changedByOrder .claim s (handleClaim p s).1 := by
  simp only [changedByOrder, handleClaim]
  (repeat' split)
  case h_2.isFalse.isFalse.isFalse.isFalse =>
    apply state_ext <;> simp
    exact ord_of_settings (by simp)
  all_goals rfl

/-- The handling of an order changes the blocks of `changedByOrder` alone. -/
theorem handleOrder_changes (p : Port) (tag : Byte) (o : Order) (s : State) :
    (handleOrder p tag o s).1 = changedByOrder o s (handleOrder p tag o s).1 := by
  cases o with
  | key k => exact handleKey_changes p k s
  | claim => exact handleClaim_changes p s
  | lever l g x => apply state_ext <;> simp [handleOrder, changedByOrder, handleLever]
  | ack =>
    simp only [handleOrder, changedByOrder, handleAck]
    (repeat' split) <;> apply state_ext <;> simp
  | doors x r =>
    have granted : ∀ ramp d, (grantDoors ramp d s).1
        = { s with pth := (grantDoors ramp d s).1.pth, stp := (grantDoors ramp d s).1.stp } := fun ramp d => by
      simp only [grantDoors]
      rw [serveTarget_changes]
    simp only [handleOrder, changedByOrder, handleDoors]
    (repeat' split)
    case h_3.isFalse.isFalse | h_4.isFalse.isFalse => exact granted _ _
    all_goals rfl
  | close => simp only [handleOrder, changedByOrder, handleClose]; split <;> rfl
  | bell x => simp only [handleOrder, changedByOrder, handleManual]; split <;> rfl
  | horn x => simp only [handleOrder, changedByOrder, handleManual]; split <;> rfl
  | retry j =>
    simp only [handleOrder, changedByOrder, handleRetry]
    (repeat' split) <;> apply state_ext <;> simp
  | override j =>
    simp only [handleOrder, changedByOrder, handleOverride]
    (repeat' split) <;> apply state_ext <;> simp
  | shift x =>
    simp only [handleOrder, changedByOrder, handleShift]
    split
    · rfl
    · split
      · rfl
      · apply state_ext <;> simp
        exact ord_of_settings (by simp)
  | config q v =>
    simp only [handleOrder, changedByOrder, handleConfig]
    (repeat' split) <;> rfl
  | configDone => simp only [handleOrder, changedByOrder, handleConfigDone]; (repeat' split) <;> rfl
  | planClear =>
    simp only [handleOrder, changedByOrder, handlePlanClear]
    split
    · rfl
    · apply state_ext <;> simp
      exact ord_of_settings (by simp)
  | planPut w =>
    simp only [handleOrder, changedByOrder, handlePlanPut]
    (repeat' split) <;> apply state_ext <;> simp
  | planSeal c k =>
    simp only [handleOrder, changedByOrder, handlePlanSeal]
    split
    · rfl
    · (repeat' split)
      · rfl
      · rfl
      · apply state_ext <;> simp
        exact ord_of_settings (by simp)
  | planSwitch =>
    simp only [handleOrder, changedByOrder, handlePlanSwitch]
    (repeat' split)
    · rfl
    · rfl
    · apply state_ext <;> simp
      exact ord_of_settings (by simp)
    · rfl
  | planWithdraw =>
    simp only [handleOrder, changedByOrder, handlePlanWithdraw]
    split
    · apply state_ext <;> simp
      exact ord_of_settings (by simp)
    · rfl
  | doorState x => apply state_ext <;> simp [handleOrder, changedByOrder, handleDoorState]
  | sound n =>
    simp only [handleOrder, changedByOrder, handleSound]
    split <;> apply state_ext <;> simp
  | soundBreak c => simp only [handleOrder, changedByOrder, handleSoundBreak]; split <;> rfl
  | level x => simp only [handleOrder, changedByOrder, handleLevel]; split <;> rfl
  | faultTake => simp only [handleOrder, changedByOrder, handleFaultTake]; split <;> rfl
  | forceRelease =>
    simp only [handleOrder, changedByOrder, handleForceRelease]
    (repeat' split) <;> apply state_ext <;> simp
  | restart => rfl
  | cut t n x =>
    have cut : ∀ i b, (updateSand (cutBogie i b s))
        = { s with axl := (updateSand (cutBogie i b s)).axl, eff := (updateSand (cutBogie i b s)).eff } := fun i b => by
      cases i <;> cases b <;> rfl
    simp only [handleOrder, changedByOrder, handleCut]
    split
    · rfl
    · exact cut _ _
    · rfl
  | preface c x y z => simp only [handleOrder, changedByOrder, handlePreface]; split <;> rfl
  | settle => simp only [handleOrder, changedByOrder, handleSettle]; (repeat' split) <;> rfl
  | readFault n => simp only [handleOrder, changedByOrder, handleReadFault]; split <;> rfl
  | ident => rfl

/-! ### The taking of an order -/

@[simp] theorem taken_settings (s : State) (p : Port) : (s.taken p).ord.settings = s.ord.settings := rfl

/-- PROTECT answers the protected orders alone (R190, R191). -/
theorem isProtected_of_failedCheck {s : State} {p : Port} {o : Order} {r : Option Preface}
    (h : s.failedCheck p o r = some .protect) : isProtected o = true := by
  unfold State.failedCheck at h
  repeat' split at h
  case isFalse.isFalse.isFalse.isTrue fails =>
    rw [Bool.and_eq_true] at fails
    exact fails.1
  all_goals cases h

/-- An order that fails a check of R184 leaves everything but its port, and the NOTICE of PROTECT (R191). -/
theorem failOrder_changes (p : Port) (tag : Byte) (o : Order) (x : Status) (s : State) :
    failOrder p tag o x s
      = { s with
          flt := if x = .protect then (storeFault .protect .notice .none (some tag) s).flt else s.flt
          ord.ports := (failOrder p tag o x s).ord.ports } := by
  by_cases protect : x = .protect <;> simp only [failOrder, protect, if_true, if_false] <;> rfl

/-- The taking of an order changes what its handling may change, its port, and FLT where it needs a preface record. -/
theorem takeOrder_changes (p : Port) (tag : Byte) (o : Order) (s : State) (t : State)
    (h : t = takeOrder p tag o (handleOrder p tag o) s) :
    t = { changedByOrder o s t with
          flt := if isProtected o = true then t.flt else (changedByOrder o s t).flt
          ord.ports := t.ord.ports } := by
  rcases takeOrder_cases p tag o (handleOrder p tag o) s with e | ⟨-, x, fails, e⟩ | ⟨-, -, e⟩
  · rw [h, e]; cases o <;> rfl
  · rw [failOrder_changes] at e
    have notice : isProtected o = false → x ≠ .protect := by
      rintro no rfl
      simp [isProtected_of_failedCheck fails] at no
    rw [h, e]
    cases protected_ : isProtected o
    · simp only [if_neg (notice protected_)]
      cases o <;> rfl
    · cases o <;> rfl
  · have changes := handleOrder_changes p tag o (s.taken p)
    rw [h, e]
    generalize (handleOrder p tag o (s.taken p)).1 = u at *
    rw [changes]
    cases o <;> rfl

/-! ### The events -/

/-- The state with the blocks of `t` that an event may change. -/
def changedByEvent (c : Instr) (s t : State) : State :=
  match c with
  | .coldReset => { t with pending := s.pending, clock := s.clock }
  | .countClose => { t with pending := s.pending, clock := s.clock, ord.run := s.ord.run }
  | .axlePulse .. => { s with axl := t.axl }
  | .emergencyInput .. => { s with eff := t.eff }
  | .buttonSample _ => { s with stp := t.stp, snd := t.snd, flt := t.flt }
  | .buttonStuck _ => { s with stp := t.stp, flt := t.flt }
  | .rampStowedChange _ => { s with stp := t.stp, eff := t.eff, snd := t.snd, flt := t.flt }
  | .handoverTimerExpiry => { s with aut := t.aut }
  | .silenceTimerExpiry => { s with aut := t.aut, eff := t.eff, snd := t.snd, flt := t.flt }
  | .vigilanceTimerExpiry => { s with aut := t.aut, eff := t.eff, flt := t.flt }
  | .stepExpiry _ | .bellStrokeEnd | .hornMinimum => { s with snd := t.snd }
  | .gapEnd | .outboundBitTime | .inboundFrameCutOff | .inboundGapEnd => { s with loop := t.loop }
  | .transmissionCompletion => { s with pth := t.pth, loop := t.loop }
  | .accept .. => { s with pth := t.pth }
  | .setLocked .. => { s with pth := t.pth, jct := t.jct, ord.ports := t.ord.ports }
  | .exchangeTimerExpiry _ | .refuse .. =>
    { s with pth := t.pth, jct := t.jct, flt := t.flt, ord.ports := t.ord.ports }
  | .lockLost .. => { s with pth := t.pth, jct := t.jct, eff := t.eff, flt := t.flt }
  | .fix _ => { s with
      pth := t.pth, jct := t.jct, loop := t.loop, stp := t.stp, snd := t.snd, flt := t.flt, ord.ports := t.ord.ports }
  | .inboundLineChange _ => { s with
      pth := t.pth, jct := t.jct, loop := t.loop, stp := t.stp, snd := t.snd, flt := t.flt, eff := t.eff
      ord.ports := t.ord.ports }
  | .planClearCompletion | .planSealCompletion => { s with pth := t.pth, loop := t.loop, ord.ports := t.ord.ports }
  | _ => { s with ord.ports := t.ord.ports }

/-- A fix changes the plan and what its marks and an outstanding SETTLE change. -/
theorem takeFix_changes (junction : Nat) (s t : State) (h : t = takeFix junction s) :
    t = { s with
      pth := t.pth, jct := t.jct, loop := t.loop, stp := t.stp, snd := t.snd, flt := t.flt
      ord.ports := t.ord.ports } := by
  subst h
  apply state_ext <;> simp
  exact ord_of_settings (by simp)

theorem receiveAccept_changes (tram : BitVec 14) (junction : BitVec 12) (n : BitVec 4) (s t : State)
    (h : t = receiveAccept tram junction n s) : t = { s with pth := t.pth } := by
  subst h
  unfold receiveAccept
  split
  · apply state_ext <;> simp
  · rfl

theorem receiveSet_changes (tram : BitVec 14) (junction : BitVec 12) (n : BitVec 4) (s t : State)
    (h : t = receiveSet tram junction n s) :
    t = { s with pth := t.pth, jct := t.jct, ord.ports := t.ord.ports } := by
  subst h
  unfold receiveSet
  split
  · apply state_ext <;> simp
    exact ord_of_settings (by simp)
  · rfl

theorem receiveRefuse_changes (tram : BitVec 14) (junction : BitVec 12) (n : BitVec 4) (q : BitVec 3) (s t : State)
    (h : t = receiveRefuse tram junction n q s) :
    t = { s with pth := t.pth, jct := t.jct, flt := t.flt, ord.ports := t.ord.ports } := by
  subst h
  unfold receiveRefuse
  (repeat' split)
  case h_2.isTrue =>
    apply state_ext <;> simp
    exact ord_of_settings (by simp)
  all_goals rfl

theorem receiveLockLost_changes (tram : BitVec 14) (junction : BitVec 12) (n : BitVec 4) (s t : State)
    (h : t = receiveLockLost tram junction n s) :
    t = { s with pth := t.pth, jct := t.jct, eff := t.eff, flt := t.flt } := by
  subst h
  unfold receiveLockLost
  split
  · apply state_ext <;> simp
  · rfl

theorem receiveFix_changes (junction : BitVec 12) (s t : State) (h : t = receiveFix junction s) :
    t = { s with
      pth := t.pth, jct := t.jct, loop := t.loop, stp := t.stp, snd := t.snd, flt := t.flt
      ord.ports := t.ord.ports } := by
  unfold receiveFix at h
  split at h
  · rw [h]
  · exact takeFix_changes _ _ _ h

/-- A telegram changes what the command of its kind changes, whichever it is. -/
theorem deliver_changes (f : InboundFields) (s t : State) (h : t = deliver f s) :
    t = { s with
      pth := t.pth, jct := t.jct, loop := t.loop, stp := t.stp, snd := t.snd, flt := t.flt, eff := t.eff
      ord.ports := t.ord.ports } := by
  unfold deliver at h
  split at h
  · rw [receiveAccept_changes _ _ _ _ _ h]
  · rw [receiveSet_changes _ _ _ _ _ h]
  · rw [receiveRefuse_changes _ _ _ _ _ _ h]
  · rw [receiveLockLost_changes _ _ _ _ _ h]
  · rw [receiveFix_changes _ _ _ h]
  · rw [h]

/-- A line change moves the inbound side of LOOP, and the frame it completes is delivered. -/
theorem lineChange_changes (c : LineChange) (s t : State) (h : t = lineChange c s) :
    t = { s with
      pth := t.pth, jct := t.jct, loop := t.loop, stp := t.stp, snd := t.snd, flt := t.flt, eff := t.eff
      ord.ports := t.ord.ports } := by
  have bit : ∀ bits x, t = takeBit bits x s → t = { s with
      pth := t.pth, jct := t.jct, loop := t.loop, stp := t.stp, snd := t.snd, flt := t.flt, eff := t.eff
      ord.ports := t.ord.ports } := by
    intro bits x h
    unfold takeBit examineFrame at h
    dsimp only at h
    repeat' split at h
    case h_2 => rw [deliver_changes _ _ _ h]; rfl
    all_goals rw [h]; rfl
  unfold lineChange at h
  split at h
  · rw [h]; rfl
  · split at h
    · exact bit _ _ h
    · exact bit _ _ h
    · rw [h]; rfl
  · split at h
    · exact bit _ _ h
    · exact bit _ _ h
    · rw [h]; rfl

theorem run_of_settings {x y : Ord} (h : x.settings = y.settings) : x.run = y.run :=
  (congrArg Ord.run h : x.settings.run = y.settings.run)

@[simp] theorem frameArrives_settings (p : Port) (frame : List Byte) (s : State) :
    (frameArrives p frame s).ord.settings = s.ord.settings := by
  unfold frameArrives answerAtArrival; (repeat' split) <;> simp

/-- A frame at its arrival changes its port alone (R181). -/
theorem frameArrives_changes (p : Port) (frame : List Byte) (s t : State) (h : t = frameArrives p frame s) :
    t = { s with ord.ports := t.ord.ports } := by
  unfold frameArrives at h
  repeat' split at h
  all_goals rw [h]
  all_goals rfl

theorem byteArrives_changes (p : Port) (b : Byte) (s t : State) (h : t = byteArrives p b s) :
    t = { s with ord.ports := t.ord.ports } := by
  unfold byteArrives at h
  repeat' split at h
  case h_3.isFalse => rw [frameArrives_changes _ _ _ _ h]; rfl
  all_goals rw [h]
  all_goals rfl

theorem completeTransmission_changes (s t : State) (h : t = completeTransmission s) :
    t = { s with pth := t.pth, loop := t.loop } := by
  subst h
  apply state_ext <;> simp

theorem completeClear_changes (s t : State) (h : t = completeClear s) :
    t = { s with pth := t.pth, loop := t.loop, ord.ports := t.ord.ports } := by
  subst h
  apply state_ext <;> simp
  refine ord_of_settings ?_
  unfold completeClear
  split <;> simp

theorem completeSeal_changes (s t : State) (h : t = completeSeal s) :
    t = { s with pth := t.pth, loop := t.loop, ord.ports := t.ord.ports } := by
  subst h
  apply state_ext <;> simp
  refine ord_of_settings ?_
  unfold completeSeal
  dsimp only
  split <;> simp

theorem exchangeTimerExpiry_changes (junction : Nat) (s t : State) (h : t = settleCheck (exchangeExpired junction s)) :
    t = { s with pth := t.pth, jct := t.jct, flt := t.flt, ord.ports := t.ord.ports } := by
  subst h
  apply state_ext <;> simp
  exact ord_of_settings (by simp)

@[simp] theorem countClose_run (s : State) : (countClose s).ord.run = s.ord.run := by
  have picture : ∀ t, (pictureClose t).ord.run = t.ord.run := fun t => by
    unfold pictureClose sendPicture; split <;> simp
  have before : (closeBeforeEffort s).ord.run = s.ord.run := by
    have : (closeBeforeEffort s).ord.settings = (putConfigInForce s).ord.settings := by simp [closeBeforeEffort]
    exact (run_of_settings this).trans rfl
  simp [countClose, picture, before]

@[simp] theorem coldReset_pending (s : State) : (coldReset s).pending = s.pending := by
  unfold coldReset; dsimp only; split <;> simp [coldValues]

@[simp] theorem coldReset_clock (s : State) : (coldReset s).clock = s.clock := by
  unfold coldReset; dsimp only; split <;> simp [coldValues]

theorem coldReset_changes (s t : State) (h : t = coldReset s) : t = { t with pending := s.pending, clock := s.clock } := by
  have pending : t.pending = s.pending := by rw [h, coldReset_pending]
  have clock : t.clock = s.clock := by rw [h, coldReset_clock]
  rw [← pending, ← clock]

theorem countClose_changes (s t : State) (h : t = countClose s) :
    t = { t with pending := s.pending, clock := s.clock, ord.run := s.ord.run } := by
  have pending : t.pending = s.pending := by rw [h, countClose_pending]
  have clock : t.clock = s.clock := by rw [h, countClose_clock]
  have run : t.ord.run = s.ord.run := by rw [h, countClose_run]
  rw [← pending, ← clock, ← run]

/-- An event changes the blocks of `changedByEvent` alone. -/
theorem exec_event_changes {c : Instr} {s t : State} (event : isEvent c = true) (h : exec c s = .next t) :
    t = changedByEvent c s t := by
  cases c with
  | coldReset => exact coldReset_changes s t (Host.Outcome.next.inj h).symm
  | axlePulse => cases h; rfl
  | countClose => exact countClose_changes s t (Host.Outcome.next.inj h).symm
  | emergencyInput => cases h; rfl
  | buttonSample levels =>
    cases h
    have changes : sampleButtons levels s = { s with stp := (sampleButtons levels s).stp, snd := (sampleButtons levels s).snd, flt := (sampleButtons levels s).flt } := by
      apply state_ext <;> simp
    exact changes
  | buttonStuck n =>
    cases h
    have changes : stickButton n s = { s with stp := (stickButton n s).stp, flt := (stickButton n s).flt } := by
      apply state_ext <;> simp
    exact changes
  | rampStowedChange x =>
    cases h
    have changes : rampChange x s = { s with stp := (rampChange x s).stp, eff := (rampChange x s).eff, snd := (rampChange x s).snd, flt := (rampChange x s).flt } := by
      apply state_ext <;> simp
    exact changes
  | handoverTimerExpiry =>
    cases h
    have changes : handoverExpired s = { s with aut := (handoverExpired s).aut } := by
      apply state_ext <;> simp
    exact changes
  | silenceTimerExpiry =>
    cases h
    have changes : silenceExpired s = { s with aut := (silenceExpired s).aut, eff := (silenceExpired s).eff, snd := (silenceExpired s).snd, flt := (silenceExpired s).flt } := by
      apply state_ext <;> simp
    exact changes
  | vigilanceTimerExpiry =>
    cases h
    have changes : vigilanceExpired s = { s with aut := (vigilanceExpired s).aut, eff := (vigilanceExpired s).eff, flt := (vigilanceExpired s).flt } := by
      apply state_ext <;> simp
    exact changes
  | exchangeTimerExpiry j => cases h; exact exchangeTimerExpiry_changes _ _ _ rfl
  | stepExpiry c => cases h; rfl
  | bellStrokeEnd => cases h; rfl
  | hornMinimum => cases h; rfl
  | gapEnd => cases h; rfl
  | transmissionCompletion => cases h; exact completeTransmission_changes _ _ rfl
  | inboundFrameCutOff => cases h; rfl
  | inboundGapEnd => cases h; rfl
  | accept tram j n => cases h; exact receiveAccept_changes _ _ _ _ _ rfl
  | setLocked tram j n => cases h; exact receiveSet_changes _ _ _ _ _ rfl
  | refuse tram j n q => cases h; exact receiveRefuse_changes _ _ _ _ _ _ rfl
  | lockLost tram j n => cases h; exact receiveLockLost_changes _ _ _ _ _ rfl
  | fix j => cases h; exact receiveFix_changes _ _ _ rfl
  | frameArrival p frame => cases h; exact frameArrives_changes _ _ _ _ rfl
  | orderFrameCutOff p => cases h; rfl
  | planClearCompletion => cases h; exact completeClear_changes _ _ rfl
  | planSealCompletion => cases h; exact completeSeal_changes _ _ rfl
  | inboundLineChange x => cases h; exact lineChange_changes _ _ _ rfl
  | outboundBitTime => cases h; rfl
  | orderLinkByteArrival p b => cases h; exact byteArrives_changes _ _ _ _ rfl
  | outboundFrameSent p => cases h; rfl
  | _ => cases event

/-! ### RESTART -/

@[simp] theorem interruptPort_settings (s : State) (p : Port) : (interruptPort s p).ord.settings = s.ord.settings := rfl

@[simp] theorem ordRestart_settings (s : State) : (ordRestart s).ord.settings = s.ord.settings := rfl

/-- ORD's restart changes the ports alone (R198). -/
theorem ordRestart_changes (s : State) : ordRestart s = { s with ord.ports := (ordRestart s).ord.ports } := rfl

/-- PTH's restart changes the banks, and the marks of queued telegrams (R42). -/
theorem pthRestart_changes (s t : State) (h : t = pthRestart s) : t = { s with pth := t.pth, loop := t.loop } := by
  subst h
  unfold pthRestart
  dsimp only
  split <;> apply state_ext <;> simp

/-- The restart of the blocks leaves AXL, STP, FLT, the settle lists and ORD's settings (R57, R106, R144, R180). -/
theorem restartBlocks_changes (s t : State) (h : t = restartBlocks s) :
    t = { s with
      aut := t.aut, eff := t.eff, pth := t.pth, loop := t.loop, snd := t.snd, ord.ports := t.ord.ports } := by
  subst h
  simp only [restartBlocks]
  have path := pthRestart_changes s _ rfl
  generalize pthRestart s = u at *
  have ports := ordRestart_changes u
  generalize ordRestart u = w at *
  apply state_ext <;> simp [autRestart]
  all_goals rw [ports, path]

theorem handleRestart_changes (p : Port) (tag : Byte) (s t : State) (h : t = handleRestart p tag s) :
    t = { s with
      aut := t.aut, eff := t.eff, pth := t.pth, loop := t.loop, snd := t.snd, ord.ports := t.ord.ports } := by
  unfold handleRestart at h
  split at h
  · rw [h]; rfl
  · rw [restartBlocks_changes _ _ h]; rfl

/-- What the taking of a RESTART can do: nothing, a failed check, or its handling (R182, R184). -/
theorem takeRestart_cases (p : Port) (tag : Byte) (s : State) :
    takeRestart p tag s = s
      ∨ (s.atHead p tag .restart ∧ ∃ x, s.failedCheck p .restart (s.port p).preface = some x
          ∧ takeRestart p tag s = failOrder p tag .restart x (s.taken p))
      ∨ (s.atHead p tag .restart ∧ s.failedCheck p .restart (s.port p).preface = none
          ∧ takeRestart p tag s = handleRestart p tag (s.taken p)) := by
  by_cases head : s.atHead p tag .restart
  · rw [takeRestart, consumed_atHead head]
    dsimp only
    rw [taken_failedCheck]
    split
    · next x fails => exact .inr (.inl ⟨head, x, fails, rfl⟩)
    · next passes => exact .inr (.inr ⟨head, passes, rfl⟩)
  · refine .inl ?_
    have absent : consumed p tag .restart s = none := by
      unfold consumed leaveQueue
      split
      · next empty => exact absurd (.inl empty) head
      · next q rest queue =>
        split
        · next same => exact absurd (.inr (by rw [queue, same]; rfl)) head
        · rfl
    rw [takeRestart, absent]

theorem takeRestart_changes (p : Port) (tag : Byte) (s t : State) (h : t = takeRestart p tag s) :
    t = { s with
      aut := t.aut, eff := t.eff, pth := t.pth, loop := t.loop, snd := t.snd, ord.ports := t.ord.ports } := by
  rcases takeRestart_cases p tag s with e | ⟨-, x, fails, e⟩ | ⟨-, -, e⟩
  · rw [h, e]
  · have notice : x ≠ .protect := by
      rintro rfl
      cases isProtected_of_failedCheck fails
    rw [h, e, failOrder_changes, if_neg notice]
    rfl
  · rw [handleRestart_changes _ _ _ _ (h.trans e)]
    rfl

end Sys2Proof.Machine
end

section
/-! PROOF. The fault queue and the brake latch (R162 to R176): what storing, merging, acknowledging and taking records
keep. -/

namespace Sys2Proof.Machine

/-! ### The law of the fault queue -/

/-- An unacknowledged STOP record. -/
abbrev isOpen (r : FaultRecord) : Bool := r.acked == some false

/-- The fault queue's law, the latch's, and that HALT stands with the latch (R162 to R176), of FLT alone. -/
structure Flt.Lawful (f : Flt) : Prop where
  bound : f.queue.length ≤ 16
  kinds : ((f.queue.filter isOpen).map FaultRecord.kind).Nodup
  stops : ∀ r ∈ f.queue, r.acked = some false → r.kind ∈ stopKinds
  field : ∀ r ∈ f.queue, r.cls = .stop ↔ r.acked.isSome = true
  lockout : ∀ r ∈ f.queue, r.kind = .lockout → r.acked = some false → f.halt = true
  latched : f.latch = true ↔ ∃ r ∈ f.queue, r.acked = some false
  halted : f.halt = true → f.latch = true

theorem mem_of_mem_makeRoom {q : List FaultRecord} {r : FaultRecord} (h : r ∈ makeRoom q) : r ∈ q := by
  unfold makeRoom at h
  repeat' split at h
  case isTrue => exact h
  all_goals exact List.mem_of_mem_eraseP h

/-- Erasing the first of some records that are not open leaves the open ones. -/
theorem filter_open_eraseP {f : FaultRecord → Bool} {q : List FaultRecord}
    (h : ∀ r ∈ q, f r = true → isOpen r = false) : (q.eraseP f).filter isOpen = q.filter isOpen := by
  induction q with
  | nil => rfl
  | cons x q ih =>
    have rest := ih fun r mem => h r (List.mem_cons_of_mem _ mem)
    cases fx : f x with
    | true => rw [List.eraseP_cons_of_pos fx, List.filter_cons_of_neg (by simp [h x (by simp) fx])]
    | false => rw [List.eraseP_cons_of_neg (by simp [fx]), List.filter_cons, List.filter_cons, rest]

/-- Room is made at the cost of a record that is not open (R168, R169). -/
theorem filter_open_makeRoom {q : List FaultRecord} (field : ∀ r ∈ q, r.cls = .stop ↔ r.acked.isSome = true) :
    (makeRoom q).filter isOpen = q.filter isOpen := by
  have notStop : ∀ r ∈ q, r.cls ≠ .stop → isOpen r = false := fun r mem other => by
    have none : r.acked.isSome ≠ true := mt (field r mem).mpr other
    cases acked : r.acked <;> simp_all
  unfold makeRoom
  split
  · rfl
  · split
    · refine filter_open_eraseP fun r mem notice => notStop r mem ?_
      simp_all
    · split
      · refine filter_open_eraseP fun r mem restrict => notStop r mem ?_
        simp_all
      · refine filter_open_eraseP fun r mem acked => ?_
        simp only [Bool.and_eq_true] at acked
        simpa [mayRemove] using acked.2

/-- Not every record of a full queue is open: the open ones are of different kinds, and there are six (R163, R166). -/
theorem exists_not_open {q : List FaultRecord} (kinds : ((q.filter isOpen).map FaultRecord.kind).Nodup)
    (stops : ∀ r ∈ q, r.acked = some false → r.kind ∈ stopKinds) (full : 16 ≤ q.length) :
    ∃ r ∈ q, isOpen r = false := by
  by_contra none
  have all : q.filter isOpen = q := List.filter_eq_self.mpr fun r mem => by
    by_contra h
    exact none ⟨r, mem, by simpa using h⟩
  rw [all] at kinds
  have sub : q.map FaultRecord.kind ⊆ stopKinds := fun k mem => by
    obtain ⟨r, inq, rfl⟩ := List.mem_map.mp mem
    exact stops r inq (by simpa using List.filter_eq_self.mp all r inq)
  have le := (kinds.subperm sub).length_le
  simp [stopKinds] at le
  omega

/-- Making room leaves room: at most 15 records (R168, R169). -/
theorem length_makeRoom {q : List FaultRecord} (bound : q.length ≤ 16)
    (kinds : ((q.filter isOpen).map FaultRecord.kind).Nodup)
    (stops : ∀ r ∈ q, r.acked = some false → r.kind ∈ stopKinds)
    (field : ∀ r ∈ q, r.cls = .stop ↔ r.acked.isSome = true) : (makeRoom q).length ≤ 15 := by
  unfold makeRoom
  split
  · next room => exact Nat.le_of_lt_succ room
  · next full =>
    have full : q.length = 16 := Nat.le_antisymm bound (Nat.not_lt.mp full)
    split
    · next notice => rw [List.length_eraseP, if_pos notice, full]
    · next noNotice =>
      split
      · next restrict => rw [List.length_eraseP, if_pos restrict, full]
      · next noRestrict =>
        obtain ⟨r, mem, closed⟩ := exists_not_open kinds stops (Nat.le_of_eq full.symm)
        have stop : r.cls = .stop := by
          simp only [List.any_eq_true, beq_iff_eq, not_exists, not_and] at noNotice noRestrict
          cases cls : r.cls with
          | notice => exact absurd cls (noNotice r mem)
          | restrict => exact absurd cls (noRestrict r mem)
          | stop => rfl
        have erasable : q.any (fun r => r.cls == .stop && mayRemove r) = true :=
          List.any_eq_true.mpr ⟨r, mem, by simp_all [mayRemove]⟩
        rw [List.length_eraseP, if_pos erasable, full]

/-- FLT with one more record, once room has been made (R164, R169). -/
def Flt.store (f : Flt) (r : FaultRecord) : Flt :=
  { f with queue := makeRoom f.queue ++ [r], serial := nextSerial f.serial }

theorem storeFault_flt (k : FaultKind) (c : FaultClass) (key : FaultKey) (tag : Option Byte) (s : State) :
    (storeFault k c key tag s).flt = s.flt.store (newRecord k c key tag s) := rfl

theorem Flt.Lawful.length_store {f : Flt} (h : f.Lawful) (r : FaultRecord) : (f.store r).queue.length ≤ 16 := by
  have := length_makeRoom h.bound h.kinds h.stops h.field
  simp [Flt.store]
  omega

theorem filter_open_store {f : Flt} (h : f.Lawful) (r : FaultRecord) :
    (f.store r).queue.filter isOpen = f.queue.filter isOpen ++ [r].filter isOpen := by
  simp only [Flt.store, List.filter_append, filter_open_makeRoom h.field]

theorem mem_store {f : Flt} {r x : FaultRecord} (h : x ∈ (f.store r).queue) : x ∈ f.queue ∨ x = r := by
  rcases List.mem_append.mp h with old | new
  · exact .inl (mem_of_mem_makeRoom old)
  · exact .inr (List.mem_singleton.mp new)

/-- The open records of a queue, by its filter. -/
theorem exists_open_iff (q : List FaultRecord) : (∃ r ∈ q, r.acked = some false) ↔ q.filter isOpen ≠ [] := by
  simp [List.filter_eq_nil_iff]

/-- Storing a NOTICE or a RESTRICT record keeps the law (R165). -/
theorem Flt.Lawful.store_closed {f : Flt} (h : f.Lawful) {r : FaultRecord} (cls : r.cls ≠ .stop)
    (acked : r.acked = none) : (f.store r).Lawful := by
  have opens : (f.store r).queue.filter isOpen = f.queue.filter isOpen := by
    rw [filter_open_store h, List.filter_cons_of_neg (by simp [acked])]
    exact List.append_nil _
  have old : ∀ x ∈ (f.store r).queue, x.acked = some false → x ∈ f.queue := fun x mem isOpen =>
    (mem_store mem).resolve_right (by rintro rfl; simp [acked] at isOpen)
  constructor
  case bound => exact h.length_store r
  case kinds => exact opens ▸ h.kinds
  case stops => exact fun x mem isOpen => h.stops x (old x mem isOpen) isOpen
  case field =>
    intro x mem
    rcases mem_store mem with mem | rfl
    · exact h.field x mem
    · simp [cls, acked]
  case lockout => exact fun x mem kind isOpen => h.lockout x (old x mem isOpen) kind isOpen
  case latched => exact h.latched.trans (by rw [exists_open_iff, exists_open_iff, opens])
  case halted => exact h.halted

/-- Storing an open record of a kind that has none, with the latch set, keeps the law (R166). -/
theorem Flt.Lawful.store_open {f : Flt} (h : f.Lawful) {r : FaultRecord} (cls : r.cls = .stop)
    (acked : r.acked = some false) (kind : r.kind ∈ stopKinds)
    (fresh : ∀ x ∈ f.queue, x.kind = r.kind → x.acked ≠ some false) {latch halt : Bool} (set : latch = true)
    (still : f.halt = true → halt = true) (lockout : r.kind = .lockout → halt = true) :
    ({ f.store r with latch := latch, halt := halt } : Flt).Lawful := by
  have opens : (f.store r).queue.filter isOpen = f.queue.filter isOpen ++ [r] := by
    rw [filter_open_store h, List.filter_cons_of_pos (by simp [acked])]
    rfl
  constructor
  case bound => exact h.length_store r
  case kinds =>
    change (((f.store r).queue.filter isOpen).map FaultRecord.kind).Nodup
    rw [opens, List.map_append, List.nodup_append]
    refine ⟨h.kinds, by simp, ?_⟩
    rintro a mem b new rfl
    obtain ⟨x, mem, same⟩ := List.mem_map.mp mem
    obtain ⟨mem, isOpen⟩ := List.mem_filter.mp mem
    exact fresh x mem (same.trans (by simpa using new)) (by simpa using isOpen)
  case stops =>
    intro x mem isOpen
    rcases mem_store mem with mem | rfl
    · exact h.stops x mem isOpen
    · exact kind
  case field =>
    intro x mem
    rcases mem_store mem with mem | rfl
    · exact h.field x mem
    · simp [cls, acked]
  case lockout =>
    intro x mem isLockout isOpen
    rcases mem_store mem with mem | rfl
    · exact still (h.lockout x mem isLockout isOpen)
    · exact lockout isLockout
  case latched => exact ⟨fun _ => ⟨r, by simp [Flt.store], acked⟩, fun _ => set⟩
  case halted => exact fun _ => set

/-- A change of records that keeps kind, class and the acknowledged field keeps the law. -/
theorem Flt.Lawful.map {f : Flt} (h : f.Lawful) {g : FaultRecord → FaultRecord} (kind : ∀ r, (g r).kind = r.kind)
    (cls : ∀ r, (g r).cls = r.cls) (acked : ∀ r, (g r).acked = r.acked) :
    ({ f with queue := f.queue.map g } : Flt).Lawful := by
  have all : ∀ {P : FaultRecord → Prop}, (∀ r, P (g r) ↔ P r) → (∀ r ∈ f.queue, P r) → ∀ r ∈ f.queue.map g, P r :=
    fun same hp r mem => by
      obtain ⟨x, old, rfl⟩ := List.mem_map.mp mem
      exact (same x).mpr (hp x old)
  constructor
  case bound => simpa using h.bound
  case kinds =>
    have opens : (f.queue.map g).filter isOpen = (f.queue.filter isOpen).map g := by
      rw [List.filter_map, show isOpen ∘ g = isOpen from funext fun r => by simp [acked]]
    rw [opens, List.map_map, show FaultRecord.kind ∘ g = FaultRecord.kind from funext kind]
    exact h.kinds
  case stops => exact all (fun r => by rw [kind, acked]) h.stops
  case field => exact all (fun r => by rw [cls, acked]) h.field
  case lockout => exact all (fun r => by rw [kind, acked]) h.lockout
  case latched => exact h.latched.trans (by simp [acked])
  case halted => exact h.halted

/-- The queue of a merge, the records being those it had but for their counts (R166). -/
theorem mergeFault_lawful (k : FaultKind) {s : State} (h : s.flt.Lawful) : (mergeFault k s).flt.Lawful :=
  h.map (fun r => by split <;> rfl) (fun r => by split <;> rfl) (fun r => by split <;> rfl)

theorem fresh_of_any {k : FaultKind} {q : List FaultRecord} (absent : q.any (isOpenStop k) = false) :
    ∀ x ∈ q, x.kind = k → x.acked ≠ some false := fun x mem same opened => by
  have := List.any_eq_false.mp absent x mem
  simp [isOpenStop, same, opened] at this

/-- A STOP fault of a kind but LOCKOUT keeps the law, whichever row of R166 holds. -/
theorem raiseStop_lawful {k : FaultKind} (kind : k ∈ stopKinds) (other : k ≠ .lockout) (key : FaultKey) {s : State}
    (h : s.flt.Lawful) : (raiseStop k key s).flt.Lawful := by
  have stored : ∀ latch, latch = true → s.flt.queue.any (isOpenStop k) = false →
      ({ s.flt.store (newRecord k .stop key none s) with latch := latch, halt := s.flt.halt } : Flt).Lawful :=
    fun latch set absent =>
      h.store_open rfl rfl kind (fresh_of_any absent) set id fun isLockout => absurd isLockout other
  rcases raiseStop_cases k key s with ⟨-, e⟩ | ⟨absent, -, e⟩ | ⟨absent, latch, halt, e⟩ | ⟨absent, latch, -, e⟩ <;> rw [e]
  · exact mergeFault_lawful k h
  · exact stored true rfl absent
  · have first : (storeFault k .stop key none s).flt.Lawful := stored _ latch absent
    refine first.store_open (r := newRecord .lockout .stop .none none (storeFault k .stop key none s)) rfl rfl
      (by simp [newRecord, stopKinds]) (fun x mem isLockout opened => ?_) latch (fun _ => rfl) (fun _ => rfl)
    have halted : s.flt.halt = true := first.lockout x mem isLockout opened
    exact Bool.false_ne_true (halt.symm.trans halted)
  · exact stored _ latch absent

/-- Acknowledging every open record, with the latch cleared, keeps the law out of HALT (R174). -/
theorem Flt.Lawful.acknowledge {f : Flt} (h : f.Lawful) (halt : f.halt = false) :
    ({ f with queue := f.queue.map acknowledged, latch := false } : Flt).Lawful := by
  have closed : ∀ r ∈ f.queue.map acknowledged, r.acked ≠ some false := fun r mem => by
    obtain ⟨x, -, rfl⟩ := List.mem_map.mp mem
    unfold acknowledged
    split <;> simp_all
  constructor
  case bound => simpa using h.bound
  case kinds =>
    have none : (f.queue.map Machine.acknowledged).filter isOpen = [] :=
      List.filter_eq_nil_iff.mpr fun r mem => by simpa using closed r mem
    simp [none]
  case stops => exact fun r mem opened => absurd opened (closed r mem)
  case field =>
    intro r mem
    obtain ⟨x, old, rfl⟩ := List.mem_map.mp mem
    have before := h.field x old
    unfold Machine.acknowledged
    split <;> simp_all
  case lockout => exact fun r mem _ opened => absurd opened (closed r mem)
  case latched => exact ⟨nofun, fun ⟨r, mem, opened⟩ => absurd opened (closed r mem)⟩
  case halted => exact fun halted => absurd (halt.symm.trans halted) Bool.false_ne_true

/-- Taking a record that may be removed keeps the law (R170). -/
theorem Flt.Lawful.take {f : Flt} (h : f.Lawful) : ({ f with queue := f.queue.eraseP mayRemove } : Flt).Lawful := by
  have sub : ∀ r ∈ f.queue.eraseP mayRemove, r ∈ f.queue := fun r mem => List.mem_of_mem_eraseP mem
  have opens : (f.queue.eraseP mayRemove).filter isOpen = f.queue.filter isOpen :=
    filter_open_eraseP fun r _ may => by simpa [mayRemove] using may
  constructor
  case bound => exact (List.length_eraseP_le).trans h.bound
  case kinds => exact opens ▸ h.kinds
  case stops => exact fun r mem => h.stops r (sub r mem)
  case field => exact fun r mem => h.field r (sub r mem)
  case lockout => exact fun r mem => h.lockout r (sub r mem)
  case latched => exact h.latched.trans (by rw [exists_open_iff, exists_open_iff, opens])
  case halted => exact h.halted

theorem Flt.reset_lawful : Flt.reset.Lawful := by
  constructor <;> simp [Flt.reset]

end Sys2Proof.Machine
end

section
/-! PROOF. AUT (R1 to R15): every command keeps its fields in agreement with the authority state, and CLAIM and a cold
reset alone move the direction end. -/

namespace Sys2Proof.Machine

/-! ### What a step can be -/

/-- A step is one tick on an empty queue, or the front command on the queue's rest. -/
theorem step_cases {s t : State} (h : step s = .next t) :
    t = tick s ∨ ∃ c rest, exec c { s with pending := rest } = .next t := by
  unfold step at h
  split at h
  · exact .inl (Host.Outcome.next.inj h).symm
  · next c rest _ => exact .inr ⟨c, rest, h⟩

/-- No check of R184 fails exactly where each of the five holds. -/
theorem failedCheck_eq_none_iff {s : State} {p : Port} {o : Order} {r : Option Preface} :
    s.failedCheck p o r = none ↔
      portAllows p o = true ∧ (s.ord.run = true ∨ admittedUnconfigured o = true)
        ∧ (s.flt.halt = false ∨ admittedInHalt o = true) ∧ (isProtected o = true → prefaceMatches r o = true)
        ∧ s.lacksLiveEnd p o = false := by
  unfold State.failedCheck
  cases portAllows p o <;> cases s.ord.run <;> cases admittedUnconfigured o <;> cases s.flt.halt <;>
    cases admittedInHalt o <;> cases isProtected o <;> cases prefaceMatches r o <;> cases s.lacksLiveEnd p o <;> simp

/-- An order of a desk alone that needs the live end passes its checks only with a live end (R16, R185). -/
theorem liveEnd_of_passes {s : State} {p : Port} {o : Order} {r : Option Preface} (passes : s.failedCheck p o r = none)
    (desk : deskOrder o = true) (shared : anyPortOrder o = false) (needs : needsLiveEnd o = true) :
    ∃ c, deskEnd p = some c ∧ s.liveEnd = some c := by
  obtain ⟨allowed, -, -, -, live⟩ := failedCheck_eq_none_iff.mp passes
  cases end_ : deskEnd p with
  | none => simp [portAllows, shared, desk, end_] at allowed
  | some c => exact ⟨c, rfl, by simpa [State.lacksLiveEnd, needs, end_] using live⟩

/-! ### AUT kept in agreement, and the direction end kept -/

theorem authorityKept_of_aut {s t : State} (h : t.aut = s.aut) (kept : s.authorityKept) : t.authorityKept := by
  simpa only [State.authorityKept, State.liveEnd, h] using kept

/-- From `s` to `t` AUT's fields stay in agreement, and the direction end stays. -/
def Steady (s t : State) : Prop :=
  s.authorityKept → t.authorityKept ∧ t.directionEnd = s.directionEnd

theorem Steady.of_aut {s t : State} (h : t.aut = s.aut) : Steady s t := fun kept =>
  ⟨authorityKept_of_aut h kept, by simp only [State.directionEnd, h]⟩

theorem Steady.trans {s t u : State} (first : Steady s t) (second : Steady t u) : Steady s u := fun kept =>
  have ⟨kept, same⟩ := first kept
  have ⟨kept', same'⟩ := second kept
  ⟨kept', same'.trans same⟩

theorem liveEnd_eq_some_iff {s : State} {c : CabEnd} : s.liveEnd = some c ↔ s.aut.authority = .live c := by
  unfold State.liveEnd; split <;> simp_all

theorem authority_of_liveEnd {s : State} {c : CabEnd} (h : s.liveEnd = some c) : s.aut.authority = .live c :=
  liveEnd_eq_some_iff.mp h

/-- A change of the vigilance timer that leaves it stopped without a live end (R14). -/
theorem steady_vigilance {s : State} {v : Vigilance} (h : v ≠ .stopped → s.liveEnd.isSome = true) :
    Steady s { s with aut.vigilance := v } := fun ⟨lost, silence, _, handover, last⟩ =>
  ⟨⟨lost, silence, h, handover, last⟩, rfl⟩

theorem steady_reviseVigilance (s : State) : Steady s (reviseVigilance s) := by
  have live : s.vigilanceHolds = true → s.liveEnd.isSome = true := fun holds => by
    simp only [State.vigilanceHolds, Bool.and_eq_true] at holds
    exact holds.1.1.1
  rcases reviseVigilance_cases s with ⟨-, h⟩ | ⟨holds, -, h⟩ | ⟨-, -, h⟩ <;> rw [h]
  · exact steady_vigilance fun started => absurd rfl started
  · exact steady_vigilance fun _ => live holds
  · exact .of_aut rfl

/-- A change of the silence timer that leaves it stopped without a live end (R12). -/
theorem steady_silence {s : State} {x : Timer} (h : x ≠ .stopped → s.liveEnd.isSome = true) :
    Steady s { s with aut.silence := x } := fun ⟨lost, _, vigilance, handover, last⟩ =>
  ⟨⟨lost, h, vigilance, handover, last⟩, rfl⟩

/-- The live end's offer keeps it the direction end (R3, R10). -/
theorem steady_offerAuthority {s : State} {c : CabEnd} (live : s.aut.authority = .live c) :
    Steady s (offerAuthority c s) := fun ⟨_, _, _, _, last⟩ => by
  have lastLive := last c (.inl live)
  have aut : (offerAuthority c s).aut = { s.aut with
      authority := .offered c, keyLost := false, handover := .start (s.cfgNat .handoverTime * ticksPerSecond)
      silence := .stopped, vigilance := .stopped } := by simp [offerAuthority]
  constructor
  · simp [State.authorityKept, aut, lastLive, Timer.start]
  · simp [State.directionEnd, aut, live]

/-- Authority taken away leaves the end that had it the direction end (R2, R11). -/
theorem steady_vacated {s t : State} (authority : t.aut.authority = .vacant) (keyLost : t.aut.keyLost = false)
    (handover : t.aut.handover = .stopped) (silence : t.aut.silence = .stopped) (vigilance : t.aut.vigilance = .stopped)
    (lastLive : t.aut.lastLive = s.aut.lastLive) : Steady s t := fun ⟨_, _, _, _, last⟩ => by
  constructor
  · simp [State.authorityKept, authority, keyLost, handover, silence, vigilance]
  · simp only [State.directionEnd, authority, lastLive]
    cases before : s.aut.authority with
    | vacant => rfl
    | live c => rw [last c (.inl before)]; rfl
    | offered c => rw [last c (.inr before)]; rfl

theorem vacate_aut (s : State) : (vacate s).aut = { s.aut with
    authority := .vacant, keyLost := false, handover := .stopped, silence := .stopped, vigilance := .stopped } := by
  simp [vacate]

theorem steady_vacate (s : State) : Steady s (vacate s) :=
  steady_vacated (by simp) (by simp [vacate_aut]) (by simp [vacate_aut]) (by simp [vacate_aut]) (by simp [vacate_aut])
    (by simp [vacate_aut])

/-! ### The orders of AUT -/

/-- The other end's key is no matter of the live end's key-lost mark (R1, R3). -/
theorem steady_otherKey {s : State} {c : CabEnd} (on : Bool) (other : s.liveEnd ≠ some c) :
    Steady s { s with aut.keys := s.aut.keys.set c on } := fun ⟨lost, silence, vigilance, handover, last⟩ => by
  refine ⟨⟨fun keyLost => ?_, silence, vigilance, handover, last⟩, rfl⟩
  obtain ⟨d, live, off⟩ := lost keyLost
  have ne : d ≠ c := by
    rintro rfl
    exact other (liveEnd_eq_some_iff.mpr live)
  refine ⟨d, live, ?_⟩
  cases d <;> cases c <;> simp_all [PerEnd.set, PerEnd.get]

theorem steady_reportKey (c : CabEnd) (on : Bool) (s : State) : Steady s (reportKey c on s) := by
  unfold reportKey
  split
  · exact .of_aut rfl
  · unfold keyEffect
    split
    · next live =>
      have live : s.aut.authority = .live c := authority_of_liveEnd live
      split
      · exact fun ⟨_, silence, vigilance, handover, last⟩ => ⟨⟨nofun, silence, vigilance, handover, last⟩, rfl⟩
      · next off =>
        split
        · rintro ⟨lost, silence, vigilance, handover, last⟩
          have ⟨kept, same⟩ := steady_offerAuthority (s := { s with aut.keyLost := false, aut.keys := s.aut.keys.set c on })
            live ⟨nofun, silence, vigilance, handover, last⟩
          exact ⟨kept, same⟩
        · have raised : Steady s { s with aut.keys := s.aut.keys.set c on, aut.keyLost := true } :=
            fun ⟨_, silence, vigilance, handover, last⟩ => by
              refine ⟨⟨fun _ => ⟨c, live, ?_⟩, silence, vigilance, handover, last⟩, rfl⟩
              cases c <;> simpa [PerEnd.set, PerEnd.get] using off
          exact raised.trans (.of_aut (by simp))
    · next other => exact steady_otherKey on other

theorem steady_handleKey (p : Port) (k : Byte) (s : State) : Steady s (handleKey p k s).1 := by
  unfold handleKey
  split
  · exact steady_reportKey _ _ s
  · exact .of_aut rfl

theorem steady_handleLever {s : State} (l g x : Byte) (live : s.liveEnd.isSome = true) :
    Steady s (handleLever l g x s).1 := by
  have sample : Steady s { s with aut.gripHeld := readGrip g, aut.silence := .start silenceLimit } :=
    (steady_silence fun _ => live).trans fun kept => ⟨kept, rfl⟩
  refine sample.trans (Steady.trans (.of_aut ?_) (steady_reviseVigilance _))
  simp

theorem steady_handleAck (s : State) : Steady s (handleAck s).1 := by
  unfold handleAck
  (repeat' split)
  case isFalse.isFalse.isFalse => exact Steady.trans (.of_aut (by simp)) (steady_reviseVigilance _)
  all_goals exact .of_aut rfl

theorem steady_handleForceRelease (s : State) : Steady s (handleForceRelease s).1 := by
  unfold handleForceRelease
  (repeat' split)
  case isFalse.isFalse => exact (steady_vacate s).trans (.of_aut (by simp))
  all_goals exact .of_aut rfl

/-- The handling of an order but CLAIM, its checks passed, keeps AUT in agreement and the direction end. -/
theorem steady_handleOrder {p : Port} {tag : Byte} {o : Order} {r : Option Preface} {s : State}
    (passes : s.failedCheck p o r = none) (other : o ≠ .claim) : Steady s (handleOrder p tag o s).1 := by
  have changes := handleOrder_changes p tag o s
  cases o with
  | key k => exact steady_handleKey p k s
  | claim => exact absurd rfl other
  | lever l g x =>
    obtain ⟨c, -, live⟩ := liveEnd_of_passes passes rfl rfl rfl
    exact steady_handleLever l g x (by rw [live]; rfl)
  | ack => exact steady_handleAck s
  | forceRelease => exact steady_handleForceRelease s
  | _ => exact .of_aut (congrArg State.aut changes :)

/-- The grant (R8). -/
theorem grantAuthority_kept (c : CabEnd) (s : State) : (grantAuthority c s).authorityKept := by
  have aut : (grantAuthority c s).aut = grantedAut c s.aut := by
    unfold grantAuthority
    dsimp only
    split <;> simp
  simp [State.authorityKept, State.liveEnd, aut, grantedAut]

theorem handleClaim_kept (p : Port) {s : State} (kept : s.authorityKept) : (handleClaim p s).1.authorityKept := by
  unfold handleClaim
  (repeat' split)
  case h_2.isFalse.isFalse.isFalse.isFalse => exact grantAuthority_kept ..
  all_goals exact kept

theorem takeOrder_kept {p : Port} {tag : Byte} {o : Order} {s : State} (kept : s.authorityKept) :
    (takeOrder p tag o (handleOrder p tag o) s).authorityKept := by
  have taken : (s.taken p).authorityKept := authorityKept_of_aut (taken_aut s p) kept
  rcases takeOrder_cases p tag o (handleOrder p tag o) s with e | ⟨-, x, -, e⟩ | ⟨-, passes, e⟩ <;> rw [e]
  · exact kept
  · exact authorityKept_of_aut (failOrder_aut ..) taken
  · refine authorityKept_of_aut (pushReply_aut ..) ?_
    by_cases claim : o = .claim
    · subst claim
      exact handleClaim_kept p taken
    · exact (steady_handleOrder ((taken_failedCheck ..).trans passes) claim taken).1

theorem steady_takeOrder {p : Port} {tag : Byte} {o : Order} (s : State) (other : o ≠ .claim) :
    Steady s (takeOrder p tag o (handleOrder p tag o) s) := by
  have taken : Steady s (s.taken p) := .of_aut (taken_aut s p)
  rcases takeOrder_cases p tag o (handleOrder p tag o) s with e | ⟨-, x, -, e⟩ | ⟨-, passes, e⟩ <;> rw [e]
  · exact .of_aut rfl
  · exact taken.trans (.of_aut (failOrder_aut ..))
  · exact taken.trans ((steady_handleOrder ((taken_failedCheck ..).trans passes) other).trans (.of_aut (pushReply_aut ..)))

/-! ### Events, RESTART and the tick -/

theorem steady_handoverExpired (s : State) : Steady s (handoverExpired s) := by
  unfold handoverExpired
  split
  · next c offered =>
    rintro ⟨lost, silence, vigilance, handover, last⟩
    have notLive : s.liveEnd = none := by simp [State.liveEnd, offered]
    have stopped : s.aut.silence = .stopped ∧ s.aut.vigilance = .stopped ∧ s.aut.keyLost = false := by
      simp_all
    exact steady_vacated (s := s) rfl stopped.2.2 rfl stopped.1 stopped.2.1 rfl ⟨lost, silence, vigilance, handover, last⟩
  · exact .of_aut rfl
  · exact .of_aut rfl

theorem steady_silenceExpired (s : State) : Steady s (silenceExpired s) := by
  unfold silenceExpired
  (repeat' split)
  case h_2.isTrue cab _ _ =>
    have stopped : Steady s { s with aut.silence := .stopped } := steady_silence fun started => absurd rfl started
    have raised : Steady s (raiseStop .deskSilent (.cab cab) { s with aut.silence := .stopped }) :=
      stopped.trans (.of_aut (raiseStop_aut ..))
    exact raised.trans ((steady_reviseVigilance _).trans (.of_aut (forceLetGo_aut _)))
  all_goals exact .of_aut rfl

theorem steady_vigilanceExpired (s : State) : Steady s (vigilanceExpired s) := by
  unfold vigilanceExpired
  split
  · next live => exact (steady_vigilance fun _ => by rw [live]; rfl).trans (.of_aut (raiseStop_aut ..))
  · exact .of_aut rfl

theorem steady_endKeyLost (s : State) : Steady s (endKeyLost s) := by
  unfold endKeyLost
  (repeat' split)
  · next live _ => exact steady_offerAuthority (authority_of_liveEnd live)
  all_goals exact .of_aut rfl

theorem steady_countClose (s : State) : Steady s (countClose s) := by
  have before : Steady s (advancePosition (axlClose (putConfigInForce s))) := .of_aut (by simp)
  exact before.trans ((steady_endKeyLost _).trans ((steady_reviseVigilance _).trans (.of_aut (countClose_aut s))))

theorem coldReset_aut (s : State) : (coldReset s).aut = .reset := by
  have reset : (coldValues s).aut = .reset := rfl
  unfold coldReset
  dsimp only
  split
  · exact reset
  · rw [foundOpen_aut, reset]

theorem coldReset_kept (s : State) : (coldReset s).authorityKept := by
  simp [State.authorityKept, State.liveEnd, coldReset_aut, Aut.reset]

theorem steady_restart (p : Port) (tag : Byte) (s : State) : Steady s (takeRestart p tag s) := by
  have taken : Steady s (s.taken p) := .of_aut (taken_aut s p)
  rcases takeRestart_cases p tag s with e | ⟨-, x, -, e⟩ | ⟨-, -, e⟩ <;> rw [e]
  · exact .of_aut rfl
  · exact taken.trans (.of_aut (failOrder_aut ..))
  · refine taken.trans ?_
    unfold handleRestart
    split
    · exact .of_aut (pushReply_aut ..)
    · have aut : ∀ u, (restartBlocks u).aut = (vacate { u with aut.gripHeld := false }).aut := fun u => by
        have before : (ordRestart (pthRestart u)).aut = u.aut :=
          (congrArg State.aut (pthRestart_changes u _ rfl) :)
        simp [restartBlocks, autRestart, vacate_aut, before]
      exact steady_vacated (by simp [aut]) (by simp [aut, vacate_aut]) (by simp [aut, vacate_aut])
        (by simp [aut, vacate_aut]) (by simp [aut, vacate_aut]) (by simp [aut, vacate_aut])

/-- An event but a cold reset keeps AUT in agreement and the direction end. -/
theorem steady_event {c : Instr} {s t : State} (event : isEvent c = true) (other : c ≠ .coldReset)
    (h : exec c s = .next t) : Steady s t := by
  cases c with
  | coldReset => exact absurd rfl other
  | countClose => exact Host.Outcome.next.inj h ▸ steady_countClose s
  | handoverTimerExpiry => exact Host.Outcome.next.inj h ▸ steady_handoverExpired s
  | silenceTimerExpiry => exact Host.Outcome.next.inj h ▸ steady_silenceExpired s
  | vigilanceTimerExpiry => exact Host.Outcome.next.inj h ▸ steady_vigilanceExpired s
  | _ => exact .of_aut (congrArg State.aut (exec_event_changes event h) :)

@[simp] theorem timer_advance_ne_stopped (x : Timer) : x.advance ≠ .stopped ↔ x ≠ .stopped := by
  cases x <;> simp [Timer.advance]

@[simp] theorem vigilance_advance_ne_stopped (x : Vigilance) : x.advance ≠ .stopped ↔ x ≠ .stopped := by
  cases x <;> simp [Vigilance.advance]

/-- The exchange timers stand in the banks. -/
theorem advanceExchanges_changes (s : State) :
    advanceExchanges s = { s with
      pth.bankA := (advanceExchanges s).pth.bankA, pth.bankB := (advanceExchanges s).pth.bankB } := by
  unfold advanceExchanges
  split
  · rfl
  · next b _ => cases b <;> rfl

theorem tick_aut (s : State) : (tick s).aut = { s.aut with
    handover := s.aut.handover.advance, silence := s.aut.silence.advance, vigilance := s.aut.vigilance.advance } := by
  have aut : (advanceExchanges s).aut = s.aut := (congrArg State.aut (advanceExchanges_changes s) :)
  simp only [tick, advance, aut]

theorem tick_kept {s : State} (kept : s.authorityKept) : (tick s).authorityKept := by
  simpa only [State.authorityKept, State.liveEnd, tick_aut, timer_advance_ne_stopped, vigilance_advance_ne_stopped]
    using kept

theorem exec_kept {c : Instr} {s t : State} (kept : s.authorityKept) (h : exec c s = .next t) : t.authorityKept := by
  rcases instr_cases c with event | ⟨p, tag, rfl⟩ | ⟨p, q, other, rfl⟩
  · by_cases reset : c = .coldReset
    · subst reset
      cases h
      exact coldReset_kept s
    · exact (steady_event event reset h kept).1
  · cases h
    exact (steady_restart p tag s kept).1
  · rw [exec_takingCommand p q s other] at h
    cases h
    exact takeOrder_kept kept

/-- Settles O58: a command and a tick keep AUT's fields in agreement with the authority state. -/
theorem everyStepKeepsAuthorityConsistent : Obligations.EveryStepKeepsAuthorityConsistent := by
  unfold Obligations.EveryStepKeepsAuthorityConsistent
  intro s t kept stepped
  rcases step_cases stepped with rfl | ⟨c, rest, h⟩
  · exact tick_kept kept
  · exact exec_kept (s := { s with pending := rest }) kept h

end Sys2Proof.Machine
end

section
/-! PROOF. NOTICE and RESTRICT records (R165): which operations do no more to FLT than store such records, and of which
kinds. -/

namespace Sys2Proof.Machine

/-! ### Records noted -/

/-- From `f` to `g` FLT has stored NOTICE and RESTRICT records of these kinds, one after another (R164, R165). -/
def Flt.Noted (kinds : List FaultKind) (f g : Flt) : Prop :=
  ∃ rs : List FaultRecord, (∀ r ∈ rs, r.kind ∈ kinds ∧ r.cls ≠ .stop ∧ r.acked = none) ∧ g = rs.foldl Flt.store f

/-- From `s` to `t` FLT has stored NOTICE and RESTRICT records of these kinds alone. -/
def Noted (kinds : List FaultKind) (s t : State) : Prop :=
  Flt.Noted kinds s.flt t.flt

variable {kinds : List FaultKind}

theorem Flt.Noted.trans {f g h : Flt} (first : f.Noted kinds g) (second : g.Noted kinds h) : f.Noted kinds h := by
  obtain ⟨rs, noted, rfl⟩ := first
  obtain ⟨us, noted', rfl⟩ := second
  refine ⟨rs ++ us, fun r mem => ?_, by rw [List.foldl_append]⟩
  exact (List.mem_append.mp mem).elim (noted r) (noted' r)

theorem Flt.Noted.mono {f g : Flt} {more : List FaultKind} (h : f.Noted kinds g) (sub : kinds ⊆ more) : f.Noted more g := by
  obtain ⟨rs, noted, rfl⟩ := h
  exact ⟨rs, fun r mem => ⟨sub (noted r mem).1, (noted r mem).2⟩, rfl⟩

theorem Noted.of_flt {s t : State} (h : t.flt = s.flt) : Noted kinds s t :=
  ⟨[], by simp, h⟩

theorem Noted.trans {s t u : State} (first : Noted kinds s t) (second : Noted kinds t u) : Noted kinds s u :=
  Flt.Noted.trans first second

theorem Noted.mono {s t : State} {more : List FaultKind} (h : Noted kinds s t) (sub : kinds ⊆ more) : Noted more s t :=
  Flt.Noted.mono h sub

/-- A change before it that leaves FLT as it is makes no difference. -/
theorem Noted.from_flt {s s' t : State} (h : s'.flt = s.flt) (noted : Noted kinds s' t) : Noted kinds s t :=
  (Noted.of_flt h).trans noted

theorem storeFault_noted {k : FaultKind} (mem : k ∈ kinds) {c : FaultClass} (cls : c ≠ .stop) (key : FaultKey)
    (tag : Option Byte) (s : State) : Noted kinds s (storeFault k c key tag s) :=
  ⟨[newRecord k c key tag s], by simp [newRecord, mem, cls], rfl⟩

theorem raiseNotice_noted {k : FaultKind} (mem : k ∈ kinds) (key : FaultKey) (s : State) :
    Noted kinds s (raiseNotice k key s) :=
  storeFault_noted mem (c := .notice) (by decide) key none s

theorem raiseRestrict_noted {k : FaultKind} (mem : k ∈ kinds) (key : FaultKey) (s : State) :
    Noted kinds s (raiseRestrict k key s) :=
  storeFault_noted mem (c := .restrict) (by decide) key none s

/-- A fold notes records where each of its steps does. -/
theorem foldl_noted {α : Type} {f : State → α → State} (h : ∀ s a, Noted kinds s (f s a)) :
    ∀ (l : List α) (s : State), Noted kinds s (l.foldl f s)
  | [], _ => .of_flt rfl
  | a :: l, s => (h s a).trans (foldl_noted h l (f s a))

/-! ### What noting records keeps -/

/-- What every stored NOTICE or RESTRICT record keeps, noting records keeps. -/
theorem Flt.Noted.keeps {f g : Flt} (noted : f.Noted kinds g) {P : Flt → Prop}
    (store : ∀ h r, r.kind ∈ kinds → r.cls ≠ .stop → r.acked = none → P h → P (h.store r)) (before : P f) : P g := by
  obtain ⟨rs, each, rfl⟩ := noted
  induction rs generalizing f with
  | nil => exact before
  | cons r rs ih =>
    obtain ⟨kind, cls, acked⟩ := each r (by simp)
    exact ih (store f r kind cls acked before) fun x mem => each x (by simp [mem])

theorem Flt.Noted.latch {f g : Flt} (noted : f.Noted kinds g) : g.latch = f.latch :=
  noted.keeps (P := fun h => h.latch = f.latch) (fun _ _ _ _ _ same => same) rfl

theorem Flt.Noted.halt {f g : Flt} (noted : f.Noted kinds g) : g.halt = f.halt :=
  noted.keeps (P := fun h => h.halt = f.halt) (fun _ _ _ _ _ same => same) rfl

theorem Flt.Noted.lawful {f g : Flt} (noted : f.Noted kinds g) : f.Lawful → g.Lawful :=
  noted.keeps fun _ _ _ cls acked lawful => lawful.store_closed cls acked

/-- Noting records opens none. -/
theorem Flt.Noted.open_mem {f g : Flt} (noted : f.Noted kinds g) :
    ∀ r ∈ g.queue, r.acked = some false → r ∈ f.queue := by
  refine noted.keeps (P := fun h => ∀ r ∈ h.queue, r.acked = some false → r ∈ f.queue) ?_ fun r mem _ => mem
  intro h r _ _ acked old x mem opened
  rcases mem_store mem with mem | rfl
  · exact old x mem opened
  · cases acked.symm.trans opened

/-- While the queue has room left, the records noted stand at its tail. -/
theorem Flt.Noted.joined {f g : Flt} (noted : f.Noted kinds g) (room : g.queue.length < 16) :
    ∃ rs : List FaultRecord, g.queue = f.queue ++ rs ∧ ∀ r ∈ rs, r.kind ∈ kinds := by
  refine noted.keeps (P := fun h => h.queue.length < 16 →
    ∃ rs : List FaultRecord, h.queue = f.queue ++ rs ∧ ∀ r ∈ rs, r.kind ∈ kinds) ?_ (fun _ => ⟨[], by simp⟩) room
  intro h r kind _ _ ih room
  have atMostOne := length_le_makeRoom h.queue
  have stored : (h.store r).queue = makeRoom h.queue ++ [r] := rfl
  rw [stored, List.length_append, List.length_singleton] at room
  obtain ⟨rs, queue, each⟩ := ih (by omega)
  refine ⟨rs ++ [r], by rw [stored, (makeRoom_made _).1 (by omega), queue, List.append_assoc], ?_⟩
  simpa [or_imp, forall_and, kind] using each

/-! ### Position, plan and stops -/

/-- The kinds that PTH, JCT and STP note while a position or a plan moves (R163). -/
def planKinds : List FaultKind := [.passedUnlocked, .stopMissed, .planEnd, .requestDropped, .fixRejected]

theorem passClearance_noted (b : BankName) (i : Nat) (s : State) : Noted planKinds s (passClearance b i s) := by
  unfold passClearance
  split
  · exact .of_flt rfl
  · split
    · exact .of_flt rfl
    · dsimp only
      split
      case h_1 | h_7 | h_8 => exact .of_flt (by simp)
      all_goals exact .from_flt (by simp) (raiseNotice_noted (by simp [planKinds]) _ _)

theorem passWindowEnd_noted (b : BankName) (i : Nat) (s : State) : Noted planKinds s (passWindowEnd b i s) := by
  unfold passWindowEnd
  split
  · exact .of_flt rfl
  · split
    · exact .of_flt rfl
    · dsimp only
      (repeat' split)
      case isTrue.isTrue | isFalse.isTrue => exact .from_flt (by simp) (raiseNotice_noted (by simp [planKinds]) _ _)
      all_goals exact .of_flt (by simp)

theorem firePlanEnd_noted (s : State) : Noted planKinds s (firePlanEnd s) :=
  .from_flt rfl (raiseRestrict_noted (by simp [planKinds]) _ _)

theorem fireMark_noted (b : BankName) (s : State) (m : Mark) : Noted planKinds s (fireMark b s m) := by
  cases m with
  | clearance i => exact .from_flt (by simp) (passClearance_noted b i _)
  | window i => exact .from_flt (by simp) (passWindowEnd_noted b i _)
  | planEnd => exact firePlanEnd_noted s
  | _ => exact .of_flt (by simp [fireMark])

theorem fireMarks_noted (s : State) : Noted planKinds s (fireMarks s) := by
  unfold fireMarks
  split
  · exact .of_flt rfl
  · exact foldl_noted (fireMark_noted _) _ s

theorem moveTo_noted (p : Nat) (s : State) : Noted planKinds s (moveTo p s) := by
  rcases moveTo_cases p s with ⟨-, h⟩ | ⟨-, h⟩ <;> rw [h]
  · exact .from_flt rfl (fireMarks_noted _)
  · exact .of_flt rfl

theorem advancePosition_noted (s : State) : Noted planKinds s (advancePosition s) :=
  .from_flt rfl (moveTo_noted _ _)

theorem setUpPlan_noted (b : BankName) (s : State) : Noted planKinds s (setUpPlan b s) := by
  unfold setUpPlan
  dsimp only
  split
  · exact .from_flt (by simp) (firePlanEnd_noted _)
  · exact .of_flt (by simp)

theorem carryRequest_noted (o : Option Nat) (s : State) : Noted planKinds s (carryRequest o s) := by
  unfold carryRequest
  (repeat' split)
  case h_1.isFalse => exact .from_flt rfl (raiseNotice_noted (by simp [planKinds]) _ _)
  all_goals exact .of_flt rfl

theorem switchPlans_noted (s : State) : Noted planKinds s (switchPlans s) :=
  .trans (Noted.from_flt (turnBanks_flt s) (setUpPlan_noted _ _)) (carryRequest_noted _ _)

theorem completeSwitch_noted (s : State) : Noted planKinds s (completeSwitch s) :=
  (switchPlans_noted s).trans (Noted.of_flt (completePlan_flt _ _ _))

theorem examineSwitch_noted (s : State) : Noted planKinds s (examineSwitch s) := by
  rcases examineSwitch_cases s with ⟨-, -, -, h⟩ | h <;> rw [h]
  · exact completeSwitch_noted s
  · exact .of_flt rfl

theorem dropRequest_noted (o : Option Nat) (s : State) : Noted planKinds s (dropRequest o s) := by
  unfold dropRequest
  split
  · exact .from_flt rfl (raiseNotice_noted (by simp [planKinds]) _ _)
  · exact .of_flt rfl
  · exact .of_flt rfl

theorem retirePlan_noted (s : State) : Noted planKinds s (retirePlan s) := by
  have switched : ∀ t, Noted planKinds t (if t.pth.pendingSwitch then completeSwitch t else t) := fun t => by
    split
    · exact completeSwitch_noted t
    · exact .of_flt rfl
  unfold retirePlan
  refine Noted.trans ?_ (switched _)
  split
  · exact .of_flt rfl
  · exact .from_flt (by simp) (dropRequest_noted _ _)

theorem takeFix_noted (junction : Nat) (s : State) : Noted planKinds s (takeFix junction s) := by
  unfold takeFix
  (repeat' split)
  · exact .of_flt rfl
  · exact raiseNotice_noted (by simp [planKinds]) _ _
  · exact raiseNotice_noted (by simp [planKinds]) _ _
  · next e _ _ =>
    have moved : Noted planKinds s (moveTo e.distance { s with pth.rem := 0 }) := .from_flt rfl (moveTo_noted _ _)
    exact moved.trans (.of_flt (by simp))

/-! ### Orders -/

theorem grantAuthority_noted (cab : CabEnd) (s : State) : Noted planKinds s (grantAuthority cab s) := by
  unfold grantAuthority
  dsimp only
  split
  · have retired := retirePlan_noted (offerSettle .authority 10 (resetLever { s with aut := grantedAut cab s.aut }))
    exact (Noted.from_flt (by simp) retired).trans (.of_flt (by simp))
  · exact .of_flt (by simp)

theorem handleClaim_noted (p : Port) (s : State) : Noted planKinds s (handleClaim p s).1 := by
  unfold handleClaim
  (repeat' split)
  case h_2.isFalse.isFalse.isFalse.isFalse => exact grantAuthority_noted _ s
  all_goals exact .of_flt rfl

theorem handleShift_noted (x : BitVec 16) (s : State) : Noted planKinds s (handleShift x s).1 := by
  unfold handleShift
  dsimp only
  (repeat' split)
  case isFalse.isFalse =>
    exact (moveTo_noted (clampInt 0 maxPosition (s.pth.p + signed16 x)).toNat s).trans (.of_flt (by simp))
  all_goals exact .of_flt rfl

theorem handlePlanSwitch_noted (tag : Byte) (s : State) : Noted planKinds s (handlePlanSwitch tag s).1 := by
  unfold handlePlanSwitch
  dsimp only
  (repeat' split)
  case isFalse.isFalse.isTrue => exact (switchPlans_noted s).trans (Noted.of_flt (by simp))
  all_goals exact .of_flt rfl

/-! ### Junctions, buttons -/

theorem takeRefuse_noted (junction : Nat) (n : BitVec 4) (r : Reason) (s : State) :
    Noted [.junctionRefused] s (takeRefuse junction n r s) := by
  unfold takeRefuse
  (repeat' split)
  case h_2.isTrue => exact (Noted.from_flt (by simp) (raiseNotice_noted (by simp) _ _)).trans (Noted.of_flt rfl)
  all_goals exact .of_flt rfl

theorem exchangeExpired_noted (junction : Nat) (s : State) : Noted [.junctionLost] s (exchangeExpired junction s) := by
  unfold exchangeExpired
  (repeat' split)
  case h_2.isTrue => exact (Noted.from_flt (by simp) (raiseRestrict_noted (by simp) _ _)).trans (Noted.of_flt rfl)
  all_goals exact .of_flt rfl

theorem stickButton_noted (n : Nat) (s : State) : Noted [.buttonStuck] s (stickButton n s) := by
  unfold stickButton
  (repeat' split)
  case h_2.isTrue => exact .from_flt rfl (raiseNotice_noted (by simp) _ _)
  all_goals exact .of_flt rfl

theorem sampleButtons_noted (levels : List Bool) (s : State) : Noted [.buttonStuck] s (sampleButtons levels s) := by
  unfold sampleButtons
  exact (Noted.of_flt (by simp)).trans (foldl_noted (fun t n => stickButton_noted n t) _ _)

/-! ### AXL and EFF at a count close -/

/-- The kinds that AXL notes (R163). -/
def speedKinds : List FaultKind := [.axleImplausible, .speedUnknown]

/-- The kinds that EFF notes (R163). -/
def effortKinds : List FaultKind := [.emergencyBrake, .overspeed, .rollback]

theorem axlClose_noted (s : State) : Noted speedKinds s (axlClose s) := by
  have implausible : ∀ l : List Axle, Noted speedKinds s
      (l.foldl (fun t a => raiseRestrict .axleImplausible (.axle a) t) s) := fun l =>
    foldl_noted (fun t a => raiseRestrict_noted (by simp [speedKinds]) _ t) l s
  unfold axlClose
  dsimp only
  split
  · exact (implausible _).trans ((raiseRestrict_noted (by simp [speedKinds]) _ _).trans (.of_flt rfl))
  · exact (implausible _).trans (.of_flt rfl)

theorem setEmergency_noted (seen1 seen2 : Bool) (s : State) : Noted [.emergencyBrake] s (setEmergency seen1 seen2 s) := by
  have raised : ∀ (seen : Bool) (cab : CabEnd) (t : State),
      Noted [.emergencyBrake] t (if seen then raiseNotice .emergencyBrake (.cab cab) t else t) := fun seen cab t => by
    split
    · exact raiseNotice_noted (by simp) _ _
    · exact .of_flt rfl
  exact (raised seen1 .one { s with eff.latch := true }).trans ((raised seen2 .two _).trans (Noted.of_flt (by simp [setEmergency])))

theorem noteOverspeed_noted (s : State) : Noted [.overspeed] s (noteOverspeed s) := by
  unfold noteOverspeed
  split
  · exact .from_flt rfl (raiseNotice_noted (by simp) _ _)
  · exact .of_flt rfl

theorem limitEffort_noted (e : Int) (s : State) : Noted [.overspeed] s (limitEffort e s) :=
  .from_flt (countSettle_flt s) (noteOverspeed_noted _)

theorem reviseHold_noted (s : State) : Noted [.rollback] s (reviseHold s) := by
  unfold reviseHold
  (repeat' split)
  case isFalse.isTrue => exact .from_flt rfl (raiseNotice_noted (by simp) _ _)
  all_goals exact .of_flt rfl

theorem runEffort_noted (seen1 seen2 : Bool) (s : State) : Noted effortKinds s (runEffort seen1 seen2 s) := by
  have limited : ∀ e t, Noted effortKinds t (limitEffort e t) := fun e t =>
    (limitEffort_noted e t).mono (by simp [effortKinds])
  unfold runEffort
  (repeat' split)
  · exact .from_flt (clearEmergency_flt s) (limited _ _)
  · exact .of_flt rfl
  · exact (setEmergency_noted seen1 seen2 s).mono (by simp [effortKinds])
  · exact limited _ s

theorem runClose_noted (seen1 seen2 : Bool) (s : State) : Noted effortKinds s (runClose seen1 seen2 s) := by
  refine Noted.trans ?_ ((reviseHold_noted _).mono (by simp [effortKinds]))
  exact runEffort_noted seen1 seen2 s

theorem haltEmergency_noted (seen1 seen2 : Bool) (s : State) :
    Noted effortKinds s (haltEmergency seen1 seen2 s) := by
  unfold haltEmergency
  (repeat' split)
  case isFalse.isTrue => exact (setEmergency_noted seen1 seen2 s).mono (by simp [effortKinds])
  all_goals exact .of_flt (by simp)

theorem effClose_noted (s : State) : Noted effortKinds s (effClose s) := by
  unfold effClose
  dsimp only
  (repeat' split)
  · exact .of_flt (by simp)
  · exact .from_flt (by simp) (haltEmergency_noted _ _ _)
  · exact .from_flt (by simp) (runClose_noted _ _ _)

/-- The kinds that a count close notes before EFF (R163). -/
def closeKinds : List FaultKind := speedKinds ++ planKinds

theorem closeBeforeEffort_noted (s : State) : Noted closeKinds s (closeBeforeEffort s) := by
  have axles : Noted closeKinds s (axlClose (putConfigInForce s)) :=
    .from_flt rfl ((axlClose_noted _).mono (by simp [closeKinds]))
  have position : Noted closeKinds s (advancePosition (axlClose (putConfigInForce s))) :=
    axles.trans ((advancePosition_noted _).mono (by simp [closeKinds]))
  have switch := examineSwitch_noted (dwellCheck (autClose (advancePosition (axlClose (putConfigInForce s)))))
  refine position.trans (.trans (Noted.from_flt (by simp) (switch.mono (by simp [closeKinds]))) (Noted.of_flt ?_))
  simp [closeBeforeEffort]

theorem countClose_flt (s : State) : (countClose s).flt = (effClose (closeBeforeEffort s)).flt := by
  simp [countClose]

/-- A count close stores NOTICE and RESTRICT records alone (R163). -/
theorem countClose_noted (s : State) : Noted (closeKinds ++ effortKinds) s (countClose s) := by
  rw [Noted, countClose_flt]
  exact ((closeBeforeEffort_noted s).mono (by simp)).trans ((effClose_noted _).mono (by simp))

end Sys2Proof.Machine
end

section
/-! PROOF. PTH without its entries: what the junctions' telegrams, the passages and the answers leave of it (the banks'
states, the standby pointer, the position, the pending switch). -/

namespace Sys2Proof.Machine

/-- PTH with the entries of both banks left out. -/
def State.outline (s : State) : Pth :=
  { s.pth with bankA.slots := [], bankB.slots := [] }

theorem outline_of_pth {s t : State} (h : t.pth = s.pth) : t.outline = s.outline := by
  simp only [State.outline, h]

theorem bankState_of_outline {s t : State} (h : t.outline = s.outline) (b : BankName) :
    (t.bank b).state = (s.bank b).state := by
  cases b
  · exact (congrArg (fun x : Pth => x.bankA.state) h :)
  · exact (congrArg (fun x : Pth => x.bankB.state) h :)

theorem standby_of_outline {s t : State} (h : t.outline = s.outline) : t.pth.standby = s.pth.standby :=
  (congrArg Pth.standby h :)

theorem position_of_outline {s t : State} (h : t.outline = s.outline) : t.pth.p = s.pth.p :=
  (congrArg Pth.p h :)

theorem rem_of_outline {s t : State} (h : t.outline = s.outline) : t.pth.rem = s.pth.rem :=
  (congrArg Pth.rem h :)

theorem pendingSwitch_of_outline {s t : State} (h : t.outline = s.outline) :
    t.pth.pendingSwitch = s.pth.pendingSwitch :=
  (congrArg Pth.pendingSwitch h :)

theorem liveBank_of_outline {s t : State} (h : t.outline = s.outline) : t.liveBank = s.liveBank := by
  simp only [State.liveBank, standby_of_outline h, bankState_of_outline h]

/-- PTH is its outline with the entries of both banks. -/
theorem pth_of_outline {s t : State} (h : t.outline = s.outline) :
    t.pth = { s.pth with
      bankA := { s.pth.bankA with slots := t.pth.bankA.slots }
      bankB := { s.pth.bankB with slots := t.pth.bankB.slots } } := by
  have e : ∀ s : State, s.pth = { s.outline with
      bankA := { s.outline.bankA with slots := s.pth.bankA.slots }
      bankB := { s.outline.bankB with slots := s.pth.bankB.slots } } := fun _ => rfl
  rw [e t, h]
  rfl

/-- A bank replaced by one of the same state leaves the outline. -/
theorem setBank_outline {s : State} {b : BankName} {x : Bank} (h : x.state = (s.bank b).state) :
    (s.setBank b x).outline = s.outline := by
  cases b <;> simp_all [State.setBank, State.outline, State.bank]

@[simp] theorem modEntry_outline (b : BankName) (i : Nat) (f : Entry → Entry) (s : State) :
    (s.modEntry b i f).outline = s.outline := setBank_outline rfl

@[simp] theorem modJunction_outline (b : BankName) (i : Nat) (f : Junction → Junction) (s : State) :
    (s.modJunction b i f).outline = s.outline := modEntry_outline ..

@[simp] theorem modStop_outline (b : BankName) (i : Nat) (f : Stop → Stop) (s : State) :
    (s.modStop b i f).outline = s.outline := modEntry_outline ..

@[simp] theorem afterTaken_outline (t : Telegram) (b : BankName) (i : Nat) (s : State) :
    (afterTaken t b i s).outline = s.outline := by
  unfold afterTaken; split <;> simp

@[simp] theorem offerHeads_outline : ∀ (l : List (BankName × Nat)) (s : State), (offerHeads l s).1.outline = s.outline
  | [], _ => rfl
  | (b, i) :: rest, s => by
    unfold offerHeads
    split
    · rfl
    · split
      · exact offerHeads_outline rest s
      · dsimp only
        split
        · exact offerHeads_outline rest s
        · rw [offerHeads_outline rest]
          exact (afterTaken_outline ..).trans (modJunction_outline ..)
        · exact modJunction_outline ..

@[simp] theorem reofferWith_outline : ∀ (n : Nat) (s : State), (reofferWith n s).outline = s.outline
  | 0, _ => rfl
  | n + 1, s => by
    have offered := offerHeads_outline s.offeringOrder s
    unfold reofferWith
    split
    · next h => rw [reofferWith_outline n, ← offered, h]
    · next h => rw [← offered, h]

@[simp] theorem reoffer_outline (s : State) : (reoffer s).outline = s.outline := reofferWith_outline ..

@[simp] theorem makeOffer_outline (t : Telegram) (b : BankName) (i : Nat) (s : State) :
    (makeOffer t b i s).outline = s.outline := by
  rcases makeOffer_cases t b i s with ⟨x, -, h⟩ | ⟨x, -, h⟩ | ⟨-, h⟩ <;> rw [h]
  · exact afterTaken_outline ..
  · exact reoffer_outline _
  · exact modJunction_outline ..

/-! ### Passages -/

@[simp] theorem passRequestPoint_outline (b : BankName) (i : Nat) (s : State) :
    (passRequestPoint b i s).outline = s.outline := by
  unfold passRequestPoint; (repeat' split) <;> simp

@[simp] theorem passApproach_outline (b : BankName) (i : Nat) (s : State) :
    (passApproach b i s).outline = s.outline := by
  unfold passApproach; (repeat' split) <;> exact outline_of_pth (by simp)

@[simp] theorem raiseNotice_outline (k : FaultKind) (key : FaultKey) (s : State) :
    (raiseNotice k key s).outline = s.outline := rfl

@[simp] theorem passClearance_outline (b : BankName) (i : Nat) (s : State) :
    (passClearance b i s).outline = s.outline := by
  unfold passClearance; dsimp only; (repeat' split) <;> simp

@[simp] theorem passWindowEnd_outline (b : BankName) (i : Nat) (s : State) :
    (passWindowEnd b i s).outline = s.outline := by
  unfold passWindowEnd
  dsimp only
  (repeat' split)
  case h_1 => rfl
  case h_1 => rfl
  all_goals exact modStop_outline ..

/-- A mark fired but the plan end leaves the outline. -/
theorem fireMark_outline {b : BankName} {m : Mark} (h : m ≠ .planEnd) (s : State) :
    (fireMark b s m).outline = s.outline := by
  cases m with
  | planEnd => exact absurd rfl h
  | _ => simp [fireMark]

/-! ### The wayside's answers -/

@[simp] theorem transmissionReport_outline (j : Nat) (n : BitVec 4) (s : State) :
    (transmissionReport j n s).outline = s.outline := by
  unfold transmissionReport; (repeat' split) <;> simp

@[simp] theorem completeTransmission_outline (s : State) : (completeTransmission s).outline = s.outline := by
  unfold completeTransmission
  split
  · dsimp only
    split
    · exact (reoffer_outline _).trans (transmissionReport_outline ..)
    · exact reoffer_outline _
  · rfl

/-! ### Without a live plan -/

theorem liveEntries_of_noPlan {s : State} (h : s.liveBank = none) : s.liveEntries = [] := by
  simp [State.liveEntries, h]

theorem liveJunction_of_noPlan {s : State} (h : s.liveBank = none) (id : Nat) : s.liveJunction id = none := by
  simp [State.liveJunction, h]

theorem fireMarks_of_noPlan {s : State} (h : s.liveBank = none) : fireMarks s = s := by
  simp [fireMarks, h]

end Sys2Proof.Machine
end

section
/-! PROOF. The laws of the fault queue, the brake latch and HALT (R162 to R176) across every command and tick. -/

namespace Sys2Proof.Machine

/-! ### The laws, by block -/

/-- Before CONFIG_DONE there is no live end, no plan, no HALT, and no open STOP but DOOR_OPEN_MOVING (R186, R187). -/
structure State.Bare (s : State) : Prop where
  vacant : s.aut.authority = .vacant
  emptyA : (s.bank .bankA).state = .empty
  emptyB : (s.bank .bankB).state = .empty
  noSwitch : s.pth.pendingSwitch = false
  noHalt : s.flt.halt = false
  opens : ∀ r ∈ s.flt.queue, r.acked = some false → r.kind = .doorOpenMoving

theorem faultLaws_iff (s : State) :
    (s.faultsKept ∧ s.latchKept ∧ s.lockedDown) ↔ s.flt.Lawful ∧ s.lockedDown ∧ (s.ord.run = false → s.Bare) := by
  constructor
  · rintro ⟨⟨bound, kinds, stops, field, lockout⟩, ⟨latched, halted, bare⟩, locked⟩
    refine ⟨⟨bound, kinds, stops, field, lockout, latched, halted⟩, locked, fun before => ?_⟩
    obtain ⟨vacant, emptyA, emptyB, noSwitch, noHalt, opens⟩ := bare before
    exact ⟨vacant, emptyA, emptyB, noSwitch, noHalt, opens⟩
  · rintro ⟨⟨bound, kinds, stops, field, lockout, latched, halted⟩, locked, bare⟩
    refine ⟨⟨bound, kinds, stops, field, lockout⟩, ⟨latched, halted, fun before => ?_⟩, locked⟩
    obtain ⟨vacant, emptyA, emptyB, noSwitch, noHalt, opens⟩ := bare before
    exact ⟨vacant, emptyA, emptyB, noSwitch, noHalt, opens⟩

/-! ### What drives the tram -/

/-- E, the code words, the hold state and the emergency brake (R65). -/
def Eff.drive (x : Eff) : Int × Nat × Nat × Bool × Bool :=
  (x.e, x.c1, x.c2, x.held, x.emergencyBrake)

@[simp] theorem offerSettle_drive (r : SettleReason) (n : Nat) (s : State) :
    (offerSettle r n s).eff.drive = s.eff.drive := by
  unfold offerSettle; split <;> rfl

@[simp] theorem resetLever_drive (s : State) : (resetLever s).eff.drive = s.eff.drive := rfl

@[simp] theorem takeLever_drive (l : Int) (x : Option Selector) (s : State) :
    (takeLever l x s).1.eff.drive = s.eff.drive := by
  unfold takeLever
  (repeat' split)
  case h_1.isTrue => exact offerSettle_drive ..
  all_goals rfl

@[simp] theorem offerAuthority_drive (c : CabEnd) (s : State) : (offerAuthority c s).eff.drive = s.eff.drive := by
  simp only [offerAuthority, forceLetGo_eff, resetLever_drive]

theorem lockedDown_iff (s : State) :
    s.lockedDown ↔ (s.flt.halt = true → s.eff.drive = (0, 0, 0, true, true)) := by
  simp [State.lockedDown, Eff.drive]

theorem lockedDown_of_running {s : State} (h : s.flt.halt = false) : s.lockedDown := fun halted =>
  absurd (h.symm.trans halted) Bool.false_ne_true

/-! ### Steps that keep the fault queue's law and the braking in HALT -/

/-- From `s` to `t` the fault queue's law, the latch's and the braking in HALT are kept. -/
def Guarded (s t : State) : Prop :=
  s.flt.Lawful → s.lockedDown → t.flt.Lawful ∧ t.lockedDown

theorem Guarded.trans {s t u : State} (first : Guarded s t) (second : Guarded t u) : Guarded s u :=
  fun lawful locked => have ⟨lawful, locked⟩ := first lawful locked; second lawful locked

theorem Guarded.of_noted {kinds : List FaultKind} {s t : State} (noted : Noted kinds s t)
    (drive : t.eff.drive = s.eff.drive) : Guarded s t := by
  intro lawful locked
  refine ⟨Flt.Noted.lawful noted lawful, ?_⟩
  rw [lockedDown_iff] at locked ⊢
  rw [Flt.Noted.halt noted, drive]
  exact locked

theorem Guarded.of_same {s t : State} (flt : t.flt = s.flt) (drive : t.eff.drive = s.eff.drive) : Guarded s t :=
  .of_noted (kinds := []) (.of_flt flt) drive

/-- Out of HALT, records noted keep the laws whatever EFF does. -/
theorem Guarded.of_running {kinds : List FaultKind} {s t : State} (halt : s.flt.halt = false)
    (noted : Noted kinds s t) : Guarded s t := fun lawful _ =>
  ⟨Flt.Noted.lawful noted lawful, lockedDown_of_running ((Flt.Noted.halt noted).trans halt)⟩

/-- A STOP fault brakes the tram where it enters HALT, and else leaves HALT and EFF (R65, R166). -/
theorem guarded_raiseStop (k : FaultKind) (kind : k ∈ stopKinds) (other : k ≠ .lockout) (key : FaultKey) (s : State) :
    Guarded s (raiseStop k key s) := by
  intro lawful locked
  refine ⟨raiseStop_lawful kind other key lawful, ?_⟩
  rcases raiseStop_cases k key s with ⟨-, e⟩ | ⟨-, -, e⟩ | ⟨-, -, -, e⟩ | ⟨-, -, -, e⟩ <;> rw [e]
  · exact locked
  · exact locked
  · exact fun _ => ⟨rfl, rfl, rfl, rfl, rfl⟩
  · exact locked

theorem guarded_foundOpen (s : State) : Guarded s (foundOpen s) := by
  unfold foundOpen
  split
  · exact .of_same rfl rfl
  · exact guarded_raiseStop .doorOpenMoving (by decide) (by decide) _ s

theorem guarded_secureTram (bell : Bool) (s : State) : Guarded s (secureTram bell s) := by
  refine .of_same (by simp) ?_
  cases bell
  · exact offerSettle_drive ..
  · exact (congrArg Eff.drive (askSound_eff ..)).trans (offerSettle_drive ..)

theorem guarded_endClosing (s : State) : Guarded s (endClosing s) := by
  unfold endClosing
  split
  · split
    · exact guarded_secureTram true s
    · exact guarded_secureTram false s
    · exact .of_same rfl rfl
    · exact .of_same rfl rfl
  · exact .of_same rfl rfl

theorem guarded_doorReport (locked : Bool) (s : State) : Guarded s (doorReport locked s) := by
  have reported : Guarded s { s with stp.doorsLocked := locked } := .of_same rfl rfl
  unfold doorReport
  dsimp only
  (repeat' split)
  · exact reported.trans (guarded_endClosing _)
  · exact reported.trans (guarded_foundOpen _)
  · exact reported

theorem guarded_rampChange (stowed : Bool) (s : State) : Guarded s (rampChange stowed s) := by
  have read : Guarded s { s with stp.rampStowed := stowed } := .of_same rfl rfl
  unfold rampChange
  dsimp only
  (repeat' split)
  · exact .of_same rfl rfl
  · exact read.trans (guarded_endClosing _)
  · exact read.trans (guarded_foundOpen _)
  · exact read

/-! ### Orders -/

theorem guarded_reportKey (c : CabEnd) (on : Bool) (s : State) : Guarded s (reportKey c on s) := by
  unfold reportKey keyEffect
  (repeat' split)
  case isFalse.isTrue.isFalse.isTrue => exact .of_same (by simp) (offerAuthority_drive ..)
  case isFalse.isTrue.isFalse.isFalse =>
    refine Guarded.trans ?_ (guarded_raiseStop .keyOffMoving (by decide) (by decide) _ _)
    exact .of_same rfl rfl
  all_goals exact .of_same rfl rfl

theorem guarded_handleKey (p : Port) (k : Byte) (s : State) : Guarded s (handleKey p k s).1 := by
  unfold handleKey
  split
  · exact guarded_reportKey _ _ s
  · exact .of_same rfl rfl

theorem guarded_handleLever (l g x : Byte) (s : State) : Guarded s (handleLever l g x s).1 := by
  refine .of_same (by simp [handleLever]) ?_
  simp only [handleLever, reviseVigilance_eff]
  exact takeLever_drive ..

theorem guarded_acknowledge {s : State} (halt : s.flt.halt = false) : Guarded s (acknowledge s) := by
  intro lawful _
  have flt : (acknowledge s).flt = { s.flt with queue := s.flt.queue.map acknowledged, latch := false } := by
    simp [acknowledge]
  exact ⟨flt ▸ lawful.acknowledge halt, lockedDown_of_running (by rw [flt]; exact halt)⟩

theorem guarded_handleAck {s : State} (halt : s.flt.halt = false) : Guarded s (handleAck s).1 := by
  unfold handleAck
  (repeat' split)
  case isFalse.isFalse.isFalse => exact guarded_acknowledge halt
  all_goals exact .of_same rfl rfl

theorem guarded_handleFaultTake (s : State) : Guarded s (handleFaultTake s).1 := by
  unfold handleFaultTake
  split
  · exact .of_same rfl rfl
  · exact fun lawful locked => ⟨lawful.take, locked⟩

/-- The handling of an order whose checks have passed keeps the laws. -/
theorem guarded_handleOrder {p : Port} {tag : Byte} {o : Order} {r : Option Preface} {s : State}
    (passes : s.failedCheck p o r = none) : Guarded s (handleOrder p tag o s).1 := by
  have halted : admittedInHalt o = false → s.flt.halt = false := fun locked =>
    (failedCheck_eq_none_iff.mp passes).2.2.1.resolve_right (by simp [locked])
  have changes := handleOrder_changes p tag o s
  cases o with
  | key k => exact guarded_handleKey p k s
  | claim => exact .of_running (halted rfl) (handleClaim_noted p s)
  | lever l g x => exact guarded_handleLever l g x s
  | ack => exact guarded_handleAck (halted rfl)
  | shift x => exact .of_running (halted rfl) (handleShift_noted x s)
  | planSwitch => exact .of_running (halted rfl) (handlePlanSwitch_noted tag s)
  | doorState x => exact guarded_doorReport (readLocked x) s
  | faultTake => exact guarded_handleFaultTake s
  | forceRelease => exact .of_running (kinds := []) (halted rfl) (.of_flt (congrArg State.flt changes :))
  | cut t n x => exact .of_running (kinds := []) (halted rfl) (.of_flt (congrArg State.flt changes :))
  | _ => exact .of_same (congrArg State.flt changes :) (congrArg (fun t => t.eff.drive) changes :)

theorem failOrder_noted (p : Port) (tag : Byte) (o : Order) (x : Status) (s : State) :
    Noted [.protect] s (failOrder p tag o x s) := by
  unfold failOrder
  dsimp only
  split
  · exact (storeFault_noted (by simp) (by decide) _ _ s).trans (.of_flt rfl)
  · exact .of_flt rfl

theorem guarded_failOrder (p : Port) (tag : Byte) (o : Order) (x : Status) (s : State) :
    Guarded s (failOrder p tag o x s) :=
  .of_noted (failOrder_noted p tag o x s) (by rw [failOrder_changes])

theorem guarded_takeOrder (p : Port) (tag : Byte) (o : Order) (s : State) :
    Guarded s (takeOrder p tag o (handleOrder p tag o) s) := by
  have taken : Guarded s (s.taken p) := .of_same rfl rfl
  rcases takeOrder_cases p tag o (handleOrder p tag o) s with e | ⟨-, x, -, e⟩ | ⟨-, passes, e⟩ <;> rw [e]
  · exact .of_same rfl rfl
  · exact taken.trans (guarded_failOrder _ _ _ _ _)
  · exact taken.trans ((guarded_handleOrder ((taken_failedCheck ..).trans passes)).trans (.of_same rfl rfl))

theorem guarded_takeRestart (p : Port) (tag : Byte) (s : State) : Guarded s (takeRestart p tag s) := by
  have taken : Guarded s (s.taken p) := .of_same rfl rfl
  rcases takeRestart_cases p tag s with e | ⟨-, x, -, e⟩ | ⟨-, passes, e⟩ <;> rw [e]
  · exact .of_same rfl rfl
  · exact taken.trans (guarded_failOrder _ _ _ _ _)
  · have halt : s.flt.halt = false := (failedCheck_eq_none_iff.mp passes).2.2.1.resolve_right (by decide)
    have flt : (handleRestart p tag (s.taken p)).flt = s.flt :=
      (congrArg State.flt (handleRestart_changes p tag (s.taken p) _ rfl) :)
    exact .of_running (kinds := []) halt (.of_flt flt)

/-! ### Events -/

theorem guarded_silenceExpired (s : State) : Guarded s (silenceExpired s) := by
  unfold silenceExpired
  (repeat' split)
  case h_2.isTrue cab _ _ =>
    have stopped : Guarded s { s with aut.silence := .stopped } := .of_same rfl rfl
    have raised : Guarded s (raiseStop .deskSilent (.cab cab) { s with aut.silence := .stopped }) :=
      stopped.trans (guarded_raiseStop .deskSilent (by decide) (by decide) _ _)
    exact raised.trans (.of_same (by simp) (by simp))
  all_goals exact .of_same rfl rfl

theorem guarded_vigilanceExpired (s : State) : Guarded s (vigilanceExpired s) := by
  unfold vigilanceExpired
  split
  · refine Guarded.trans ?_ (guarded_raiseStop .vigilance (by decide) (by decide) _ _)
    exact .of_same rfl rfl
  · exact .of_same rfl rfl

theorem guarded_takeLockLost (junction : Nat) (n : BitVec 4) (s : State) : Guarded s (takeLockLost junction n s) := by
  unfold takeLockLost raiseLockLost
  (repeat' split)
  case h_2.isTrue.isTrue =>
    refine Guarded.trans ?_ (guarded_raiseStop .lockLost (by decide) (by decide) _ _)
    exact .of_same (by simp) (by simp)
  case h_2.isTrue.isFalse =>
    refine Guarded.trans ?_ (.of_noted (raiseRestrict_noted (List.mem_singleton_self _) _ _) rfl)
    exact .of_same (by simp) (by simp)
  all_goals exact .of_same rfl rfl

theorem guarded_receiveLockLost (tram : BitVec 14) (junction : BitVec 12) (n : BitVec 4) (s : State) :
    Guarded s (receiveLockLost tram junction n s) := by
  unfold receiveLockLost
  split
  · exact guarded_takeLockLost _ _ s
  · exact .of_same rfl rfl

theorem receiveRefuse_noted (tram : BitVec 14) (junction : BitVec 12) (n : BitVec 4) (q : BitVec 3) (s : State) :
    Noted [.junctionRefused] s (receiveRefuse tram junction n q s) := by
  unfold receiveRefuse
  (repeat' split)
  case h_2.isTrue => exact (takeRefuse_noted ..).trans (.of_flt (settleCheck_flt _))
  all_goals exact .of_flt rfl

theorem receiveFix_noted (junction : BitVec 12) (s : State) : Noted planKinds s (receiveFix junction s) := by
  unfold receiveFix
  split
  · exact .of_flt rfl
  · exact takeFix_noted ..

theorem guarded_deliver (f : InboundFields) (s : State) : Guarded s (deliver f s) := by
  unfold deliver
  split
  · have changes := receiveAccept_changes f.tram f.junction f.number s _ rfl
    exact .of_same (congrArg State.flt changes :) (congrArg (fun t => t.eff.drive) changes :)
  · have changes := receiveSet_changes f.tram f.junction f.number s _ rfl
    exact .of_same (congrArg State.flt changes :) (congrArg (fun t => t.eff.drive) changes :)
  · have changes := receiveRefuse_changes f.tram f.junction f.number f.qualifier s _ rfl
    exact .of_noted (receiveRefuse_noted ..) (congrArg (fun t => t.eff.drive) changes :)
  · exact guarded_receiveLockLost _ _ _ s
  · have changes := receiveFix_changes f.junction s _ rfl
    exact .of_noted (receiveFix_noted ..) (congrArg (fun t => t.eff.drive) changes :)
  · exact .of_same rfl rfl

/-- What a line change delivers, LOOP's inbound side having moved before it (R116, R118). -/
theorem lineChange_delivers (c : LineChange) (s : State) :
    ∃ x, x.queue = s.loop.queue
      ∧ (lineChange c s = { s with loop := x } ∨ ∃ f, lineChange c s = deliver f { s with loop := x }) := by
  have bit : ∀ bits b, ∃ x, x.queue = s.loop.queue
      ∧ (takeBit bits b s = { s with loop := x } ∨ ∃ f, takeBit bits b s = deliver f { s with loop := x }) := by
    intro bits b
    unfold takeBit examineFrame
    dsimp only
    split
    · exact ⟨(setDecoder .skip b s).loop, rfl, .inl rfl⟩
    · split
      · exact ⟨(setDecoder (.receiving (bits ++ [b])) b s).loop, rfl, .inl rfl⟩
      · split
        · exact ⟨(setDecoder .skip b s).loop, rfl, .inl rfl⟩
        · next f _ => exact ⟨(setDecoder .skip b s).loop, rfl, .inr ⟨f, rfl⟩⟩
  unfold lineChange
  dsimp only
  split
  · exact ⟨(setDecoder .skip _ s).loop, rfl, .inl rfl⟩
  · split
    · exact bit _ _
    · exact bit _ _
    · exact ⟨(setDecoder .skip _ s).loop, rfl, .inl rfl⟩
  · split
    · exact bit _ _
    · exact bit _ _
    · exact ⟨(setDecoder .skip _ s).loop, rfl, .inl rfl⟩

theorem guarded_lineChange (c : LineChange) (s : State) : Guarded s (lineChange c s) := by
  obtain ⟨x, -, e | ⟨f, e⟩⟩ := lineChange_delivers c s <;> rw [e]
  · exact .of_same rfl rfl
  · exact Guarded.trans (t := { s with loop := x }) (.of_same rfl rfl) (guarded_deliver f _)

theorem guarded_exchangeTimerExpiry (junction : Nat) (s : State) :
    Guarded s (settleCheck (exchangeExpired junction s)) :=
  .of_noted ((exchangeExpired_noted junction s).trans (.of_flt (settleCheck_flt _))) (by simp)

/-- A count close in HALT leaves the tram braked (R65). -/
theorem countClose_lockedDown {s : State} (run : s.flt.halt = true → s.ord.run = true) : (countClose s).lockedDown := by
  have before : (closeBeforeEffort s).ord.run = s.ord.run := by
    have settings : (closeBeforeEffort s).ord.settings = (putConfigInForce s).ord.settings := by
      simp [closeBeforeEffort]
    exact (run_of_settings settings).trans rfl
  have halt : (closeBeforeEffort s).flt.halt = s.flt.halt := Flt.Noted.halt (closeBeforeEffort_noted s)
  intro halted
  have halted : s.flt.halt = true := (Flt.Noted.halt (countClose_noted s)).symm.trans halted
  have eff : (countClose s).eff = (effClose (closeBeforeEffort s)).eff := by simp [countClose]
  rw [eff]
  simp [effClose, before, run halted, halt, halted, haltClose, countStandstill]

theorem coldReset_flt (s : State) : (coldReset s).flt = .reset := by
  unfold coldReset
  dsimp only
  split
  · rfl
  · simp [foundOpen, coldValues, State.reset, State.standstill, Axl.reset, effCold, Eff.reset]

/-- An event keeps the laws. -/
theorem guarded_event {c : Instr} {s t : State} (event : isEvent c = true) (bare : s.ord.run = false → s.Bare)
    (h : exec c s = .next t) : Guarded s t := by
  have changes := exec_event_changes event h
  cases c with
  | coldReset =>
    cases Host.Outcome.next.inj h
    exact fun _ _ => ⟨by rw [coldReset_flt]; exact Flt.reset_lawful, lockedDown_of_running (by rw [coldReset_flt]; rfl)⟩
  | countClose =>
    refine fun lawful _ => Host.Outcome.next.inj h ▸ ⟨Flt.Noted.lawful (countClose_noted s) lawful, ?_⟩
    refine countClose_lockedDown fun halted => ?_
    by_contra notRun
    exact Bool.false_ne_true ((bare (by simpa using notRun)).noHalt.symm.trans halted)
  | emergencyInput => exact Host.Outcome.next.inj h ▸ .of_same rfl rfl
  | buttonSample levels => exact Host.Outcome.next.inj h ▸ .of_noted (sampleButtons_noted levels s) (by simp)
  | buttonStuck n => exact Host.Outcome.next.inj h ▸ .of_noted (stickButton_noted n s) (by simp)
  | rampStowedChange x => exact Host.Outcome.next.inj h ▸ guarded_rampChange x s
  | silenceTimerExpiry => exact Host.Outcome.next.inj h ▸ guarded_silenceExpired s
  | vigilanceTimerExpiry => exact Host.Outcome.next.inj h ▸ guarded_vigilanceExpired s
  | exchangeTimerExpiry j => exact Host.Outcome.next.inj h ▸ guarded_exchangeTimerExpiry j s
  | refuse tram j n q =>
    have noted := receiveRefuse_noted tram j n q s
    exact .of_noted (Host.Outcome.next.inj h ▸ noted) (congrArg (fun t => t.eff.drive) changes :)
  | lockLost tram j n => exact Host.Outcome.next.inj h ▸ guarded_receiveLockLost tram j n s
  | fix j =>
    have noted := receiveFix_noted j s
    exact .of_noted (Host.Outcome.next.inj h ▸ noted) (congrArg (fun t => t.eff.drive) changes :)
  | inboundLineChange x => exact Host.Outcome.next.inj h ▸ guarded_lineChange x s
  | _ => exact .of_same (congrArg State.flt changes :) (congrArg (fun t => t.eff.drive) changes :)

end Sys2Proof.Machine
end

section
/-! PROOF. Before CONFIG_DONE nothing is live (R186): the part without a live end, a plan or a HALT stays so, and a step keeps
the laws of FLT. -/

namespace Sys2Proof.Machine

/-! ### The operating state -/

/-- CONFIG_DONE alone enters RUN among the orders, and none leaves it (R186). -/
theorem handleOrder_run (p : Port) (tag : Byte) (o : Order) (s : State) :
    (handleOrder p tag o s).1.ord.run = s.ord.run
      ∨ (o = .configDone ∧ (handleOrder p tag o s).1.ord.run = true) := by
  have changes := handleOrder_changes p tag o s
  cases o with
  | configDone =>
    simp only [handleOrder, handleConfigDone]
    (repeat' split)
    case isFalse.isFalse => exact .inr ⟨trivial, rfl⟩
    all_goals exact .inl rfl
  | _ => exact .inl (congrArg (fun t => t.ord.run) changes :)

@[simp] theorem failOrder_run (p : Port) (tag : Byte) (o : Order) (x : Status) (s : State) :
    (failOrder p tag o x s).ord.run = s.ord.run := by
  rw [failOrder_changes]

theorem takeOrder_run (p : Port) (tag : Byte) (o : Order) (s : State) :
    (takeOrder p tag o (handleOrder p tag o) s).ord.run = s.ord.run
      ∨ (o = .configDone ∧ (takeOrder p tag o (handleOrder p tag o) s).ord.run = true) := by
  rcases takeOrder_cases p tag o (handleOrder p tag o) s with e | ⟨-, x, -, e⟩ | ⟨-, -, e⟩ <;> rw [e]
  · exact .inl rfl
  · exact .inl (failOrder_run ..)
  · exact handleOrder_run p tag o (s.taken p)

/-- The operating state after a command: RUN is entered by a CONFIG_DONE and left by a cold reset (R186). -/
theorem exec_run {c : Instr} {s t : State} (h : exec c s = .next t) :
    t.ord.run = s.ord.run ∨ c = .coldReset ∨ ((∃ p tag, c = .configDone p tag) ∧ t.ord.run = true) := by
  rcases instr_cases c with event | ⟨p, tag, rfl⟩ | ⟨p, q, other, rfl⟩
  · have changes := exec_event_changes event h
    cases c with
    | coldReset => exact .inr (.inl rfl)
    | _ => exact .inl (congrArg (fun t => t.ord.run) changes :)
  · exact .inl (congrArg (fun t => t.ord.run) (takeRestart_changes p tag s t (Host.Outcome.next.inj h).symm) :)
  · rw [exec_takingCommand p q s other] at h
    cases Host.Outcome.next.inj h
    obtain ⟨tag, o⟩ := q
    rcases takeOrder_run p tag o s with same | ⟨rfl, run⟩
    · exact .inl same
    · exact .inr (.inr ⟨⟨p, tag, rfl⟩, run⟩)

/-! ### The part before CONFIG_DONE -/

theorem State.Bare.noLiveEnd {s : State} (h : s.Bare) : s.liveEnd = none := by
  simp [State.liveEnd, h.vacant]

theorem State.Bare.bankEmpty {s : State} (h : s.Bare) (b : BankName) : (s.bank b).state = .empty := by
  cases b
  · exact h.emptyA
  · exact h.emptyB

theorem State.Bare.noPlan {s : State} (h : s.Bare) : s.liveBank = none := by
  simp [State.liveBank, h.bankEmpty]

/-- Records noted leave the part as it was before CONFIG_DONE. -/
theorem State.Bare.of_noted {kinds : List FaultKind} {s t : State} (h : s.Bare)
    (authority : t.aut.authority = s.aut.authority) (outline : t.outline = s.outline) (noted : Noted kinds s t) :
    t.Bare where
  vacant := authority.trans h.vacant
  emptyA := (bankState_of_outline outline .bankA).trans h.emptyA
  emptyB := (bankState_of_outline outline .bankB).trans h.emptyB
  noSwitch := (pendingSwitch_of_outline outline).trans h.noSwitch
  noHalt := (Flt.Noted.halt noted).trans h.noHalt
  opens := fun r mem opened => h.opens r (Flt.Noted.open_mem noted r mem opened) opened

theorem State.Bare.of_same {s t : State} (h : s.Bare) (aut : t.aut = s.aut) (pth : t.pth = s.pth) (flt : t.flt = s.flt) :
    t.Bare :=
  h.of_noted (kinds := []) (by rw [aut]) (outline_of_pth pth) (.of_flt flt)

/-- DOOR_OPEN_MOVING, the one STOP fault before CONFIG_DONE, does not lead to HALT (R166, R187). -/
theorem State.Bare.raiseStop {s : State} (h : s.Bare) (lawful : s.flt.Lawful) :
    (raiseStop .doorOpenMoving .none s).Bare := by
  have merged : (mergeFault .doorOpenMoving s).Bare := by
    refine ⟨h.vacant, h.emptyA, h.emptyB, h.noSwitch, h.noHalt, fun r mem opened => ?_⟩
    obtain ⟨x, old, rfl⟩ := List.mem_map.mp mem
    have same : (if isOpenStop .doorOpenMoving x then { x with count := min 255 (x.count + 1) } else x).acked = x.acked
        ∧ (if isOpenStop .doorOpenMoving x then { x with count := min 255 (x.count + 1) } else x).kind = x.kind := by
      split <;> exact ⟨rfl, rfl⟩
    exact same.2.trans (h.opens x old (same.1.symm.trans opened))
  have absent : s.flt.queue.any (isOpenStop .doorOpenMoving) = false → s.flt.latch = false := fun none => by
    by_contra latch
    obtain ⟨r, mem, opened⟩ := lawful.latched.mp (by simpa using latch)
    have := List.any_eq_false.mp none r mem
    simp [isOpenStop, opened, h.opens r mem opened] at this
  rcases raiseStop_cases .doorOpenMoving .none s with ⟨-, e⟩ | ⟨-, -, e⟩ | ⟨none, latch, -, e⟩ | ⟨none, latch, -, e⟩
  · exact e ▸ merged
  · rw [e]
    refine ⟨h.vacant, h.emptyA, h.emptyB, h.noSwitch, h.noHalt, fun r mem opened => ?_⟩
    rcases mem_store (f := s.flt) mem with old | rfl
    · exact h.opens r old opened
    · rfl
  · exact absurd ((absent none).symm.trans latch) Bool.false_ne_true
  · exact absurd ((absent none).symm.trans latch) Bool.false_ne_true

theorem State.Bare.foundOpen {s : State} (h : s.Bare) (lawful : s.flt.Lawful) : (foundOpen s).Bare := by
  unfold Machine.foundOpen
  split
  · exact h.of_same rfl rfl rfl
  · exact h.raiseStop lawful

theorem State.Bare.rampChange {s : State} (h : s.Bare) (lawful : s.flt.Lawful) (x : Bool) : (rampChange x s).Bare := by
  have read : ({ s with stp.rampStowed := x } : State).Bare := h.of_same rfl rfl rfl
  unfold Machine.rampChange
  dsimp only
  (repeat' split)
  · exact h
  · exact read.of_same (endClosing_aut _) (endClosing_pth _) (endClosing_flt _)
  · exact read.foundOpen lawful
  · exact read

/-! ### Without a plan no telegram finds its junction -/

theorem takeFix_of_noPlan {s : State} (h : s.liveBank = none) (junction : Nat) : takeFix junction s = s := by
  simp [takeFix, h]

theorem State.Bare.deliver {s : State} (h : s.Bare) (f : InboundFields) : (deliver f s).Bare := by
  have nowhere := liveJunction_of_noPlan h.noPlan
  have settled : (settleCheck s).Bare := h.of_same (settleCheck_aut s) (settleCheck_pth s) (settleCheck_flt s)
  unfold Machine.deliver
  split
  · simpa only [receiveAccept, takeAccept, nowhere, ite_self] using h
  · unfold receiveSet
    split
    · simpa only [takeSet, nowhere] using settled
    · exact h
  · unfold receiveRefuse
    (repeat' split)
    case h_2.isTrue => simpa only [takeRefuse, nowhere] using settled
    all_goals exact h
  · simpa only [receiveLockLost, takeLockLost, nowhere, ite_self] using h
  · simpa only [receiveFix, takeFix_of_noPlan h.noPlan, ite_self] using h
  · exact h

theorem State.Bare.lineChange {s : State} (h : s.Bare) (c : LineChange) : (lineChange c s).Bare := by
  obtain ⟨x, -, e | ⟨f, e⟩⟩ := lineChange_delivers c s <;> rw [e]
  · exact h.of_same rfl rfl rfl
  · exact State.Bare.deliver (s := { s with loop := x }) (h.of_same rfl rfl rfl) f

/-! ### The count close -/

theorem State.Bare.advancePosition {s : State} (h : s.Bare) : (advancePosition s).Bare := by
  have moved : ({ s with pth.rem := (advanced s).2, pth.p := (advanced s).1 } : State).Bare :=
    ⟨h.vacant, h.emptyA, h.emptyB, h.noSwitch, h.noHalt, h.opens⟩
  unfold Machine.advancePosition
  dsimp only
  rcases moveTo_cases (advanced s).1 { s with pth.rem := (advanced s).2 } with ⟨-, e⟩ | ⟨-, e⟩ <;> rw [e]
  · rw [fireMarks_of_noPlan]
    · exact moved
    · exact moved.noPlan
  · exact moved

theorem State.Bare.countClose {s : State} (h : s.Bare) : (countClose s).Bare := by
  have axles : (axlClose (putConfigInForce s)).Bare :=
    (h.of_same rfl rfl rfl : (putConfigInForce s).Bare).of_noted (by simp) (outline_of_pth (by simp)) (axlClose_noted _)
  have position := axles.advancePosition
  generalize e : Machine.advancePosition (axlClose (putConfigInForce s)) = u at position
  have noKeyLost : endKeyLost u = u := by simp [endKeyLost, position.noLiveEnd]
  have authority : (dwellCheck (autClose u)).aut.authority = u.aut.authority := by
    rw [dwellCheck_aut, autClose, reviseVigilance_authority, noKeyLost]
  have before : (dwellCheck (autClose u)).Bare :=
    position.of_noted (kinds := []) authority (outline_of_pth (by simp)) (.of_flt (by simp))
  have stays : examineSwitch (dwellCheck (autClose u)) = dwellCheck (autClose u) :=
    (examineSwitch_cases _).resolve_left fun ⟨pending, _⟩ =>
      Bool.false_ne_true (before.noSwitch.symm.trans pending)
  have closed : (closeBeforeEffort s).Bare := by
    unfold closeBeforeEffort
    rw [e, stays]
    exact before.of_same (by simp) (by simp) (by simp)
  exact closed.of_noted (by simp [Machine.countClose]) (outline_of_pth (by simp [Machine.countClose]))
    (by rw [Noted, countClose_flt]; exact effClose_noted _)

theorem coldReset_pth (s : State) : (coldReset s).pth = .reset := by
  unfold coldReset
  dsimp only
  split
  · rfl
  · rw [foundOpen_pth]
    rfl

theorem coldReset_bare (s : State) : (coldReset s).Bare where
  vacant := coldReset_authority s
  emptyA := by simp [State.bank, coldReset_pth, Pth.reset, Bank.reset]
  emptyB := by simp [State.bank, coldReset_pth, Pth.reset, Bank.reset]
  noSwitch := by simp [coldReset_pth, Pth.reset]
  noHalt := by simp [coldReset_flt, Flt.reset]
  opens := by simp [coldReset_flt, Flt.reset]

/-! ### Commands and ticks -/

/-- An event before CONFIG_DONE leaves nothing live. -/
theorem bare_event {c : Instr} {s t : State} (event : isEvent c = true) (h : s.Bare) (lawful : s.flt.Lawful)
    (next : exec c s = .next t) : t.Bare := by
  have changes := exec_event_changes event next
  have nowhere := liveJunction_of_noPlan h.noPlan
  cases c with
  | coldReset => exact Host.Outcome.next.inj next ▸ coldReset_bare s
  | countClose => exact Host.Outcome.next.inj next ▸ h.countClose
  | buttonSample levels =>
    exact Host.Outcome.next.inj next ▸ h.of_noted (by simp) (outline_of_pth (by simp)) (sampleButtons_noted levels s)
  | buttonStuck n => exact Host.Outcome.next.inj next ▸ h.of_noted (by simp) (outline_of_pth (by simp)) (stickButton_noted n s)
  | rampStowedChange x => exact Host.Outcome.next.inj next ▸ h.rampChange lawful x
  | handoverTimerExpiry => exact Host.Outcome.next.inj next ▸ (by simpa only [handoverExpired, h.vacant] using h)
  | silenceTimerExpiry => exact Host.Outcome.next.inj next ▸ (by simpa only [silenceExpired, h.noLiveEnd] using h)
  | vigilanceTimerExpiry =>
    have stays : vigilanceExpired s = s := by simp [vigilanceExpired, h.noLiveEnd]
    exact Host.Outcome.next.inj next ▸ stays.symm ▸ h
  | exchangeTimerExpiry j =>
    have stays : exchangeExpired j s = s := by simp only [exchangeExpired, nowhere]
    exact Host.Outcome.next.inj next ▸ h.of_same (by simp) (by simp [stays]) (by simp [stays])
  | transmissionCompletion =>
    exact Host.Outcome.next.inj next ▸ h.of_noted (kinds := []) (by simp) (completeTransmission_outline s) (.of_flt (by simp))
  | accept tram j n => exact Host.Outcome.next.inj next ▸ h.deliver ⟨4, tram, j, n, 0⟩
  | setLocked tram j n => exact Host.Outcome.next.inj next ▸ h.deliver ⟨5, tram, j, n, 0⟩
  | refuse tram j n q => exact Host.Outcome.next.inj next ▸ h.deliver ⟨6, tram, j, n, q⟩
  | lockLost tram j n => exact Host.Outcome.next.inj next ▸ h.deliver ⟨7, tram, j, n, 0⟩
  | fix j => exact Host.Outcome.next.inj next ▸ h.deliver ⟨8, 0, j, 0, 0⟩
  | inboundLineChange x => exact Host.Outcome.next.inj next ▸ h.lineChange x
  | planClearCompletion => exact Host.Outcome.next.inj next ▸ (by simpa [completeClear, h.bankEmpty] using h)
  | planSealCompletion => exact Host.Outcome.next.inj next ▸ (by simpa only [completeSeal, h.bankEmpty] using h)
  | _ =>
    exact h.of_same (congrArg State.aut changes :) (congrArg State.pth changes :) (congrArg State.flt changes :)

theorem bare_failOrder {s : State} (h : s.Bare) (p : Port) (tag : Byte) (o : Order) (x : Status) :
    (failOrder p tag o x s).Bare :=
  h.of_noted (by simp) (outline_of_pth (by rw [failOrder_changes])) (failOrder_noted p tag o x s)

/-- The handling of an order admitted in UNCONFIGURED leaves nothing live (R186). -/
theorem bare_handleOrder {p : Port} {tag : Byte} {o : Order} {r : Option Preface} {s : State} (h : s.Bare)
    (run : s.ord.run = false) (passes : s.failedCheck p o r = none) : (handleOrder p tag o s).1.Bare := by
  have admitted : admittedUnconfigured o = true :=
    (failedCheck_eq_none_iff.mp passes).2.1.resolve_left (by simp [run])
  have changes := handleOrder_changes p tag o s
  cases o with
  | key k =>
    simp only [handleOrder, handleKey]
    split
    · rw [reportKey_noLiveEnd _ _ h.noLiveEnd]
      exact h.of_noted (kinds := []) rfl rfl (.of_flt rfl)
    · exact h
  | config q v => exact h.of_same (congrArg State.aut changes :) (congrArg State.pth changes :) (congrArg State.flt changes :)
  | configDone => exact h.of_same (congrArg State.aut changes :) (congrArg State.pth changes :) (congrArg State.flt changes :)
  | ident => exact h
  | readFault n => exact h.of_same (congrArg State.aut changes :) (congrArg State.pth changes :) (congrArg State.flt changes :)
  | _ => cases admitted

theorem bare_takeOrder {s : State} (h : s.Bare) (run : s.ord.run = false) (p : Port) (tag : Byte) (o : Order) :
    (takeOrder p tag o (handleOrder p tag o) s).Bare := by
  have taken : (s.taken p).Bare := h.of_same rfl rfl rfl
  rcases takeOrder_cases p tag o (handleOrder p tag o) s with e | ⟨-, x, -, e⟩ | ⟨-, passes, e⟩ <;> rw [e]
  · exact h
  · exact bare_failOrder taken p tag o x
  · exact (bare_handleOrder taken run ((taken_failedCheck ..).trans passes)).of_same rfl rfl rfl

theorem bare_takeRestart {s : State} (h : s.Bare) (run : s.ord.run = false) (p : Port) (tag : Byte) :
    (takeRestart p tag s).Bare := by
  have taken : (s.taken p).Bare := h.of_same rfl rfl rfl
  rcases takeRestart_cases p tag s with e | ⟨-, x, -, e⟩ | ⟨-, passes, e⟩ <;> rw [e]
  · exact h
  · exact bare_failOrder taken p tag .restart x
  · have running := (failedCheck_eq_none_iff.mp passes).2.1.resolve_right (by decide)
    exact absurd (run.symm.trans running) Bool.false_ne_true

theorem exec_bare {c : Instr} {s t : State} (bare : s.ord.run = false → s.Bare) (lawful : s.flt.Lawful)
    (h : exec c s = .next t) (run : t.ord.run = false) : t.Bare := by
  rcases exec_run h with same | rfl | ⟨-, running⟩
  · have before : s.ord.run = false := same.symm.trans run
    rcases instr_cases c with event | ⟨p, tag, rfl⟩ | ⟨p, q, other, rfl⟩
    · exact bare_event event (bare before) lawful h
    · exact Host.Outcome.next.inj h ▸ bare_takeRestart (bare before) before p tag
    · rw [exec_takingCommand p q s other] at h
      exact Host.Outcome.next.inj h ▸ bare_takeOrder (bare before) before p q.tag q.order
  · exact Host.Outcome.next.inj h ▸ coldReset_bare s
  · exact absurd (run.symm.trans running) Bool.false_ne_true

theorem exec_guarded {c : Instr} {s t : State} (bare : s.ord.run = false → s.Bare) (h : exec c s = .next t) :
    Guarded s t := by
  rcases instr_cases c with event | ⟨p, tag, rfl⟩ | ⟨p, q, other, rfl⟩
  · exact guarded_event event bare h
  · exact Host.Outcome.next.inj h ▸ guarded_takeRestart p tag s
  · rw [exec_takingCommand p q s other] at h
    exact Host.Outcome.next.inj h ▸ guarded_takeOrder p q.tag q.order s

theorem tick_flt (s : State) : (tick s).flt = s.flt :=
  (congrArg State.flt (advanceExchanges_changes s) :)

theorem tick_eff (s : State) : (tick s).eff = s.eff :=
  (congrArg State.eff (advanceExchanges_changes s) :)

theorem tick_run (s : State) : (tick s).ord.run = s.ord.run :=
  (congrArg (fun t => t.ord.run) (advanceExchanges_changes s) :)

theorem advanceExchanges_outline (s : State) : (advanceExchanges s).outline = s.outline := by
  unfold advanceExchanges
  split
  · rfl
  · exact setBank_outline rfl

theorem tick_bare {s : State} (h : s.Bare) : (tick s).Bare := by
  have outline := advanceExchanges_outline s
  refine ⟨?_, (bankState_of_outline outline .bankA).trans h.emptyA, (bankState_of_outline outline .bankB).trans h.emptyB,
    (pendingSwitch_of_outline outline).trans h.noSwitch, ?_, ?_⟩
  · rw [tick_aut]; exact h.vacant
  · rw [tick_flt]; exact h.noHalt
  · rw [tick_flt]; exact h.opens

/-- Settles O56: by FLT's law, the braking in HALT and what holds before CONFIG_DONE, each kept by commands and ticks. -/
theorem everyStepKeepsTheFaultLaws : Obligations.EveryStepKeepsTheFaultLaws := by
  unfold Obligations.EveryStepKeepsTheFaultLaws
  intro s t faults latch locked stepped
  rw [faultLaws_iff]
  obtain ⟨lawful, locked, bare⟩ := (faultLaws_iff s).mp ⟨faults, latch, locked⟩
  rcases step_cases stepped with rfl | ⟨c, rest, h⟩
  · refine ⟨tick_flt s ▸ lawful, ?_, fun run => tick_bare (bare ((tick_run s).symm.trans run))⟩
    rw [lockedDown_iff, tick_flt, tick_eff, ← lockedDown_iff]
    exact locked
  · have bare' : ({ s with pending := rest } : State).ord.run = false → ({ s with pending := rest } : State).Bare :=
      fun run => (bare run).of_same rfl rfl rfl
    have ⟨kept, braked⟩ := exec_guarded bare' h lawful locked
    exact ⟨kept, braked, exec_bare bare' lawful h⟩

end Sys2Proof.Machine
end

section
/-! PROOF. The configuration (R192 to R194): what CONFIG and the count close store, the ranges, and TRAM_ID in RUN. -/

namespace Sys2Proof.Machine

/-! ### The tables of parameters -/

theorem table_get_set {α : Type} (t : Table α) (q r : Param) (x : α) :
    (t.set q x).get r = if r = q then x else t.get r := by
  split
  · next h => rw [h, get_set_table]
  · next h => exact get_set_table_ne t x h

@[simp] theorem table_get_overlay (t : Table Int) (w : Table (Option Int)) (q : Param) :
    (t.overlay w).get q = (w.get q).getD (t.get q) := by
  cases q <;> rfl

@[simp] theorem noneWaiting_get (q : Param) : Table.noneWaiting.get q = none := by
  cases q <;> rfl

/-! ### What CONFIG stores -/

theorem clampParam_inRange (q : Param) (v : Int) : inRange q (clampParam q v) := by
  have ordered : (paramRange q).1 ≤ (paramRange q).2 := by cases q <;> decide
  simp only [inRange, clampParam, clampInt]
  omega

/-- CONFIG leaves the tables, or stores one clamped value: as pending in RUN, where it is no TRAM_ID 0, and else in force
(R192). -/
theorem handleConfig_cases (parameter : Byte) (value : BitVec 16) (s : State) :
    (handleConfig parameter value s).1 = s
      ∨ ∃ q, (s.ord.run = true ∧ (q = .tramId → clampParam q (signed16 value) ≠ 0)
            ∧ (handleConfig parameter value s).1
              = { s with ord.waiting := s.ord.waiting.set q (some (clampParam q (signed16 value))) })
          ∨ (s.ord.run = false
            ∧ (handleConfig parameter value s).1
              = { s with ord.config := s.ord.config.set q (clampParam q (signed16 value)) }) := by
  unfold handleConfig
  split
  · exact .inl rfl
  · next q _ =>
    split
    · exact .inl rfl
    · dsimp only
      split
      · exact .inl rfl
      · next kept =>
        split
        · next run => exact .inr ⟨q, .inl ⟨run, fun tram zero => kept ⟨tram, zero, run⟩, rfl⟩⟩
        · next run => exact .inr ⟨q, .inr ⟨by simpa using run, rfl⟩⟩

/-! ### What each command leaves of the tables -/

/-- From `s` to `t` the configuration in force and the pending values stay. -/
def SameConfig (s t : State) : Prop :=
  t.ord.config = s.ord.config ∧ t.ord.waiting = s.ord.waiting

theorem SameConfig.of_settings {s t : State} (h : t.ord.settings = s.ord.settings) : SameConfig s t :=
  ⟨(congrArg Ord.config h :), (congrArg Ord.waiting h :)⟩

theorem closeBeforeEffort_sameConfig (s : State) : SameConfig (putConfigInForce s) (closeBeforeEffort s) :=
  .of_settings (by simp [closeBeforeEffort])

theorem pictureClose_sameConfig (s : State) : SameConfig s (pictureClose s) := by
  unfold pictureClose sendPicture
  split <;> exact ⟨rfl, rfl⟩

/-- A count close brings every pending value into force (R193). -/
theorem countClose_sameConfig (s : State) : SameConfig (putConfigInForce s) (countClose s) := by
  obtain ⟨config, waiting⟩ := closeBeforeEffort_sameConfig s
  obtain ⟨config', waiting'⟩ := pictureClose_sameConfig (updateSand (effClose (closeBeforeEffort s)))
  constructor
  · rw [← config, countClose, config']
    simp
  · rw [← waiting, countClose, waiting']
    simp

theorem coldReset_ord (s : State) : (coldReset s).ord = .reset := by
  unfold coldReset
  dsimp only
  split
  · rfl
  · rw [foundOpen_ord]
    rfl

theorem sameConfig_failOrder (p : Port) (tag : Byte) (o : Order) (x : Status) (s : State) :
    SameConfig s (failOrder p tag o x s) := by
  rw [failOrder_changes]
  exact ⟨rfl, rfl⟩

/-- A command leaves the tables, or it is a cold reset, a count close, or a CONFIG taken. -/
theorem exec_config {c : Instr} {s t : State} (h : exec c s = .next t) :
    SameConfig s t ∨ (c = .coldReset ∧ t = coldReset s) ∨ (c = .countClose ∧ t = countClose s)
      ∨ ∃ p q v, t.ord.run = s.ord.run ∧ SameConfig (handleConfig q v (s.taken p)).1 t := by
  rcases instr_cases c with event | ⟨p, tag, rfl⟩ | ⟨p, q, other, rfl⟩
  · have changes := exec_event_changes event h
    cases c with
    | coldReset => exact .inr (.inl ⟨rfl, (Host.Outcome.next.inj h).symm⟩)
    | countClose => exact .inr (.inr (.inl ⟨rfl, (Host.Outcome.next.inj h).symm⟩))
    | _ => exact .inl ⟨(congrArg (fun t => t.ord.config) changes :), (congrArg (fun t => t.ord.waiting) changes :)⟩
  · have changes := takeRestart_changes p tag s t (Host.Outcome.next.inj h).symm
    exact .inl ⟨(congrArg (fun t => t.ord.config) changes :), (congrArg (fun t => t.ord.waiting) changes :)⟩
  · rw [exec_takingCommand p q s other] at h
    obtain ⟨tag, o⟩ := q
    cases Host.Outcome.next.inj h
    rcases takeOrder_cases p tag o (handleOrder p tag o) s with e | ⟨-, x, -, e⟩ | ⟨-, -, e⟩ <;> dsimp only <;> rw [e]
    · exact .inl ⟨rfl, rfl⟩
    · exact .inl (sameConfig_failOrder p tag o x (s.taken p))
    · have changes := handleOrder_changes p tag o (s.taken p)
      cases o with
      | config q v =>
        exact .inr (.inr (.inr ⟨p, q, v, (congrArg (fun t => t.ord.run) changes :), rfl, rfl⟩))
      | _ => exact .inl ⟨(congrArg (fun t => t.ord.config) changes :), (congrArg (fun t => t.ord.waiting) changes :)⟩

theorem tick_sameConfig (s : State) : SameConfig s (tick s) :=
  ⟨(congrArg (fun t => t.ord.config) (advanceExchanges_changes s) :),
    (congrArg (fun t => t.ord.waiting) (advanceExchanges_changes s) :)⟩

/-! ### The ranges (R192) -/

theorem SameConfig.inRange {s t : State} (same : SameConfig s t) (h : s.configInRange) : t.configInRange := by
  simpa only [State.configInRange, same.1, same.2] using h

theorem reset_inRange (q : Param) : inRange q (Table.reset.get q) := by
  cases q <;> decide

theorem coldReset_inRange (s : State) : (coldReset s).configInRange := by
  intro q
  rw [coldReset_ord]
  exact ⟨reset_inRange q, by simp [Ord.reset]⟩

theorem putConfigInForce_inRange {s : State} (h : s.configInRange) : (putConfigInForce s).configInRange := by
  intro q
  obtain ⟨held, pending⟩ := h q
  have forced : (putConfigInForce s).ord.config.get q = (s.ord.waiting.get q).getD (s.ord.config.get q) :=
    table_get_overlay ..
  refine ⟨?_, by simp [putConfigInForce]⟩
  rw [forced]
  cases w : s.ord.waiting.get q with
  | none => exact held
  | some v => exact pending v w

theorem handleConfig_inRange (n : Byte) (v : BitVec 16) {s : State} (h : s.configInRange) :
    (handleConfig n v s).1.configInRange := by
  have clamped : ∀ q, inRange q (clampParam q (signed16 v)) := fun q => clampParam_inRange q _
  rcases handleConfig_cases n v s with e | ⟨q, ⟨-, -, e⟩ | ⟨-, e⟩⟩ <;> rw [e]
  · exact h
  · intro r
    refine ⟨(h r).1, fun x mem => ?_⟩
    rw [Option.mem_def, table_get_set] at mem
    split at mem
    · next same => cases mem; exact same ▸ clamped q
    · exact (h r).2 x mem
  · intro r
    refine ⟨?_, (h r).2⟩
    rw [table_get_set]
    split
    · next same => exact same ▸ clamped q
    · exact (h r).1

theorem exec_inRange {c : Instr} {s t : State} (h : s.configInRange) (next : exec c s = .next t) : t.configInRange := by
  rcases exec_config next with same | ⟨-, rfl⟩ | ⟨-, rfl⟩ | ⟨p, q, v, -, same⟩
  · exact same.inRange h
  · exact coldReset_inRange s
  · exact (countClose_sameConfig s).inRange (putConfigInForce_inRange h)
  · exact same.inRange (handleConfig_inRange q v (s := s.taken p) h)

/-! ### CONFIG_DONE and TRAM_ID (R194) -/

/-- In RUN TRAM_ID is not 0, and no pending TRAM_ID is (R192, R194). -/
def State.tramNamed (s : State) : Prop :=
  (s.ord.run = true → s.cfg .tramId ≠ 0) ∧ s.ord.waiting.get .tramId ≠ some 0

theorem tramNamed_of_same {s t : State} (run : t.ord.run = s.ord.run) (same : SameConfig s t) (h : s.tramNamed) :
    t.tramNamed := by
  simpa only [State.tramNamed, State.cfg, run, same.1, same.2] using h

theorem putConfigInForce_tramNamed {s : State} (h : s.tramNamed) : (putConfigInForce s).tramNamed := by
  obtain ⟨named, pending⟩ := h
  refine ⟨fun run => ?_, by simp [putConfigInForce]⟩
  have forced : (putConfigInForce s).cfg .tramId = (s.ord.waiting.get .tramId).getD (s.cfg .tramId) :=
    table_get_overlay ..
  rw [forced]
  cases w : s.ord.waiting.get .tramId with
  | none => exact named run
  | some v =>
    rintro rfl
    exact pending w

theorem handleConfig_tramNamed (n : Byte) (v : BitVec 16) {s : State} (h : s.tramNamed) :
    (handleConfig n v s).1.tramNamed := by
  obtain ⟨named, pending⟩ := h
  rcases handleConfig_cases n v s with e | ⟨q, ⟨-, notZero, e⟩ | ⟨run, e⟩⟩ <;> rw [e]
  · exact ⟨named, pending⟩
  · refine ⟨named, ?_⟩
    rw [table_get_set]
    split
    · next same => exact fun zero => notZero same.symm (Option.some.inj zero)
    · exact pending
  · exact ⟨fun running => absurd (run.symm.trans running) Bool.false_ne_true, pending⟩

theorem handleConfigDone_tramNamed {s : State} (h : s.tramNamed) : (handleConfigDone s).1.tramNamed := by
  obtain ⟨named, pending⟩ := h
  unfold handleConfigDone
  (repeat' split)
  case isFalse.isFalse notZero => exact ⟨fun _ => notZero, pending⟩
  all_goals exact ⟨named, pending⟩

theorem exec_tramNamed {c : Instr} {s t : State} (h : s.tramNamed) (next : exec c s = .next t) : t.tramNamed := by
  by_cases done : ∃ p tag, c = .configDone p tag
  · obtain ⟨p, tag, rfl⟩ := done
    have taken : (s.taken p).tramNamed := h
    cases Host.Outcome.next.inj next
    rcases takeOrder_cases p tag .configDone handleConfigDone s with e | ⟨-, x, -, e⟩ | ⟨-, -, e⟩ <;> rw [e]
    · exact h
    · exact tramNamed_of_same (failOrder_run ..) (sameConfig_failOrder ..) taken
    · exact tramNamed_of_same rfl ⟨rfl, rfl⟩ (handleConfigDone_tramNamed taken)
  · have run : t.ord.run = s.ord.run ∨ c = .coldReset :=
      (exec_run next).imp_right fun r => r.resolve_right fun d => done d.1
    have reset : (coldReset s).tramNamed := by
      simp [State.tramNamed, coldReset_ord, Ord.reset]
    rcases exec_config next with same | ⟨-, rfl⟩ | ⟨rfl, rfl⟩ | ⟨p, q, v, run, same⟩
    · rcases run with run | rfl
      · exact tramNamed_of_same run same h
      · exact Host.Outcome.next.inj next ▸ reset
    · exact reset
    · exact tramNamed_of_same (s := putConfigInForce s) (countClose_run s) (countClose_sameConfig s) (putConfigInForce_tramNamed h)
    · have kept := handleConfig_tramNamed q v (s := s.taken p) h
      refine tramNamed_of_same (run.trans ?_) same kept
      rcases handleConfig_cases q v (s.taken p) with e | ⟨_, ⟨-, -, e⟩ | ⟨-, e⟩⟩ <;> rw [e] <;> rfl

/-- Settles O33: CONFIG_DONE's rows, and the TRAM_ID of RUN kept by every command and tick. -/
theorem configDoneEntersRun : Obligations.ConfigDoneEntersRun := by
  unfold Obligations.ConfigDoneEntersRun
  constructor
  · intro tag s ready
    refine congrArg Host.Outcome.next ((takeOrder_ready ready).trans ?_)
    have named : (s.taken .vehicle).cfg .tramId = s.cfg .tramId := rfl
    simp only [handleConfigDone, taken_run, named]
    (repeat' split) <;> rfl
  · intro s t named pending stepped
    rcases step_cases stepped with rfl | ⟨c, rest, h⟩
    · exact tramNamed_of_same (tick_run s) (tick_sameConfig s) ⟨named, pending⟩
    · exact exec_tramNamed (s := { s with pending := rest }) ⟨named, pending⟩ h

end Sys2Proof.Machine
end

section
/-! PROOF. Whole-machine rules: the front command and the tick, the cold reset (R200), the modes that few commands change
(R2, R52, R176, R186), and the dwell's hold on E (R71, R143). -/

namespace Sys2Proof.Machine

/-- Settles O1: by the definition of a step. -/
theorem stepTakesTheFrontCommand : Obligations.StepTakesTheFrontCommand := by
  unfold Obligations.StepTakesTheFrontCommand
  intro c rest s waiting
  rw [step, waiting]

/-- Settles O2: a tick moves timers and counts alone, and queues what has become due. -/
theorem anEmptyQueueLetsOneTickPass : Obligations.AnEmptyQueueLetsOneTickPass := by
  unfold Obligations.AnEmptyQueueLetsOneTickPass
  intro s empty
  have banks := advanceExchanges_changes s
  have pending : (advance s).pending = [] := (congrArg State.pending banks :).trans empty
  have noneWaiting : ({ tick s with pending := [] } : State) = advance s := by
    simp only [tick, pending, List.nil_append]
    rw [← pending]
  refine ⟨tick s, by rw [step, empty], ?_, ?_, tick_eff s, (congrArg State.jct banks :), tick_flt s,
    (congrArg (fun t => t.pth.p) banks :), (congrArg (fun t => t.axl.record) banks :),
    (congrArg (fun t => t.aut.authority) banks :), (congrArg (fun t => t.aut.keys) banks :),
    (congrArg (fun t => t.ord.config) banks :), (congrArg (fun t => t.loop.queue) banks :),
    (congrArg (fun t => t.stp.request) banks :), (congrArg (fun t => t.stp.dwell) banks :)⟩
  · exact congrArg (· + 1) (congrArg State.clock banks :)
  · rw [noneWaiting]
    simp only [tick, pending, List.nil_append]

/-! ### Cold reset -/

/-- The cold reset in one equation: the reset values, and UNSECURED where the ramp is not stowed (R140, R200). -/
theorem coldReset_eq (s : State) : coldReset s
    = { coldValues s with stp.dwell := if s.stp.rampStowed = true then .running else .unsecured } := by
  have open_ : foundOpen (coldValues s) = { coldValues s with stp.dwell := .unsecured } := if_pos ⟨rfl, Int.le_refl 0⟩
  cases stowed : s.stp.rampStowed with
  | true => exact if_pos stowed
  | false =>
    have notStowed : ¬ (coldValues s).stp.rampStowed = true := fun h => Bool.false_ne_true (stowed.symm.trans h)
    exact (if_neg notStowed).trans open_

/-- Settles O3: each block's reset values, read from the one equation of the cold reset. -/
theorem coldResetSetsEveryBlock : Obligations.ColdResetSetsEveryBlock := by
  unfold Obligations.ColdResetSetsEveryBlock
  intro s
  refine ⟨coldReset s, rfl, ?_⟩
  rw [coldReset_eq]
  have banks : ∀ b, (({ coldValues s with
      stp.dwell := if s.stp.rampStowed = true then .running else .unsecured } : State).bank b) = .reset := fun b => by
    cases b <;> rfl
  refine ⟨⟨rfl, rfl, rfl, rfl, rfl, rfl, rfl, rfl⟩, ⟨fun a => by cases a <;> rfl, fun b => by cases b <;> rfl, rfl, rfl, rfl⟩,
    ⟨fun b => by rw [banks]; exact ⟨rfl, rfl⟩, rfl, rfl, rfl, rfl, rfl, rfl⟩, ?_, fun p => by cases p <;> rfl,
    ⟨rfl, rfl, rfl, rfl, rfl⟩, ⟨?_, rfl, rfl, rfl, rfl, rfl, rfl⟩, ⟨fun c => by cases c <;> rfl, rfl⟩, ⟨rfl, rfl, rfl, rfl⟩,
    ⟨rfl, rfl, fun q => by cases q <;> rfl, fun p => by cases p <;> exact ⟨rfl, rfl, rfl, rfl, rfl⟩⟩, rfl⟩
  · exact ⟨rfl, rfl, rfl, rfl, rfl, rfl, rfl, rfl, rfl, rfl, rfl, rfl, rfl, rfl, fun c => by cases c <;> exact ⟨rfl, rfl⟩,
      rfl, rfl, rfl⟩
  · exact fun d mem => List.eq_of_mem_replicate mem

theorem reset_queuesBounded : State.reset.queuesBounded := by
  have ports : ∀ p, State.reset.port p = .reset := fun p => by cases p <;> rfl
  have lists : ∀ p, State.reset.jct.lists.get p = ⟨[], false⟩ := fun p => by cases p <;> rfl
  have channels : ∀ c, State.reset.snd.channel c = .reset := fun c => by cases c <;> rfl
  have loop : State.reset.loop.queue = [] := rfl
  simp [State.queuesBounded, ports, lists, channels, loop, PortContext.reset, ChannelRecord.reset]

theorem reset_faultsKept : State.reset.faultsKept := by
  have queue : State.reset.flt.queue = [] := rfl
  simp [State.faultsKept, queue]

theorem reset_latchKept : State.reset.latchKept := by
  simp [State.latchKept, State.reset, Flt.reset, Ord.reset, Aut.reset, State.bank, Pth.reset, Bank.reset]

theorem reset_authorityKept : State.reset.authorityKept := by
  simp [State.authorityKept, State.liveEnd, State.reset, Aut.reset]

/-- Settles O59: every law holds of the reset values. -/
theorem resetMeetsEveryLaw : Obligations.ResetMeetsEveryLaw := by
  unfold Obligations.ResetMeetsEveryLaw
  exact ⟨reset_queuesBounded, reset_faultsKept, reset_latchKept, lockedDown_of_running rfl,
    fun q => ⟨reset_inRange q, by simp [State.reset, Ord.reset]⟩, fun stopped => absurd rfl stopped,
    reset_authorityKept, fun run => absurd run Bool.false_ne_true, by simp [State.reset, Ord.reset],
    fun p => by cases p <;> rfl⟩

/-! ### The speed record and HALT -/

/-- An order leaves the speed record (R52). -/
theorem handleOrder_record (p : Port) (tag : Byte) (o : Order) (s : State) :
    (handleOrder p tag o s).1.axl.record = s.axl.record := by
  have changes := handleOrder_changes p tag o s
  cases o with
  | cut t n x =>
    have cut : ∀ i b, (updateSand (cutBogie i b s)).axl.record = s.axl.record := fun i b => by
      cases i <;> cases b <;> rfl
    simp only [handleOrder, handleCut]
    split
    · rfl
    · exact cut _ _
    · rfl
  | _ => exact (congrArg (fun t => t.axl.record) changes :)

theorem exec_record {c : Instr} {s t : State} (h : exec c s = .next t) :
    t.axl.record = s.axl.record ∨ c = .countClose ∨ c = .coldReset := by
  rcases instr_cases c with event | ⟨p, tag, rfl⟩ | ⟨p, q, other, rfl⟩
  · have changes := exec_event_changes event h
    cases c with
    | coldReset => exact .inr (.inr rfl)
    | countClose => exact .inr (.inl rfl)
    | axlePulse a active => cases h; exact .inl rfl
    | _ => exact .inl (congrArg (fun t => t.axl.record) changes :)
  · exact .inl (congrArg (fun t => t.axl.record) (takeRestart_changes p tag s t (Host.Outcome.next.inj h).symm) :)
  · rw [exec_takingCommand p q s other] at h
    obtain ⟨tag, o⟩ := q
    cases Host.Outcome.next.inj h
    rcases takeOrder_cases p tag o (handleOrder p tag o) s with e | ⟨-, x, -, e⟩ | ⟨-, -, e⟩ <;> dsimp only <;> rw [e]
    · exact .inl rfl
    · rw [failOrder_changes]
      exact .inl rfl
    · exact .inl (handleOrder_record p tag o (s.taken p))

/-- From `s` to `t` HALT, once entered, stays (R176). -/
def HaltStays (s t : State) : Prop :=
  s.flt.halt = true → t.flt.halt = true

theorem HaltStays.of_flt {s t : State} (h : t.flt = s.flt) : HaltStays s t := fun halt => h ▸ halt

theorem HaltStays.of_noted {kinds : List FaultKind} {s t : State} (h : Noted kinds s t) : HaltStays s t :=
  fun halt => (Flt.Noted.halt h).trans halt

theorem raiseStop_haltStays (k : FaultKind) (key : FaultKey) (s : State) : HaltStays s (raiseStop k key s) := by
  intro halt
  rcases raiseStop_cases k key s with ⟨-, e⟩ | ⟨-, -, e⟩ | ⟨-, -, -, e⟩ | ⟨-, -, -, e⟩ <;> rw [e]
  · exact halt
  · exact halt
  · rfl
  · exact halt

theorem foundOpen_haltStays (s : State) : HaltStays s (foundOpen s) := by
  unfold foundOpen
  split
  · exact .of_flt rfl
  · exact raiseStop_haltStays _ _ s

theorem doorReport_haltStays (locked : Bool) (s : State) : HaltStays s (doorReport locked s) := by
  unfold doorReport
  dsimp only
  (repeat' split)
  · exact .of_flt (endClosing_flt _)
  · exact fun halt => foundOpen_haltStays _ halt
  · exact .of_flt rfl

theorem rampChange_haltStays (stowed : Bool) (s : State) : HaltStays s (rampChange stowed s) := by
  unfold rampChange
  dsimp only
  (repeat' split)
  · exact .of_flt rfl
  · exact .of_flt (endClosing_flt _)
  · exact fun halt => foundOpen_haltStays _ halt
  · exact .of_flt rfl

theorem handleKey_haltStays (p : Port) (k : Byte) (s : State) : HaltStays s (handleKey p k s).1 := by
  unfold handleKey reportKey keyEffect
  (repeat' split)
  case h_1.isFalse.isTrue.isFalse.isTrue => exact .of_flt (offerAuthority_flt ..)
  case h_1.isFalse.isTrue.isFalse.isFalse => exact fun halt => raiseStop_haltStays .keyOffMoving _ _ halt
  all_goals exact .of_flt rfl

theorem handleOrder_haltStays (p : Port) (tag : Byte) (o : Order) (s : State) :
    HaltStays s (handleOrder p tag o s).1 := by
  have changes := handleOrder_changes p tag o s
  cases o with
  | key k => exact handleKey_haltStays p k s
  | claim => exact .of_noted (handleClaim_noted p s)
  | ack =>
    simp only [handleOrder, handleAck]
    (repeat' split)
    case isFalse.isFalse.isFalse => exact fun halt => by simpa [acknowledge] using halt
    all_goals exact .of_flt rfl
  | shift x => exact .of_noted (handleShift_noted x s)
  | planSwitch => exact .of_noted (handlePlanSwitch_noted tag s)
  | doorState x => exact doorReport_haltStays _ s
  | faultTake =>
    simp only [handleOrder, handleFaultTake]
    split <;> exact id
  | _ => exact .of_flt (congrArg State.flt changes :)

theorem takeLockLost_haltStays (junction : Nat) (n : BitVec 4) (s : State) :
    HaltStays s (takeLockLost junction n s) := by
  have raised : ∀ e t, HaltStays t (raiseLockLost e t) := fun e t => by
    unfold raiseLockLost
    split
    · exact raiseStop_haltStays _ _ t
    · exact .of_noted (raiseRestrict_noted (List.mem_singleton_self _) _ t)
  unfold takeLockLost
  (repeat' split)
  case h_2.isTrue => exact fun halt => raised _ _ (by simpa using halt)
  all_goals exact .of_flt rfl

theorem deliver_haltStays (f : InboundFields) (s : State) : HaltStays s (deliver f s) := by
  unfold deliver
  split
  · exact .of_flt (congrArg State.flt (receiveAccept_changes f.tram f.junction f.number s _ rfl) :)
  · exact .of_flt (congrArg State.flt (receiveSet_changes f.tram f.junction f.number s _ rfl) :)
  · exact .of_noted (receiveRefuse_noted ..)
  · unfold receiveLockLost
    split
    · exact takeLockLost_haltStays _ _ s
    · exact .of_flt rfl
  · exact .of_noted (receiveFix_noted ..)
  · exact .of_flt rfl

/-- HALT is left by a cold reset alone (R176). -/
theorem exec_haltStays {c : Instr} {s t : State} (h : exec c s = .next t) : HaltStays s t ∨ c = .coldReset := by
  rcases instr_cases c with event | ⟨p, tag, rfl⟩ | ⟨p, q, other, rfl⟩
  · have changes := exec_event_changes event h
    cases c with
    | coldReset => exact .inr rfl
    | countClose => exact .inl (Host.Outcome.next.inj h ▸ .of_noted (countClose_noted s))
    | buttonSample levels => exact .inl (Host.Outcome.next.inj h ▸ .of_noted (sampleButtons_noted levels s))
    | buttonStuck n => exact .inl (Host.Outcome.next.inj h ▸ .of_noted (stickButton_noted n s))
    | rampStowedChange x => exact .inl (Host.Outcome.next.inj h ▸ rampChange_haltStays x s)
    | silenceTimerExpiry =>
      refine .inl (Host.Outcome.next.inj h ▸ ?_)
      unfold silenceExpired
      (repeat' split)
      case h_2.isTrue cab _ _ =>
        have raised := raiseStop_haltStays .deskSilent (.cab cab) { s with aut.silence := .stopped }
        exact fun halt => by simpa using raised halt
      all_goals exact .of_flt rfl
    | vigilanceTimerExpiry =>
      refine .inl (Host.Outcome.next.inj h ▸ ?_)
      unfold vigilanceExpired
      split
      · exact fun halt => raiseStop_haltStays .vigilance _ _ halt
      · exact .of_flt rfl
    | exchangeTimerExpiry j =>
      have noted := (exchangeExpired_noted j s).trans (.of_flt (settleCheck_flt _))
      exact .inl (Host.Outcome.next.inj h ▸ .of_noted noted)
    | refuse tram j n q => exact .inl (Host.Outcome.next.inj h ▸ deliver_haltStays ⟨6, tram, j, n, q⟩ s)
    | lockLost tram j n => exact .inl (Host.Outcome.next.inj h ▸ deliver_haltStays ⟨7, tram, j, n, 0⟩ s)
    | fix j => exact .inl (Host.Outcome.next.inj h ▸ deliver_haltStays ⟨8, 0, j, 0, 0⟩ s)
    | inboundLineChange x =>
      obtain ⟨y, -, e | ⟨f, e⟩⟩ := lineChange_delivers x s
      · exact .inl (Host.Outcome.next.inj h ▸ .of_flt (by rw [e]))
      · exact .inl (Host.Outcome.next.inj h ▸ e ▸ deliver_haltStays f { s with loop := y })
    | _ => exact .inl (.of_flt (congrArg State.flt changes :))
  · exact .inl (.of_flt (congrArg State.flt (takeRestart_changes p tag s t (Host.Outcome.next.inj h).symm) :))
  · rw [exec_takingCommand p q s other] at h
    obtain ⟨tag, o⟩ := q
    cases Host.Outcome.next.inj h
    rcases takeOrder_cases p tag o (handleOrder p tag o) s with e | ⟨-, x, -, e⟩ | ⟨-, -, e⟩ <;> dsimp only <;> rw [e]
    · exact .inl id
    · exact .inl (.of_noted (failOrder_noted p tag o x (s.taken p)))
    · exact .inl (handleOrder_haltStays p tag o (s.taken p))

/-! ### The waiting commands, the clock and the direction end -/

theorem exec_waiting {c : Instr} {s t : State} (h : exec c s = .next t) : t.pending = s.pending ∧ t.clock = s.clock := by
  rcases instr_cases c with event | ⟨p, tag, rfl⟩ | ⟨p, q, other, rfl⟩
  · have changes := exec_event_changes event h
    cases c with
    | _ => exact ⟨(congrArg State.pending changes :), (congrArg State.clock changes :)⟩
  · have changes := takeRestart_changes p tag s t (Host.Outcome.next.inj h).symm
    exact ⟨(congrArg State.pending changes :), (congrArg State.clock changes :)⟩
  · rw [exec_takingCommand p q s other] at h
    obtain ⟨tag, o⟩ := q
    have changes := takeOrder_changes p tag o s t (Host.Outcome.next.inj h).symm
    cases o with
    | _ => exact ⟨(congrArg State.pending changes :), (congrArg State.clock changes :)⟩

/-- With AUT's fields in agreement, CLAIM or a cold reset alone moves the direction end (R2). -/
theorem exec_directionEnd {c : Instr} {s t : State} (kept : s.authorityKept) (h : exec c s = .next t) :
    t.directionEnd = s.directionEnd ∨ (∃ p tag, c = .claim p tag) ∨ c = .coldReset := by
  rcases instr_cases c with event | ⟨p, tag, rfl⟩ | ⟨p, q, other, rfl⟩
  · by_cases reset : c = .coldReset
    · exact .inr (.inr reset)
    · exact .inl (steady_event event reset h kept).2
  · exact .inl (Host.Outcome.next.inj h ▸ (steady_restart p tag s kept).2)
  · rw [exec_takingCommand p q s other] at h
    obtain ⟨tag, o⟩ := q
    by_cases claim : o = .claim
    · subst claim
      exact .inr (.inl ⟨p, tag, rfl⟩)
    · exact .inl (Host.Outcome.next.inj h ▸ (steady_takeOrder s claim kept).2)

/-- Every command goes on. -/
theorem exec_next (c : Instr) (s : State) : ∃ t, exec c s = .next t := by
  cases c with
  | _ => exact ⟨_, rfl⟩

/-- Settles O60: what each command may change, mode by mode. -/
theorem fewCommandsChangeTheModes : Obligations.FewCommandsChangeTheModes := by
  unfold Obligations.FewCommandsChangeTheModes
  intro c s
  obtain ⟨t, h⟩ := exec_next c s
  obtain ⟨pending, clock⟩ := exec_waiting h
  refine ⟨t, h, pending, clock, fun before after => ?_, fun before after => ?_, fun before after => ?_, fun moved => ?_,
    fun kept moved => ?_⟩
  · rcases exec_run h with same | rfl | ⟨done, -⟩
    · exact absurd (before.symm.trans (same.symm.trans after)) Bool.false_ne_true
    · cases Host.Outcome.next.inj h
      rw [coldReset_ord] at after
      cases after
    · exact done
  · rcases exec_run h with same | reset | ⟨-, running⟩
    · exact absurd (after.symm.trans (same.trans before)) Bool.false_ne_true
    · exact reset
    · exact absurd (after.symm.trans running) Bool.false_ne_true
  · exact (exec_haltStays h).resolve_left fun stays =>
      absurd (after.symm.trans (stays before)) Bool.false_ne_true
  · exact (exec_record h).resolve_left moved
  · exact (exec_directionEnd kept h).resolve_left moved

end Sys2Proof.Machine
end

section
/-! PROOF. STP without its request record, and E while the dwell state is not RUNNING (R71, R143). -/

namespace Sys2Proof.Machine

/-! ### What marks and switches leave of STP -/

/-- STP with the request record left out. -/
def Stp.unasked (x : Stp) : Stp :=
  { x with request := none }

theorem dwell_of_unasked {x y : Stp} (h : x.unasked = y.unasked) : x.dwell = y.dwell :=
  (congrArg Stp.dwell h :)

/-- STP is what it is without the request record, with its request record. -/
theorem stp_of_unasked {x y : Stp} (h : x.unasked = y.unasked) : x = { y with request := x.request } := by
  cases x; cases y; simp_all [Stp.unasked]

@[simp] theorem passWindowEnd_unasked (b : BankName) (i : Nat) (s : State) :
    (passWindowEnd b i s).stp.unasked = s.stp.unasked := by
  unfold passWindowEnd
  dsimp only
  (repeat' split)
  case h_1 => rfl
  case h_1 => rfl
  all_goals simp [Stp.unasked]

@[simp] theorem fireMark_unasked (b : BankName) (s : State) (m : Mark) :
    (fireMark b s m).stp.unasked = s.stp.unasked := by
  cases m with
  | planEnd => rfl
  | _ => simp [fireMark]

@[simp] theorem fireMarks_unasked (s : State) : (fireMarks s).stp.unasked = s.stp.unasked := by
  unfold fireMarks
  split
  · rfl
  · exact foldl_keeps (g := fun t : State => t.stp.unasked) (fun t m => fireMark_unasked _ t m) _ _

@[simp] theorem moveTo_unasked (p : Nat) (s : State) : (moveTo p s).stp.unasked = s.stp.unasked := by
  rcases moveTo_cases p s with ⟨-, h⟩ | ⟨-, h⟩ <;> simp [h]

@[simp] theorem advancePosition_unasked (s : State) : (advancePosition s).stp.unasked = s.stp.unasked :=
  moveTo_unasked ..

@[simp] theorem carryRequest_unasked (o : Option Nat) (s : State) :
    (carryRequest o s).stp.unasked = s.stp.unasked := by
  unfold carryRequest; (repeat' split) <;> rfl

@[simp] theorem switchPlans_unasked (s : State) : (switchPlans s).stp.unasked = s.stp.unasked := by
  simp [switchPlans]

@[simp] theorem completeSwitch_unasked (s : State) : (completeSwitch s).stp.unasked = s.stp.unasked := by
  simp [completeSwitch]

@[simp] theorem examineSwitch_unasked (s : State) : (examineSwitch s).stp.unasked = s.stp.unasked := by
  rcases examineSwitch_cases s with ⟨-, -, -, h⟩ | h <;> simp [h]

@[simp] theorem dropRequest_unasked (o : Option Nat) (s : State) : (dropRequest o s).stp.unasked = s.stp.unasked := by
  unfold dropRequest; split <;> rfl

@[simp] theorem retirePlan_unasked (s : State) : (retirePlan s).stp.unasked = s.stp.unasked := by
  unfold retirePlan; dsimp only; (repeat' split) <;> simp

@[simp] theorem takeFix_unasked (junction : Nat) (s : State) : (takeFix junction s).stp.unasked = s.stp.unasked := by
  unfold takeFix; (repeat' split) <;> simp

@[simp] theorem grantAuthority_unasked (cab : CabEnd) (s : State) :
    (grantAuthority cab s).stp.unasked = s.stp.unasked := by
  unfold grantAuthority; dsimp only; split <;> simp

theorem grantAuthority_drive (cab : CabEnd) (s : State) : (grantAuthority cab s).eff.drive = s.eff.drive := by
  have offered : (offerSettle .authority 10 (resetLever { s with aut := grantedAut cab s.aut })).eff.drive = s.eff.drive :=
    offerSettle_drive ..
  unfold grantAuthority
  dsimp only
  split
  · simp
  · exact offered

@[simp] theorem registerPress_unasked (n : Nat) (s : State) : (registerPress n s).stp.unasked = s.stp.unasked := by
  unfold registerPress; dsimp only; (repeat' split) <;> simp [Stp.unasked]

@[simp] theorem pressButton_unasked (n : Nat) (s : State) : (pressButton n s).stp.unasked = s.stp.unasked := by
  unfold pressButton; split <;> simp

/-! ### Steps that keep E at 0 or below in a dwell -/

/-- From `s` to `t` E at 0 or below while the dwell state is not RUNNING is kept. -/
def Dwells (s t : State) : Prop :=
  s.dwellBraked → t.dwellBraked

theorem Dwells.of_same {s t : State} (dwell : t.stp.dwell = s.stp.dwell) (e : t.eff.e = s.eff.e) : Dwells s t := by
  intro braked stopped
  rw [e]
  exact braked (dwell ▸ stopped)

theorem e_of_drive {x y : Eff} (h : x.drive = y.drive) : x.e = y.e :=
  (congrArg Prod.fst h :)

theorem offerSettle_e (r : SettleReason) (n : Nat) (s : State) : (offerSettle r n s).eff.e = s.eff.e :=
  e_of_drive (offerSettle_drive ..)

theorem Dwells.of_running {s t : State} (dwell : t.stp.dwell = .running) : Dwells s t :=
  fun _ stopped => absurd dwell stopped

theorem Dwells.of_braked {s t : State} (e : t.eff.e ≤ 0) : Dwells s t :=
  fun _ _ => e

theorem raiseStop_e (k : FaultKind) (key : FaultKey) (s : State) :
    (raiseStop k key s).eff.e = s.eff.e ∨ (raiseStop k key s).eff.e = 0 := by
  rcases raiseStop_cases k key s with ⟨-, h⟩ | ⟨-, -, h⟩ | ⟨-, -, -, h⟩ | ⟨-, -, -, h⟩ <;> rw [h]
  · exact .inl rfl
  · exact .inl rfl
  · exact .inr rfl
  · exact .inl rfl

theorem dwells_raiseStop {k : FaultKind} {key : FaultKey} {s t : State} (dwell : t.stp.dwell = s.stp.dwell)
    (e : t.eff.e = s.eff.e) : Dwells s (raiseStop k key t) := by
  rcases raiseStop_e k key t with same | zero
  · exact .of_same (by rw [raiseStop_stp, dwell]) (same.trans e)
  · exact .of_braked (Int.le_of_eq zero)

theorem dwells_foundOpen (s : State) : Dwells s (foundOpen s) := by
  unfold foundOpen
  split
  · next still => exact .of_braked still.2
  · exact dwells_raiseStop rfl rfl

theorem dwells_endClosing (s : State) : Dwells s (endClosing s) := by
  have secured : ∀ bell, Dwells s (secureTram bell s) := fun bell =>
    .of_running (by cases bell <;> simp [secureTram])
  unfold endClosing
  (repeat' split)
  case h_1 => exact secured true
  case h_2 => exact secured false
  all_goals exact .of_same rfl rfl

theorem dwells_doorReport (locked : Bool) (s : State) : Dwells s (doorReport locked s) := by
  have reported : Dwells s { s with stp.doorsLocked := locked } := .of_same rfl rfl
  unfold doorReport
  dsimp only
  (repeat' split)
  · exact fun braked => dwells_endClosing _ (reported braked)
  · exact fun braked => dwells_foundOpen _ (reported braked)
  · exact reported

theorem dwells_rampChange (stowed : Bool) (s : State) : Dwells s (rampChange stowed s) := by
  have read : Dwells s { s with stp.rampStowed := stowed } := .of_same rfl rfl
  unfold rampChange
  dsimp only
  (repeat' split)
  · exact .of_same rfl rfl
  · exact fun braked => dwells_endClosing _ (read braked)
  · exact fun braked => dwells_foundOpen _ (read braked)
  · exact read

/-! ### Orders -/

theorem dwells_handleKey (p : Port) (k : Byte) (s : State) : Dwells s (handleKey p k s).1 := by
  unfold handleKey reportKey keyEffect
  (repeat' split)
  case h_1.isFalse.isTrue.isFalse.isTrue => exact .of_same (by simp) (e_of_drive (offerAuthority_drive ..))
  case h_1.isFalse.isTrue.isFalse.isFalse => exact dwells_raiseStop rfl rfl
  all_goals exact .of_same rfl rfl

theorem dwells_handleClaim (p : Port) (s : State) : Dwells s (handleClaim p s).1 := by
  unfold handleClaim
  (repeat' split)
  case h_2.isFalse.isFalse.isFalse.isFalse cab _ _ _ _ _ =>
    exact .of_same (dwell_of_unasked (grantAuthority_unasked _ s)) (e_of_drive (grantAuthority_drive _ s))
  all_goals exact .of_same rfl rfl

theorem dwells_handleDoors (sides ramp : Byte) (s : State) : Dwells s (handleDoors sides ramp s).1 := by
  have granted : ∀ r d, ¬ 0 < s.eff.e → Dwells s (grantDoors r d s).1 := fun r d still => by
    have eff : (grantDoors r d s).1.eff = s.eff := (congrArg State.eff (serveTarget_changes d s) :)
    exact .of_braked (by rw [eff]; omega)
  unfold handleDoors
  (repeat' split)
  case h_3.isFalse.isFalse still => exact granted _ _ still
  case h_4.isFalse.isFalse still => exact granted _ _ still
  all_goals exact .of_same rfl rfl

theorem dwells_handleClose (s : State) : Dwells s (handleClose s).1 := by
  unfold handleClose
  split
  · next dwell => exact fun braked _ => braked (by simp [dwell])
  all_goals exact .of_same rfl rfl

theorem handleCut_e (t n x : Byte) (s : State) : (handleCut t n x s).1.eff.e = s.eff.e := by
  have cut : ∀ i b, (updateSand (cutBogie i b s)).eff.e = s.eff.e := fun i b => by
    cases i <;> cases b <;> rfl
  unfold handleCut
  split
  · rfl
  · exact cut _ _
  · rfl

/-- The handling of an order keeps E at 0 or below in a dwell. -/
theorem dwells_handleOrder (p : Port) (tag : Byte) (o : Order) (s : State) : Dwells s (handleOrder p tag o s).1 := by
  have changes := handleOrder_changes p tag o s
  cases o with
  | key k => exact dwells_handleKey p k s
  | claim => exact dwells_handleClaim p s
  | lever l g x =>
    refine .of_same (congrArg (fun t => t.stp.dwell) changes :) (e_of_drive ?_)
    simp only [handleOrder, handleLever, reviseVigilance_eff]
    exact takeLever_drive ..
  | ack =>
    refine .of_same (congrArg (fun t => t.stp.dwell) changes :) ?_
    simp only [handleOrder, handleAck]
    (repeat' split)
    case isFalse.isFalse.isFalse =>
      simp only [acknowledge, reviseVigilance_eff]
      exact offerSettle_e ..
    all_goals rfl
  | doors x r => exact dwells_handleDoors x r s
  | close => exact dwells_handleClose s
  | shift x =>
    refine .of_same (dwell_of_unasked ?_) (congrArg (fun t => t.eff.e) changes :)
    simp only [handleOrder, handleShift]
    (repeat' split) <;> simp
  | planSwitch =>
    refine .of_same (dwell_of_unasked ?_) (congrArg (fun t => t.eff.e) changes :)
    simp only [handleOrder, handlePlanSwitch]
    (repeat' split) <;> simp
  | doorState x => exact dwells_doorReport _ s
  | forceRelease =>
    refine .of_same (congrArg (fun t => t.stp.dwell) changes :) ?_
    simp only [handleOrder, handleForceRelease]
    (repeat' split)
    case isFalse.isFalse => simp only [forceLetGo_eff]; rfl
    all_goals rfl
  | cut t n x => exact .of_same (congrArg (fun t => t.stp.dwell) changes :) (handleCut_e t n x s)
  | _ => exact .of_same (congrArg (fun t => t.stp.dwell) changes :) (congrArg (fun t => t.eff.e) changes :)

theorem dwells_takeOrder (p : Port) (tag : Byte) (o : Order) (s : State) :
    Dwells s (takeOrder p tag o (handleOrder p tag o) s) := by
  rcases takeOrder_cases p tag o (handleOrder p tag o) s with e | ⟨-, x, -, e⟩ | ⟨-, -, e⟩ <;> rw [e]
  · exact .of_same rfl rfl
  · rw [failOrder_changes]
    exact .of_same rfl rfl
  · exact dwells_handleOrder p tag o (s.taken p)

/-! ### The count close -/

theorem endKeyLost_drive (s : State) : (endKeyLost s).eff.drive = s.eff.drive := by
  unfold endKeyLost
  (repeat' split)
  · exact offerAuthority_drive ..
  all_goals rfl

theorem dwells_closeBeforeEffort (s : State) : Dwells s (closeBeforeEffort s) := by
  have e : (autClose (advancePosition (axlClose (putConfigInForce s)))).eff.e = s.eff.e := by
    rw [autClose, reviseVigilance_eff]
    exact (e_of_drive (endKeyLost_drive _)).trans (by simp)
  have dwell : (autClose (advancePosition (axlClose (putConfigInForce s)))).stp.dwell = s.stp.dwell :=
    dwell_of_unasked (by simp)
  have checked : Dwells s (dwellCheck (autClose (advancePosition (axlClose (putConfigInForce s))))) := by
    unfold dwellCheck
    split
    · next still => exact .of_braked still.2.2.1
    · exact .of_same dwell e
  intro braked
  refine Dwells.of_same (dwell_of_unasked ?_) ?_ (checked braked) <;> simp [closeBeforeEffort]

/-- Toward a target at −200 or below E does not rise above 0 from 0 or below (R76). -/
theorem jerkLimit_le_zero {up down e t : Int} (rises : 0 ≤ up) (held : e ≤ 0) (target : t ≤ -200) :
    jerkLimit up down e t ≤ 0 := by
  unfold jerkLimit
  split
  · exact held
  · split
    · omega
    · split
      · omega
      · split <;> omega

theorem effortTarget_of_dwell {s : State} (stopped : s.stp.dwell ≠ .running) : s.effortTarget ≤ -200 := by
  have first : ∀ t, dwellLimit s.stp.dwell t ≤ -200 := fun t => by
    rw [dwellLimit, if_neg stopped]
    omega
  have second : settleLimit s.eff.settleCount (dwellLimit s.stp.dwell s.requestTarget) ≤ -200 := by
    have := first s.requestTarget
    unfold settleLimit
    split <;> omega
  unfold State.effortTarget capLimit
  (repeat' split) <;> omega

theorem limitEffort_e (e : Int) (s : State) :
    (limitEffort e s).eff.e = jerkLimit (s.cfg .jerkUp) (s.cfg .jerkDown) e s.effortTarget := rfl

theorem limitEffort_le_zero {s : State} (stopped : s.stp.dwell ≠ .running) (rises : 0 ≤ s.cfg .jerkUp) {e : Int}
    (held : e ≤ 0) : (limitEffort e s).eff.e ≤ 0 := by
  rw [limitEffort_e]
  exact jerkLimit_le_zero rises held (effortTarget_of_dwell stopped)

theorem runEffort_le_zero {s : State} (stopped : s.stp.dwell ≠ .running) (rises : 0 ≤ s.cfg .jerkUp)
    (held : s.eff.e ≤ 0) (seen1 seen2 : Bool) : (runEffort seen1 seen2 s).eff.e ≤ 0 := by
  unfold runEffort
  (repeat' split)
  · have cleared : (clearEmergency s).stp.dwell ≠ .running := by simpa using stopped
    have rises' : 0 ≤ (clearEmergency s).cfg .jerkUp := by simpa [State.cfg] using rises
    exact limitEffort_le_zero cleared rises' (by decide)
  · exact (by decide : (-1000 : Int) ≤ 0)
  · exact (by decide : (-1000 : Int) ≤ 0)
  · exact limitEffort_le_zero stopped rises held

theorem reviseHold_e (s : State) : (reviseHold s).eff.e = s.eff.e := by
  unfold reviseHold; (repeat' split) <;> rfl

theorem effClose_le_zero {s : State} (stopped : s.stp.dwell ≠ .running) (rises : 0 ≤ s.cfg .jerkUp)
    (held : s.eff.e ≤ 0) : (effClose s).eff.e ≤ 0 := by
  unfold effClose
  dsimp only
  (repeat' split)
  · exact Int.le_refl 0
  · exact Int.le_refl 0
  · rw [runClose, reviseHold_e]
    exact runEffort_le_zero (s := formCap (clearCaptures s)) stopped rises held _ _

theorem dwells_countClose {s : State} (h : s.configInRange) : Dwells s (countClose s) := by
  have rises : 0 ≤ (closeBeforeEffort s).cfg .jerkUp := by
    have low := (((closeBeforeEffort_sameConfig s).inRange (putConfigInForce_inRange h)) .jerkUp).1.1
    exact Int.le_trans (by decide) low
  intro braked stopped
  have dwell : (countClose s).stp.dwell = (closeBeforeEffort s).stp.dwell := by simp [countClose]
  have eff : (countClose s).eff = (effClose (closeBeforeEffort s)).eff := by simp [countClose]
  rw [dwell] at stopped
  rw [eff]
  exact effClose_le_zero stopped rises (dwells_closeBeforeEffort s braked stopped)

/-! ### Events and ticks -/

theorem dwells_deliver (f : InboundFields) (s : State) : Dwells s (deliver f s) := by
  unfold deliver
  split
  · have changes := receiveAccept_changes f.tram f.junction f.number s _ rfl
    exact .of_same (congrArg (fun t => t.stp.dwell) changes :) (congrArg (fun t => t.eff.e) changes :)
  · have changes := receiveSet_changes f.tram f.junction f.number s _ rfl
    exact .of_same (congrArg (fun t => t.stp.dwell) changes :) (congrArg (fun t => t.eff.e) changes :)
  · have changes := receiveRefuse_changes f.tram f.junction f.number f.qualifier s _ rfl
    exact .of_same (congrArg (fun t => t.stp.dwell) changes :) (congrArg (fun t => t.eff.e) changes :)
  · unfold receiveLockLost takeLockLost raiseLockLost
    (repeat' split)
    case h_2.isTrue.isTrue => exact dwells_raiseStop (by simp) (by simp)
    all_goals exact .of_same (by simp) (by simp)
  · have changes := receiveFix_changes f.junction s _ rfl
    refine .of_same (dwell_of_unasked ?_) (congrArg (fun t => t.eff.e) changes :)
    unfold receiveFix
    split <;> simp
  · exact .of_same rfl rfl

theorem dwells_event {c : Instr} {s t : State} (h : s.configInRange) (event : isEvent c = true)
    (next : exec c s = .next t) : Dwells s t := by
  have changes := exec_event_changes event next
  cases c with
  | coldReset =>
    refine Host.Outcome.next.inj next ▸ .of_braked ?_
    rw [coldReset_eq]
    exact Int.le_refl 0
  | countClose => exact Host.Outcome.next.inj next ▸ dwells_countClose h
  | emergencyInput => cases next; exact .of_same rfl rfl
  | buttonSample levels =>
    have pressed : ∀ (l : List Nat) (u : State), (l.foldl (fun s n => pressButton n s) u).stp.dwell = u.stp.dwell :=
      fun l u => dwell_of_unasked (foldl_keeps (g := fun t : State => t.stp.unasked) (fun t n => pressButton_unasked n t) l u)
    have stuck : ∀ (l : List Nat) (u : State), (l.foldl (fun s n => stickButton n s) u).stp.dwell = u.stp.dwell :=
      fun l u => foldl_keeps (g := fun t : State => t.stp.dwell) (fun t n => by
        unfold stickButton; (repeat' split) <;> rfl) l u
    exact Host.Outcome.next.inj next ▸ .of_same ((stuck _ _).trans (pressed _ _)) (by simp)
  | buttonStuck n =>
    refine Host.Outcome.next.inj next ▸ .of_same ?_ (by simp)
    unfold stickButton
    (repeat' split) <;> rfl
  | rampStowedChange x => exact Host.Outcome.next.inj next ▸ dwells_rampChange x s
  | silenceTimerExpiry =>
    refine Host.Outcome.next.inj next ▸ ?_
    unfold silenceExpired
    (repeat' split)
    case h_2.isTrue cab _ _ =>
      have raised : Dwells s (raiseStop .deskSilent (.cab cab) { s with aut.silence := .stopped }) :=
        dwells_raiseStop rfl rfl
      exact fun braked => Dwells.of_same (by simp) (by simp) (raised braked)
    all_goals exact .of_same rfl rfl
  | vigilanceTimerExpiry =>
    refine Host.Outcome.next.inj next ▸ ?_
    unfold vigilanceExpired
    split
    · exact dwells_raiseStop rfl rfl
    · exact .of_same rfl rfl
  | lockLost tram j n => exact Host.Outcome.next.inj next ▸ dwells_deliver ⟨7, tram, j, n, 0⟩ s
  | fix j => exact Host.Outcome.next.inj next ▸ dwells_deliver ⟨8, 0, j, 0, 0⟩ s
  | inboundLineChange x =>
    obtain ⟨y, -, e | ⟨f, e⟩⟩ := lineChange_delivers x s
    · exact Host.Outcome.next.inj next ▸ .of_same (by rw [e]) (by rw [e])
    · exact Host.Outcome.next.inj next ▸ e ▸ dwells_deliver f { s with loop := y }
  | _ => exact .of_same (congrArg (fun t => t.stp.dwell) changes :) (congrArg (fun t => t.eff.e) changes :)

theorem takeRestart_e (p : Port) (tag : Byte) (s : State) : (takeRestart p tag s).eff.e = s.eff.e := by
  have blocks : ∀ u, (restartBlocks u).eff.e = u.eff.e := fun u => by
    have before : (autRestart (ordRestart (pthRestart u))).eff.e = u.eff.e :=
      (congrArg (fun t => t.eff.e) (pthRestart_changes u _ rfl) :)
    have offered : ∀ v, (effRestart v).eff.e = v.eff.e := fun v => offerSettle_e ..
    simp only [restartBlocks, sndRestart_eff, jctRestart_eff, loopRestart_eff]
    exact (offered _).trans before
  rcases takeRestart_cases p tag s with e | ⟨-, x, -, e⟩ | ⟨-, -, e⟩ <;> rw [e]
  · rw [failOrder_changes]
    rfl
  · unfold handleRestart
    split
    · rfl
    · exact blocks _

theorem exec_dwells {c : Instr} {s t : State} (range : s.configInRange) (h : exec c s = .next t) : Dwells s t := by
  rcases instr_cases c with event | ⟨p, tag, rfl⟩ | ⟨p, q, other, rfl⟩
  · exact dwells_event range event h
  · have changes := takeRestart_changes p tag s _ rfl
    exact Host.Outcome.next.inj h ▸ .of_same (congrArg (fun t => t.stp.dwell) changes :) (takeRestart_e p tag s)
  · rw [exec_takingCommand p q s other] at h
    exact Host.Outcome.next.inj h ▸ dwells_takeOrder p q.tag q.order s

/-- Settles O57: each command and tick keeps the ranges, and E at 0 or below in a dwell. -/
theorem everyStepHoldsTheDwell : Obligations.EveryStepHoldsTheDwell := by
  unfold Obligations.EveryStepHoldsTheDwell
  intro s t range braked stepped
  rcases step_cases stepped with rfl | ⟨c, rest, h⟩
  · have dwell : (tick s).stp.dwell = s.stp.dwell := (congrArg (fun t => t.stp.dwell) (advanceExchanges_changes s) :)
    exact ⟨(tick_sameConfig s).inRange range, Dwells.of_same dwell (by rw [tick_eff]) braked⟩
  · exact ⟨exec_inRange (s := { s with pending := rest }) range h,
      exec_dwells (s := { s with pending := rest }) range h braked⟩

end Sys2Proof.Machine
end

section
/-! PROOF. The bounds of the queues and lists (R101, R109, R147, R182): what keeps them, operation by operation. -/

namespace Sys2Proof.Machine

/-! ### The outbound queue (R109, R110) -/

/-- At most 8 telegrams, no junction twice (R109). -/
structure Loop.Bounded (x : Loop) : Prop where
  length : x.queue.length ≤ 8
  junctions : (x.queue.map fun q => q.telegram.junction).Nodup

theorem Loop.Bounded.of_sublist {x y : Loop} (h : x.Bounded) (sub : y.queue.Sublist x.queue) : y.Bounded :=
  ⟨sub.length_le.trans h.length, h.junctions.sublist (sub.map _)⟩

theorem withoutRequest_sublist (x : Loop) (junction : Nat) : (x.withoutRequest junction).Sublist x.queue := by
  unfold Loop.withoutRequest
  split
  · cases queue : x.queue with
    | nil => exact List.nil_sublist _
    | cons q rest => exact (List.eraseP_sublist (l := rest)).cons_cons q
  · exact List.eraseP_sublist

theorem Loop.Bounded.offerTelegram {x : Loop} (h : x.Bounded) (t : Telegram) (b : BankName) (i : Nat) :
    (offerTelegram t b i x).2.Bounded := by
  rcases offerTelegram_cases t b i x with ⟨-, -, e⟩ | e | ⟨room, other, e⟩ <;> rw [e]
  · exact h.of_sublist (withoutRequest_sublist x t.junction)
  · exact h
  · refine ⟨by simpa using room, ?_⟩
    simp only [joinQueue_queue, List.map_append, List.nodup_append]
    refine ⟨h.junctions, by simp, ?_⟩
    rintro a mem c new rfl
    obtain ⟨q, queued, rfl⟩ := List.mem_map.mp mem
    exact other q queued (by simpa using new)

/-! ### A channel's queue (R146, R147, R148) -/

/-- At most 4 programs of the ten, none twice, and none on an IDLE channel (R147, R148). -/
structure ChannelRecord.Bounded (x : ChannelRecord) : Prop where
  length : x.queue.length ≤ 4
  once : x.queue.Nodup
  programs : ∀ n ∈ x.queue, 1 ≤ n ∧ n ≤ 10
  idle : x.state = .idle → x.queue = []

/-- A sounding record with the queue it had. -/
theorem ChannelRecord.Bounded.of_queue {x y : ChannelRecord} (h : x.Bounded) (queue : y.queue = x.queue)
    (sounds : y.state ≠ .idle ∨ y.state = x.state) : y.Bounded := by
  refine ⟨queue ▸ h.length, queue ▸ h.once, queue ▸ h.programs, fun idle => ?_⟩
  rw [queue]
  exact h.idle ((sounds.resolve_left fun sounding => sounding idle).symm.trans idle)

theorem programSteps_ne_nil {n : Nat} (low : 1 ≤ n) (high : n ≤ 10) : ∃ tone time, (programSteps n)[0]? = some (tone, time) := by
  interval_cases n <;> exact ⟨_, _, rfl⟩

theorem startProgramStep_sounds {c : Channel} {night : Bool} {n k : Nat} {m : Bool} {x : ChannelRecord}
    (step : k - 1 < (programSteps n).length) : (startProgramStep c night n k m x).state ≠ .idle := by
  unfold startProgramStep
  rw [List.getElem?_eq_getElem step]
  exact nofun

theorem ChannelRecord.Bounded.takeUp {x : ChannelRecord} (h : x.Bounded) (c : Channel) (night : Bool) :
    (takeUp c night x).Bounded := by
  rcases takeUp_cases c night x with ⟨empty, e⟩ | ⟨n, rest, queue, e⟩ <;> rw [e]
  · exact ⟨by simp [empty], by simp [empty], by simp [empty], fun _ => empty⟩
  · obtain ⟨length, once, programs, -⟩ := h
    rw [queue] at length once programs
    have rest_ : (startProgramStep c night n 1 false { x with queue := rest }).queue = rest := startProgramStep_queue ..
    obtain ⟨low, high⟩ := programs n (by simp)
    obtain ⟨tone, time, first⟩ := programSteps_ne_nil low high
    have step : 1 - 1 < (programSteps n).length := (List.getElem?_eq_some_iff.mp first).1
    refine ⟨?_, ?_, ?_, fun idle => absurd idle (startProgramStep_sounds step)⟩ <;> rw [rest_]
    · simp at length; omega
    · exact once.of_cons
    · exact fun m mem => programs m (List.mem_cons_of_mem n mem)

theorem ChannelRecord.Bounded.join {x : ChannelRecord} (h : x.Bounded) {n : Nat} (low : 1 ≤ n) (high : n ≤ 10)
    (new : n ∉ x.queue) (room : x.queue.length < 4) :
    (x.queue ++ [n]).length ≤ 4 ∧ (x.queue ++ [n]).Nodup ∧ ∀ m ∈ x.queue ++ [n], 1 ≤ m ∧ m ≤ 10 := by
  refine ⟨by simpa using room, ?_, ?_⟩
  · rw [List.nodup_append]
    refine ⟨h.once, by simp, ?_⟩
    rintro a mem b one rfl
    exact new (by simpa [List.mem_singleton.mp one] using mem)
  · intro m mem
    rcases List.mem_append.mp mem with old | one
    · exact h.programs m old
    · rw [List.mem_singleton.mp one]
      exact ⟨low, high⟩

theorem ChannelRecord.Bounded.requestOn {x : ChannelRecord} (h : x.Bounded) (c : Channel) (night : Bool) {n : Nat}
    (low : 1 ≤ n) (high : n ≤ 10) : (requestOn c night n x).1.Bounded := by
  rcases requestOn_cases c night n x with e | ⟨-, -, e⟩ | ⟨new, room, idle, e⟩ | ⟨new, room, sounds, e⟩ <;> rw [e]
  · exact h
  · exact h
  · have empty := h.idle idle
    obtain ⟨tone, time, first⟩ := programSteps_ne_nil low high
    have started : (Machine.takeUp c night { x with queue := x.queue ++ [n] })
        = startProgramStep c night n 1 false { x with queue := [] } := by simp [Machine.takeUp, empty]
    have step : 1 - 1 < (programSteps n).length := (List.getElem?_eq_some_iff.mp first).1
    have queue : (startProgramStep c night n 1 false { x with queue := [] }).queue = [] := startProgramStep_queue ..
    simp only [started]
    exact ⟨by simp [queue], by simp [queue], by simp [queue], fun idle => absurd idle (startProgramStep_sounds step)⟩
  · obtain ⟨length, once, programs⟩ := h.join low high new room
    exact ⟨length, once, programs, fun idle => absurd idle sounds⟩

theorem ChannelRecord.Bounded.startStroke {x : ChannelRecord} (h : x.Bounded) (night : Bool) (k : Nat) (l : Bool) :
    (startStroke night k l x).Bounded :=
  h.of_queue rfl (.inl nofun)

theorem ChannelRecord.Bounded.holdChannel {x : ChannelRecord} (h : x.Bounded) (c : Channel) (night : Bool) :
    (holdChannel c night x).Bounded := by
  unfold Machine.holdChannel
  (repeat' split) <;> exact h.of_queue rfl (.inl nofun)

theorem ChannelRecord.Bounded.letGoChannel {x : ChannelRecord} (h : x.Bounded) (c : Channel) (night : Bool) :
    (letGoChannel c night x).Bounded := by
  unfold Machine.letGoChannel
  (repeat' split)
  · exact h.of_queue rfl (.inl nofun)
  · exact h.takeUp c night
  · exact h.of_queue rfl (.inl nofun)
  · exact h
  · exact h

theorem ChannelRecord.Bounded.strokeEnd {x : ChannelRecord} (h : x.Bounded) (night l : Bool) :
    (strokeEnd night l x).Bounded := by
  unfold Machine.strokeEnd
  split
  · exact h.takeUp .bell night
  · exact h.startStroke night 1 false

theorem ChannelRecord.Bounded.stepExpired {x : ChannelRecord} (h : x.Bounded) (c : Channel) (night : Bool) :
    (stepExpired c night x).Bounded := by
  unfold Machine.stepExpired
  split
  · split
    · next goes => exact h.of_queue (startProgramStep_queue ..) (.inl (startProgramStep_sounds goes.2))
    · exact h.takeUp c night
  · split
    · exact h.startStroke night 2 _
    · exact h.strokeEnd night _
  · exact h
  · exact h

theorem ChannelRecord.Bounded.strokeEnded {x : ChannelRecord} (h : x.Bounded) (night : Bool) :
    (strokeEnded night x).Bounded := by
  unfold Machine.strokeEnded
  split
  · split
    · exact (h.startStroke night 2 _).strokeEnd night _
    · exact h.strokeEnd night _
  all_goals exact h

theorem ChannelRecord.Bounded.minimumReached {x : ChannelRecord} (h : x.Bounded) (night : Bool) :
    (minimumReached night x).Bounded := by
  unfold Machine.minimumReached
  split
  · split
    · exact h.takeUp .horn night
    · exact h.of_queue rfl (.inl nofun)
  all_goals exact h

/-- An emptied queue is within its bounds. -/
theorem ChannelRecord.bounded_of_empty {x : ChannelRecord} (empty : x.queue = []) : x.Bounded :=
  ⟨by simp [empty], by simp [empty], by simp [empty], fun _ => empty⟩

theorem breakChannel_queue (x : ChannelRecord) : (breakChannel x).queue = [] := by
  unfold breakChannel; split <;> rfl

theorem ChannelRecord.Bounded.advanceChannel {x : ChannelRecord} (h : x.Bounded) : (advanceChannel x).Bounded := by
  unfold Machine.advanceChannel
  split
  · exact h
  all_goals exact h.of_queue rfl (.inl nofun)

/-! ### A settle list (R101) -/

/-- At most 8 ids, none twice (R101). -/
structure SettleList.Bounded (x : SettleList) : Prop where
  length : x.ids.length ≤ 8
  once : x.ids.Nodup

theorem SettleList.Bounded.offerId {x : SettleList} (h : x.Bounded) (id : Nat) : (offerId id x).Bounded := by
  unfold Machine.offerId
  (repeat' split)
  · exact h
  · next new room =>
    refine ⟨by simpa [Config.settleListSize, Nat.succ_le_iff] using room, ?_⟩
    rw [List.nodup_append]
    refine ⟨h.once, by simp, ?_⟩
    rintro a mem b one rfl
    exact new (by simpa [List.mem_singleton.mp one] using mem)
  · exact ⟨h.length, h.once⟩

/-! ### The three blocks together -/

/-- LOOP's queue, the channels' queues and the settle lists within their bounds. -/
structure State.Tidy (s : State) : Prop where
  loop : s.loop.Bounded
  channels : ∀ c, (s.snd.channel c).Bounded
  lists : ∀ p, (s.jct.lists.get p).Bounded

theorem State.Tidy.of_same {s t : State} (h : s.Tidy) (loop : t.loop.queue = s.loop.queue) (snd : t.snd = s.snd)
    (jct : t.jct = s.jct) : t.Tidy :=
  ⟨⟨loop ▸ h.loop.length, loop ▸ h.loop.junctions⟩, snd ▸ h.channels, jct ▸ h.lists⟩

/-- A new LOOP within its bounds, the channels and lists as they were. -/
theorem State.Tidy.of_loop {s t : State} (h : s.Tidy) (loop : t.loop.Bounded) (snd : t.snd = s.snd)
    (jct : t.jct = s.jct) : t.Tidy :=
  ⟨loop, snd ▸ h.channels, jct ▸ h.lists⟩

theorem get_setChannel (x : Snd) (c d : Channel) (y : ChannelRecord) :
    (x.setChannel c y).channel d = if d = c then y else x.channel d := by
  cases c <;> cases d <;> rfl

theorem State.Tidy.setChannel {s t : State} (h : s.Tidy) {c : Channel} {y : ChannelRecord} (bounded : y.Bounded)
    (loop : t.loop = s.loop) (snd : t.snd = s.snd.setChannel c y) (jct : t.jct = s.jct) : t.Tidy := by
  refine ⟨loop ▸ h.loop, fun d => ?_, jct ▸ h.lists⟩
  rw [snd, get_setChannel]
  split
  · exact bounded
  · exact h.channels d

theorem State.Tidy.modChannel {s : State} (h : s.Tidy) (c : Channel) {f : ChannelRecord → ChannelRecord}
    (keeps : ∀ x : ChannelRecord, x.Bounded → (f x).Bounded) : (modChannel c f s).Tidy :=
  h.setChannel (keeps _ (h.channels c)) rfl rfl rfl

theorem State.Tidy.askSound {s : State} (h : s.Tidy) {n : Nat} (low : 1 ≤ n) (high : n ≤ 10) : (askSound n s).Tidy :=
  h.setChannel ((h.channels _).requestOn _ _ low high) rfl rfl rfl

theorem State.Tidy.forceLetGo {s : State} (h : s.Tidy) : (forceLetGo s).Tidy :=
  (h.modChannel .bell fun _ bounded => bounded.letGoChannel .bell s.snd.night).modChannel .horn
    fun _ bounded => bounded.letGoChannel .horn s.snd.night

/-! ### Telegrams -/

theorem State.Tidy.afterTaken {s : State} (h : s.Tidy) (t : Telegram) (b : BankName) (i : Nat) :
    (afterTaken t b i s).Tidy :=
  h.of_same (by simp) (by simp) (by simp)

theorem State.Tidy.modJunction {s : State} (h : s.Tidy) (b : BankName) (i : Nat) (f : Junction → Junction) :
    (s.modJunction b i f).Tidy :=
  h.of_same (by simp) (by simp) (by simp)

theorem State.Tidy.offerHeads : ∀ (l : List (BankName × Nat)) {s : State}, s.Tidy → (offerHeads l s).1.Tidy
  | [], _, h => h
  | (b, i) :: rest, s, h => by
    unfold Machine.offerHeads
    split
    · exact h
    · split
      · exact h.offerHeads rest
      · next t _ =>
        dsimp only
        have offered := h.loop.offerTelegram t b i
        split
        · exact h.offerHeads rest
        · next x e =>
          rw [e] at offered
          refine State.Tidy.offerHeads rest (State.Tidy.afterTaken ?_ t b i)
          exact State.Tidy.modJunction (s := { s with loop := x }) (h.of_loop offered rfl rfl) ..
        · next x e =>
          rw [e] at offered
          exact State.Tidy.modJunction (s := { s with loop := x }) (h.of_loop offered rfl rfl) ..

theorem State.Tidy.reofferWith : ∀ (n : Nat) {s : State}, s.Tidy → (reofferWith n s).Tidy
  | 0, _, h => h
  | n + 1, s, h => by
    have offered := h.offerHeads s.offeringOrder
    unfold Machine.reofferWith
    split
    · next e => exact State.Tidy.reofferWith n (by rw [e] at offered; exact offered)
    · next e => rw [e] at offered; exact offered

theorem State.Tidy.reoffer {s : State} (h : s.Tidy) : (reoffer s).Tidy := h.reofferWith _

theorem State.Tidy.makeOffer {s : State} (h : s.Tidy) (t : Telegram) (b : BankName) (i : Nat) :
    (makeOffer t b i s).Tidy := by
  have offered := h.loop.offerTelegram t b i
  rcases makeOffer_cases t b i s with ⟨x, e, made⟩ | ⟨x, e, made⟩ | ⟨-, made⟩ <;> rw [made]
  · rw [e] at offered
    exact State.Tidy.afterTaken (s := { s with loop := x }) (h.of_loop offered rfl rfl) t b i
  · rw [e] at offered
    exact State.Tidy.reoffer (s := { s with loop := x }) (h.of_loop offered rfl rfl)
  · exact h.modJunction ..

theorem State.Tidy.startTransmitter {s t : State} (h : t.Tidy) : (startTransmitter s t).Tidy :=
  h.of_same (startSending_queue ..) rfl rfl

/-! ### Marks, plans and positions -/

theorem State.Tidy.passRequestPoint {s : State} (h : s.Tidy) (b : BankName) (i : Nat) :
    (passRequestPoint b i s).Tidy := by
  unfold Machine.passRequestPoint
  (repeat' split)
  case h_2.isTrue => exact h.makeOffer ..
  all_goals exact h

theorem State.Tidy.passApproach {s : State} (h : s.Tidy) (b : BankName) (i : Nat) : (passApproach b i s).Tidy := by
  unfold Machine.passApproach
  (repeat' split)
  · exact h
  · exact h
  · exact h.askSound (by decide) (by decide)

theorem State.Tidy.raiseNotice {s : State} (h : s.Tidy) (k : FaultKind) (key : FaultKey) : (raiseNotice k key s).Tidy :=
  h.of_same rfl rfl rfl

theorem State.Tidy.passClearance {s : State} (h : s.Tidy) (b : BankName) (i : Nat) : (passClearance b i s).Tidy := by
  have passed := h.modJunction b i passedJunction
  unfold Machine.passClearance
  split
  · exact h
  · split
    · exact h
    · dsimp only
      split
      · exact passed.makeOffer ..
      · exact (passed.makeOffer ..).raiseNotice ..
      · exact (passed.makeOffer ..).raiseNotice ..
      · exact (passed.modJunction ..).raiseNotice ..
      · exact passed.raiseNotice ..
      · exact passed.raiseNotice ..
      · exact passed
      · exact passed

theorem State.Tidy.fireMark {s : State} (h : s.Tidy) (b : BankName) (m : Mark) : (fireMark b s m).Tidy := by
  cases m with
  | request i => exact (h.modJunction ..).passRequestPoint b i
  | approach i => exact (h.modJunction ..).passApproach b i
  | stand i => exact h.modJunction ..
  | clearance i => exact (h.modJunction ..).passClearance b i
  | window i => exact h.of_same (by simp [Machine.fireMark]) (by simp [Machine.fireMark]) (by simp [Machine.fireMark])
  | planEnd => exact h.of_same rfl rfl rfl

/-- A fold keeps the bounds where each of its steps does. -/
theorem State.Tidy.foldl {α : Type} {f : State → α → State} (step : ∀ t a, t.Tidy → (f t a).Tidy) :
    ∀ (l : List α) {s : State}, s.Tidy → (l.foldl f s).Tidy
  | [], _, h => h
  | a :: l, s, h => State.Tidy.foldl step l (step s a h)

theorem State.Tidy.fireMarks {s : State} (h : s.Tidy) : (fireMarks s).Tidy := by
  unfold Machine.fireMarks
  split
  · exact h
  · exact h.foldl (fun t m tidy => tidy.fireMark _ m) _

theorem State.Tidy.moveTo {s : State} (h : s.Tidy) (p : Nat) : (moveTo p s).Tidy := by
  have moved : ({ s with pth.p := p } : State).Tidy := h.of_same rfl rfl rfl
  rcases moveTo_cases p s with ⟨-, e⟩ | ⟨-, e⟩ <;> rw [e]
  · exact moved.fireMarks
  · exact moved

theorem State.Tidy.advancePosition {s : State} (h : s.Tidy) : (advancePosition s).Tidy :=
  State.Tidy.moveTo (s := { s with pth.rem := (advanced s).2 }) (h.of_same rfl rfl rfl) _

theorem State.Tidy.setUpPlan {s : State} (h : s.Tidy) (b : BankName) : (setUpPlan b s).Tidy := by
  have requested : ((s.requestsAtOnce b).foldl (fun s i => Machine.passRequestPoint b i s)
      (s.setBank b { s.bank b with slots := (s.bank b).slots.map (Option.map s.switchedEntry) })).Tidy :=
    State.Tidy.foldl (fun t i tidy => tidy.passRequestPoint b i) _ (h.of_same (by simp) (by simp) (by simp))
  unfold Machine.setUpPlan
  dsimp only
  split
  · exact requested.of_same rfl rfl rfl
  · exact requested

theorem State.Tidy.switchPlans {s : State} (h : s.Tidy) : (switchPlans s).Tidy := by
  have turned : (turnBanks s).Tidy := h.of_same (by simp) (by simp) (by simp)
  exact (turned.setUpPlan s.pth.standby).of_same (by simp [Machine.switchPlans]) (by simp [Machine.switchPlans])
    (by simp [Machine.switchPlans])

theorem State.Tidy.completeSwitch {s : State} (h : s.Tidy) : (completeSwitch s).Tidy :=
  h.switchPlans.of_same (by simp [Machine.completeSwitch]) (by simp [Machine.completeSwitch])
    (by simp [Machine.completeSwitch])

theorem State.Tidy.examineSwitch {s : State} (h : s.Tidy) : (examineSwitch s).Tidy := by
  rcases examineSwitch_cases s with ⟨-, -, -, e⟩ | e <;> rw [e]
  · exact h.completeSwitch
  · exact h

theorem State.Tidy.retireJunction {s : State} (h : s.Tidy) (b : BankName) (i : Nat) : (retireJunction b i s).Tidy := by
  have passed := h.modJunction b i passedJunction
  unfold Machine.retireJunction
  split
  · exact h
  · split
    · exact h
    · split
      case h_1 | h_2 | h_3 => exact passed.makeOffer ..
      case h_4 => exact h.modJunction ..
      all_goals exact h

theorem State.Tidy.retireJunctions {s : State} (h : s.Tidy) (b : BankName) : (retireJunctions b s).Tidy :=
  h.foldl (fun _ i tidy => tidy.retireJunction b i) _

theorem State.Tidy.retirePlan {s : State} (h : s.Tidy) : (retirePlan s).Tidy := by
  have switched : ∀ t : State, t.Tidy → (if t.pth.pendingSwitch then Machine.completeSwitch t else t).Tidy :=
    fun t tidy => by
      split
      · exact tidy.completeSwitch
      · exact tidy
  unfold Machine.retirePlan
  refine switched _ ?_
  split
  · exact h.of_same rfl rfl rfl
  · next b _ =>
    have stale : ({ s.setBank b { s.bank b with state := .stale } with
        pth.p := 0, pth.rem := 0, pth.planEnd := false } : State).Tidy := h.of_same (by simp) (by simp) (by simp)
    exact (stale.retireJunctions b).of_same (by simp) (by simp) (by simp)

/-! ### Settle lists -/

theorem perPort_get_set {α : Type} (t : PerPort α) (p q : Port) (x : α) :
    (t.set p x).get q = if q = p then x else t.get q := by
  cases p <;> cases q <;> rfl

theorem State.Tidy.offerToLists {s : State} (h : s.Tidy) (id : Nat) : (offerToLists id s).Tidy :=
  ⟨h.loop, h.channels, fun p => by
    cases p
    · exact (h.lists .end1).offerId id
    · exact (h.lists .end2).offerId id
    · exact (h.lists .vehicle).offerId id⟩

theorem State.Tidy.completeSettle {s : State} (h : s.Tidy) (p : Port) : (completeSettle s p).Tidy := by
  unfold Machine.completeSettle
  dsimp only
  (repeat' split)
  · exact h
  · refine ⟨by simpa using h.loop, by simpa using h.channels, fun q => ?_⟩
    simp only [completeSlot_jct, perPort_get_set]
    split
    · exact ⟨Nat.zero_le 8, List.nodup_nil⟩
    · exact h.lists q
  · exact h

theorem State.Tidy.settleCheck {s : State} (h : s.Tidy) : (settleCheck s).Tidy := by
  rcases settleCheck_cases s with ⟨-, e⟩ | ⟨-, e⟩ <;> rw [e]
  · exact h
  · exact h.foldl (fun t p tidy => tidy.completeSettle p) _

theorem State.Tidy.takeFix {s : State} (h : s.Tidy) (junction : Nat) : (takeFix junction s).Tidy := by
  unfold Machine.takeFix
  (repeat' split)
  · exact h
  · exact h.raiseNotice ..
  · exact h.raiseNotice ..
  · refine State.Tidy.startTransmitter (State.Tidy.settleCheck ?_)
    exact State.Tidy.moveTo (s := { s with pth.rem := 0 }) (h.of_same rfl rfl rfl) _

theorem State.Tidy.grantAuthority {s : State} (h : s.Tidy) (cab : CabEnd) : (grantAuthority cab s).Tidy := by
  have granted : (offerSettle .authority 10 (resetLever { s with aut := grantedAut cab s.aut })).Tidy :=
    h.of_same (by simp) (by simp) (by simp)
  unfold Machine.grantAuthority
  dsimp only
  split
  · exact granted.retirePlan.settleCheck.startTransmitter
  · exact granted

end Sys2Proof.Machine
end

section
/-! PROOF. The bounds of the queues and lists across every command and tick (R101, R109, R147, R182). -/

namespace Sys2Proof.Machine

/-! ### A port's inbound side -/

/-- A port without its deferred-order slot and its outbound frames: the receiver, the order queue, the preface record. -/
def PortContext.inbound (c : PortContext) : PortContext :=
  { c with slot := none, outbound := [] }

theorem port_of_ord {s t : State} (h : t.ord = s.ord) (p : Port) : t.port p = s.port p := by
  simp only [State.port, h]

theorem port_modPort_eq (p q : Port) (f : PortContext → PortContext) (s : State) :
    (modPort p f s).port q = if q = p then f (s.port q) else s.port q := by
  split
  · next h => rw [h, port_modPort]
  · next h => exact port_modPort_ne f s h

/-- A change of slot or outbound frames alone leaves every port's inbound side. -/
theorem modPort_inbound {p : Port} {f : PortContext → PortContext} (h : ∀ c, (f c).inbound = c.inbound) (s : State)
    (q : Port) : ((modPort p f s).port q).inbound = (s.port q).inbound := by
  rw [port_modPort_eq]
  split
  · exact h _
  · rfl

@[simp] theorem pushFrame_inbound (p : Port) (r : OutFrame) (s : State) (q : Port) :
    ((pushFrame p r s).port q).inbound = (s.port q).inbound :=
  modPort_inbound (f := fun c => { c with outbound := c.outbound ++ [r] }) (fun _ => rfl) s q

@[simp] theorem pushReply_inbound (p : Port) (r : Reply) (s : State) (q : Port) :
    ((pushReply p r s).port q).inbound = (s.port q).inbound := pushFrame_inbound p (.reply r) s q

@[simp] theorem enterSlot_inbound (p : Port) (tag : Byte) (d : Deferred) (s : State) (q : Port) :
    ((enterSlot p tag d s).port q).inbound = (s.port q).inbound :=
  modPort_inbound (f := fun c => { c with slot := some ⟨tag, d, s.pth.standby⟩ }) (fun _ => rfl) s q

@[simp] theorem completeSlot_inbound (p : Port) (d : Deferred) (x : Status) (r : Slot → Results) (s : State) (q : Port) :
    ((completeSlot p d x r s).port q).inbound = (s.port q).inbound := by
  unfold completeSlot
  (repeat' split)
  · rfl
  · exact (pushReply_inbound ..).trans (modPort_inbound (f := fun c => { c with slot := none }) (fun _ => rfl) s q)
  · rfl

@[simp] theorem completePlan_inbound (d : Deferred) (x : Status) (s : State) (q : Port) :
    ((completePlan d x s).port q).inbound = (s.port q).inbound := completeSlot_inbound ..

@[simp] theorem completeSettle_inbound (s : State) (p q : Port) :
    ((completeSettle s p).port q).inbound = (s.port q).inbound := by
  unfold completeSettle
  dsimp only
  (repeat' split)
  · rfl
  · exact completeSlot_inbound ..
  · rfl

@[simp] theorem settleCheck_inbound (s : State) (q : Port) : ((settleCheck s).port q).inbound = (s.port q).inbound := by
  rcases settleCheck_cases s with ⟨-, h⟩ | ⟨-, h⟩ <;> rw [h]
  exact foldl_keeps (g := fun t : State => (t.port q).inbound) (fun t p => completeSettle_inbound t p q) _ _

@[simp] theorem startTransmitter_inbound (s t : State) (q : Port) :
    ((startTransmitter s t).port q).inbound = (t.port q).inbound := rfl

@[simp] theorem switchPlans_inbound (s : State) (q : Port) : ((switchPlans s).port q).inbound = (s.port q).inbound := by
  rw [port_of_ord (switchPlans_ord s)]

@[simp] theorem completeSwitch_inbound (s : State) (q : Port) :
    ((completeSwitch s).port q).inbound = (s.port q).inbound := by
  simp [completeSwitch]

@[simp] theorem examineSwitch_inbound (s : State) (q : Port) :
    ((examineSwitch s).port q).inbound = (s.port q).inbound := by
  rcases examineSwitch_cases s with ⟨-, -, -, h⟩ | h <;> simp [h]

@[simp] theorem moveTo_inbound (p : Nat) (s : State) (q : Port) : ((moveTo p s).port q).inbound = (s.port q).inbound := by
  rw [port_of_ord (moveTo_ord p s)]

@[simp] theorem retirePlan_inbound (s : State) (q : Port) : ((retirePlan s).port q).inbound = (s.port q).inbound := by
  have switched : ∀ t : State, ((if t.pth.pendingSwitch then completeSwitch t else t).port q).inbound
      = (t.port q).inbound := fun t => by split <;> simp
  have port : ∀ t : State, t.ord = s.ord → (t.port q).inbound = (s.port q).inbound := fun t h => by
    rw [port_of_ord h]
  unfold retirePlan
  refine (switched _).trans ?_
  split
  · rfl
  · exact port _ (by simp)

@[simp] theorem grantAuthority_inbound (cab : CabEnd) (s : State) (q : Port) :
    ((grantAuthority cab s).port q).inbound = (s.port q).inbound := by
  have offered : ((offerSettle .authority 10 (resetLever { s with aut := grantedAut cab s.aut })).port q).inbound
      = (s.port q).inbound := by
    rw [port_of_ord (s := s)]
    simp
  unfold grantAuthority
  dsimp only
  split
  · simpa using offered
  · exact offered

@[simp] theorem takeFix_inbound (junction : Nat) (s : State) (q : Port) :
    ((takeFix junction s).port q).inbound = (s.port q).inbound := by
  unfold takeFix
  (repeat' split)
  case h_2.isFalse => simp only [startTransmitter_inbound, settleCheck_inbound, moveTo_inbound]; rfl
  all_goals rfl

@[simp] theorem sendPicture_inbound (s : State) (q : Port) : ((sendPicture s).port q).inbound = (s.port q).inbound := by
  simp [sendPicture]

@[simp] theorem pictureClose_inbound (s : State) (q : Port) :
    ((pictureClose s).port q).inbound = (s.port q).inbound := by
  unfold pictureClose
  split
  · rfl
  · exact sendPicture_inbound _ q

@[simp] theorem countClose_inbound (s : State) (q : Port) : ((countClose s).port q).inbound = (s.port q).inbound := by
  have port : ∀ t : State, t.ord = (putConfigInForce s).ord → (t.port q).inbound = (s.port q).inbound := fun t h => by
    rw [port_of_ord h]
    rfl
  have before : ((closeBeforeEffort s).port q).inbound = (s.port q).inbound := by
    simp only [closeBeforeEffort, startTransmitter_inbound, settleCheck_inbound, examineSwitch_inbound]
    exact port _ (by simp)
  rw [countClose, pictureClose_inbound, port_of_ord (updateSand_ord _), port_of_ord (effClose_ord _), before]

theorem queue_of_inbound {c d : PortContext} (h : c.inbound = d.inbound) : c.queue = d.queue :=
  (congrArg PortContext.queue h :)

/-! ### Order queues (R182) -/

/-- At most 8 orders wait at each port (R182). -/
def State.ordersBounded (s : State) : Prop :=
  ∀ p : Port, (s.port p).queue.length ≤ 8

theorem State.ordersBounded.of_inbound {s t : State} (h : s.ordersBounded)
    (same : ∀ p, (t.port p).inbound = (s.port p).inbound) : t.ordersBounded := fun p => by
  rw [queue_of_inbound (same p)]
  exact h p

theorem State.ordersBounded.of_ports {s t : State} (h : s.ordersBounded) (same : t.ord.ports = s.ord.ports) :
    t.ordersBounded := fun p => by
  rw [State.port, same]
  exact h p

theorem State.ordersBounded.modPort {s : State} (h : s.ordersBounded) {p : Port} {f : PortContext → PortContext}
    (bound : (f (s.port p)).queue.length ≤ 8) : (modPort p f s).ordersBounded := fun q => by
  rw [port_modPort_eq]
  split
  · next same => exact same ▸ bound
  · exact h q

theorem State.ordersBounded.taken {s : State} (h : s.ordersBounded) (p : Port) : (s.taken p).ordersBounded := by
  refine h.modPort (f := fun c => { c with
    queue := c.queue.tail, headTicks := if c.queue = [] then c.headTicks else 0, preface := none }) ?_
  exact (List.length_tail.trans_le (Nat.sub_le ..)).trans (h p)

/-- The handling of an order leaves every port's inbound side; PREFACE sets its own port's record. -/
theorem handleOrder_inbound (p : Port) (tag : Byte) (o : Order) (s : State) (q : Port)
    (noPreface : q = p → ∀ c x y z, o ≠ .preface c x y z) :
    ((handleOrder p tag o s).1.port q).inbound = (s.port q).inbound := by
  have changes := handleOrder_changes p tag o s
  cases o with
  | claim =>
    simp only [handleOrder, handleClaim]
    (repeat' split) <;> simp
  | shift x =>
    simp only [handleOrder, handleShift]
    (repeat' split) <;> simp
  | planClear =>
    simp only [handleOrder, handlePlanClear]
    split
    · rfl
    · rw [enterSlot_inbound]
      exact congrArg _ (port_of_ord (by simp) q)
  | planSeal c k =>
    simp only [handleOrder, handlePlanSeal]
    (repeat' split)
    case isFalse.isFalse.isFalse =>
      rw [enterSlot_inbound]
      exact congrArg _ (port_of_ord (by simp) q)
    all_goals rfl
  | planWithdraw =>
    simp only [handleOrder, handlePlanWithdraw]
    split
    · exact completePlan_inbound ..
    · rfl
  | planSwitch =>
    simp only [handleOrder, handlePlanSwitch]
    (repeat' split)
    case isFalse.isFalse.isTrue => simp
    case isFalse.isFalse.isFalse => exact enterSlot_inbound ..
    all_goals rfl
  | preface c x y z =>
    have other : q ≠ p := fun same => noPreface same c x y z rfl
    simp only [handleOrder, handlePreface]
    split
    · rfl
    · rw [port_modPort_ne _ _ other]
  | settle =>
    simp only [handleOrder, handleSettle]
    (repeat' split)
    case isFalse.isTrue => exact enterSlot_inbound ..
    all_goals rfl
  | _ => exact congrArg PortContext.inbound (congrArg (fun t => t.ord.ports.get q) changes :)

/-- The handling of an order leaves every port's order queue. -/
theorem handleOrder_queue (p : Port) (tag : Byte) (o : Order) (s : State) (q : Port) :
    ((handleOrder p tag o s).1.port q).queue = (s.port q).queue := by
  cases o with
  | preface c x y z =>
    simp only [handleOrder, handlePreface]
    split
    · rfl
    · rw [port_modPort_eq]
      split <;> rfl
  | _ => exact queue_of_inbound (handleOrder_inbound p tag _ s q nofun)

theorem failOrder_inbound (p : Port) (tag : Byte) (o : Order) (x : Status) (s : State) (q : Port) :
    ((failOrder p tag o x s).port q).inbound = (s.port q).inbound := by
  unfold failOrder
  dsimp only
  rw [pushReply_inbound]
  split <;> rfl

theorem State.ordersBounded.takeOrder {s : State} (h : s.ordersBounded) (p : Port) (tag : Byte) (o : Order) :
    (takeOrder p tag o (handleOrder p tag o) s).ordersBounded := by
  rcases takeOrder_cases p tag o (handleOrder p tag o) s with e | ⟨-, x, -, e⟩ | ⟨-, -, e⟩ <;> rw [e]
  · exact h
  · exact (h.taken p).of_inbound (failOrder_inbound _ _ _ _ _)
  · refine State.ordersBounded.of_inbound (s := (handleOrder p tag o (s.taken p)).1) (fun q => ?_) (pushReply_inbound _ _ _)
    rw [handleOrder_queue]
    exact h.taken p q

theorem State.ordersBounded.frameArrives {s : State} (h : s.ordersBounded) (p : Port) (frame : List Byte) :
    (frameArrives p frame s).ordersBounded := by
  have answered : ∀ tag code x, (answerAtArrival p tag code x s).ordersBounded := fun tag code x =>
    h.of_inbound (pushReply_inbound p _ s)
  unfold Machine.frameArrives
  split
  · exact h
  · split
    · exact answered _ _ _
    · split
      · exact answered _ _ _
      · next room =>
        refine h.modPort ?_
        have room : (s.port p).queue.length < 8 := Nat.not_le.mp room
        simpa using room
  · exact h

theorem State.ordersBounded.byteArrives {s : State} (h : s.ordersBounded) (p : Port) (b : Byte) :
    (byteArrives p b s).ordersBounded := by
  have received : ∀ r n, (Machine.modPort p (fun c => { c with receiver := r, pause := n }) s).ordersBounded :=
    fun r n => h.modPort (f := fun c => { c with receiver := r, pause := n }) (h p)
  have cutOff : (Machine.modPort p cutOffReceiver s).ordersBounded := h.modPort (f := cutOffReceiver) (h p)
  unfold Machine.byteArrives
  split
  · split
    · exact received _ _
    · exact h
  · split
    · exact cutOff
    · exact received _ _
  · split
    · exact received _ _
    · exact cutOff.frameArrives p _

theorem State.ordersBounded.deliver {s : State} (h : s.ordersBounded) (f : InboundFields) :
    (deliver f s).ordersBounded := by
  have ord : ∀ t : State, t.ord = s.ord → t.ordersBounded := fun t same => h.of_ports (by rw [same])
  unfold Machine.deliver
  split
  · exact h.of_ports (congrArg (fun t => t.ord.ports) (receiveAccept_changes f.tram f.junction f.number s _ rfl) :)
  · unfold receiveSet
    split
    · exact (ord _ (takeSet_ord ..)).of_inbound (settleCheck_inbound _)
    · exact h
  · unfold receiveRefuse
    (repeat' split)
    case h_2.isTrue => exact (ord _ (takeRefuse_ord ..)).of_inbound (settleCheck_inbound _)
    all_goals exact h
  · exact h.of_ports (congrArg (fun t => t.ord.ports) (receiveLockLost_changes f.tram f.junction f.number s _ rfl) :)
  · unfold receiveFix
    split
    · exact h
    · exact h.of_inbound (takeFix_inbound _ _)
  · exact h

theorem State.ordersBounded.reset {s : State} (h : s.ord = .reset) : s.ordersBounded := fun p => by
  rw [State.port, h]
  cases p <;> decide

theorem restart_ordersBounded {s : State} (h : s.ordersBounded) (p : Port) (tag : Byte) :
    (takeRestart p tag s).ordersBounded := by
  have interrupted : ∀ u : State, (ordRestart u).ordersBounded := fun u q => by
    cases q <;> exact Nat.zero_le 8
  have blocks : ∀ u, (restartBlocks u).ordersBounded := fun u => by
    have ord : (restartBlocks u).ord = (ordRestart (pthRestart u)).ord := by simp [restartBlocks, autRestart]
    exact (interrupted (pthRestart u)).of_ports (by rw [ord])
  rcases takeRestart_cases p tag s with e | ⟨-, x, -, e⟩ | ⟨-, -, e⟩ <;> rw [e]
  · exact h
  · exact (h.taken p).of_inbound (failOrder_inbound _ _ _ _ _)
  · unfold handleRestart
    split
    · exact (h.taken p).of_inbound (pushReply_inbound _ _ _)
    · exact blocks _

theorem event_ordersBounded {c : Instr} {s t : State} (h : s.ordersBounded) (event : isEvent c = true)
    (next : exec c s = .next t) : t.ordersBounded := by
  have changes := exec_event_changes event next
  have ord : ∀ t : State, t.ord = s.ord → t.ordersBounded := fun t same => h.of_ports (by rw [same])
  cases c with
  | coldReset => exact Host.Outcome.next.inj next ▸ .reset (coldReset_ord s)
  | countClose => exact Host.Outcome.next.inj next ▸ h.of_inbound (countClose_inbound s)
  | exchangeTimerExpiry j =>
    exact Host.Outcome.next.inj next ▸ (ord _ (exchangeExpired_ord ..)).of_inbound (settleCheck_inbound _)
  | setLocked tram j n => exact Host.Outcome.next.inj next ▸ h.deliver ⟨5, tram, j, n, 0⟩
  | refuse tram j n q => exact Host.Outcome.next.inj next ▸ h.deliver ⟨6, tram, j, n, q⟩
  | fix j => exact Host.Outcome.next.inj next ▸ h.deliver ⟨8, 0, j, 0, 0⟩
  | frameArrival p frame => exact Host.Outcome.next.inj next ▸ h.frameArrives p frame
  | orderFrameCutOff p => exact Host.Outcome.next.inj next ▸ h.modPort (h p)
  | orderLinkByteArrival p b => exact Host.Outcome.next.inj next ▸ h.byteArrives p b
  | outboundFrameSent p => exact Host.Outcome.next.inj next ▸ h.modPort (h p)
  | inboundLineChange x =>
    obtain ⟨y, -, e | ⟨f, e⟩⟩ := lineChange_delivers x s
    · exact Host.Outcome.next.inj next ▸ ord _ (by rw [e])
    · exact Host.Outcome.next.inj next ▸ e ▸ State.ordersBounded.deliver (s := { s with loop := y }) h f
  | planClearCompletion =>
    refine Host.Outcome.next.inj next ▸ ?_
    unfold completeClear
    split
    · exact (ord _ (clearBank_ord ..)).of_inbound (completePlan_inbound _ _ _)
    · exact h
  | planSealCompletion =>
    refine Host.Outcome.next.inj next ▸ ?_
    unfold completeSeal
    dsimp only
    split
    · exact (ord _ (by simp)).of_inbound (completePlan_inbound _ _ _)
    · exact h
  | axlePulse | emergencyInput | buttonSample | buttonStuck | rampStowedChange | handoverTimerExpiry
  | silenceTimerExpiry | vigilanceTimerExpiry | stepExpiry | bellStrokeEnd | hornMinimum | gapEnd
  | transmissionCompletion | inboundFrameCutOff | inboundGapEnd | accept | lockLost | outboundBitTime =>
    exact h.of_ports (congrArg (fun t => t.ord.ports) changes :)
  | _ => cases event

end Sys2Proof.Machine
end

section
/-! PROOF. The bounds of the queues and lists across every command and tick (R101, R109, R147, R182): LOOP's queue, the
channels and the settle lists. -/

namespace Sys2Proof.Machine

/-! ### What leaves the queues and lists -/

theorem State.Tidy.raiseStop {s : State} (h : s.Tidy) (k : FaultKind) (key : FaultKey) : (raiseStop k key s).Tidy :=
  h.of_same (by simp) (by simp) (by simp)

theorem State.Tidy.raiseRestrict {s : State} (h : s.Tidy) (k : FaultKind) (key : FaultKey) :
    (raiseRestrict k key s).Tidy :=
  h.of_same rfl rfl rfl

theorem State.Tidy.offerAuthority {s : State} (h : s.Tidy) (cab : CabEnd) : (offerAuthority cab s).Tidy := by
  unfold Machine.offerAuthority
  exact (h.of_same (by simp) (by simp) (by simp)).forceLetGo

theorem State.Tidy.reportKey {s : State} (h : s.Tidy) (cab : CabEnd) (on : Bool) : (reportKey cab on s).Tidy := by
  have aut : ∀ x : Aut, ({ s with aut := x } : State).Tidy := fun x => h.of_same rfl rfl rfl
  unfold Machine.reportKey keyEffect
  (repeat' split)
  · exact h
  · exact aut _
  · exact (aut _).offerAuthority cab
  · exact State.Tidy.raiseStop (s := { s with aut := { s.aut with keys := s.aut.keys.set cab on, keyLost := true } }) (aut _) ..
  · exact aut _

theorem State.Tidy.endKeyLost {s : State} (h : s.Tidy) : (endKeyLost s).Tidy := by
  unfold Machine.endKeyLost
  (repeat' split)
  · exact h.offerAuthority _
  · exact h
  · exact h

/-! ### Doors and buttons -/

theorem State.Tidy.secureTram {s : State} (h : s.Tidy) (bell : Bool) : (secureTram bell s).Tidy := by
  have secured : (offerSettle .doors 5 { s with stp.dwell := .running, stp.dwellRecord := none }).Tidy :=
    h.of_same (by simp) (by simp) (by simp)
  unfold Machine.secureTram
  dsimp only
  split
  · exact secured.askSound (by decide) (by decide)
  · exact secured

theorem State.Tidy.foundOpen {s : State} (h : s.Tidy) : (foundOpen s).Tidy := by
  unfold Machine.foundOpen
  split
  · exact h.of_same rfl rfl rfl
  · exact h.raiseStop ..

theorem State.Tidy.endClosing {s : State} (h : s.Tidy) : (endClosing s).Tidy := by
  unfold Machine.endClosing
  split
  · split
    · exact h.secureTram true
    · exact h.secureTram false
    · exact h
    · exact h
  · exact h

theorem State.Tidy.doorReport {s : State} (h : s.Tidy) (locked : Bool) : (doorReport locked s).Tidy := by
  have reported : ({ s with stp.doorsLocked := locked } : State).Tidy := h.of_same rfl rfl rfl
  unfold Machine.doorReport
  dsimp only
  (repeat' split)
  · exact reported.endClosing
  · exact reported.foundOpen
  · exact reported

theorem State.Tidy.rampChange {s : State} (h : s.Tidy) (stowed : Bool) : (rampChange stowed s).Tidy := by
  have moved : ({ s with stp.rampStowed := stowed } : State).Tidy := h.of_same rfl rfl rfl
  unfold Machine.rampChange
  dsimp only
  (repeat' split)
  · exact h
  · exact moved.endClosing
  · exact moved.foundOpen
  · exact moved

theorem State.Tidy.pressButton {s : State} (h : s.Tidy) (n : Nat) : (pressButton n s).Tidy := by
  have request : ∀ r, ({ s with stp.request := r } : State).Tidy := fun r => h.of_same rfl rfl rfl
  unfold Machine.pressButton registerPress
  dsimp only
  (repeat' split)
  case h_1.isTrue => exact ((request _).askSound (by decide) (by decide)).askSound (by decide) (by decide)
  case h_1.isFalse => exact (request _).askSound (by decide) (by decide)
  case h_2.isTrue => exact (request _).askSound (by decide) (by decide)
  case h_2.isFalse => exact request _
  case isFalse => exact h

theorem State.Tidy.stickButton {s : State} (h : s.Tidy) (n : Nat) : (stickButton n s).Tidy :=
  h.of_same (by simp) (by simp) (by simp)

theorem State.Tidy.sampleButtons {s : State} (h : s.Tidy) (levels : List Bool) : (sampleButtons levels s).Tidy := by
  refine State.Tidy.foldl (fun t n tidy => tidy.stickButton n) _ (State.Tidy.foldl (fun t n tidy => tidy.pressButton n) _ ?_)
  exact h.of_same rfl rfl rfl

/-! ### The banks -/

theorem State.Tidy.of_cleared {s t : State} (h : s.Tidy) {f : QueuedTelegram → QueuedTelegram}
    (same : ∀ q, (f q).telegram = q.telegram) (loop : t.loop.queue = s.loop.queue.map f) (snd : t.snd = s.snd)
    (jct : t.jct = s.jct) : t.Tidy := by
  refine h.of_loop ⟨?_, ?_⟩ snd jct <;> rw [loop]
  · simpa using h.loop.length
  · simpa [Function.comp_def, same] using h.loop.junctions

theorem State.Tidy.forgetEntry {s : State} (h : s.Tidy) (b : BankName) (i : Nat) : (forgetEntry b i s).Tidy :=
  h.of_cleared (f := fun q => if q.bank = b ∧ q.index = i then { q with entryStands := false } else q)
    (fun q => by split <;> rfl) rfl rfl rfl

theorem State.Tidy.forgetEntriesFrom {s : State} (h : s.Tidy) (b : BankName) (i : Nat) :
    (forgetEntriesFrom b i s).Tidy :=
  h.of_cleared (f := fun q => if q.bank = b ∧ i ≤ q.index then { q with entryStands := false } else q)
    (fun q => by split <;> rfl) rfl rfl rfl

theorem State.Tidy.setBank {s : State} (h : s.Tidy) (b : BankName) (x : Bank) : (s.setBank b x).Tidy :=
  h.of_same (by simp) (by simp) (by simp)

theorem State.Tidy.enterSlot {s : State} (h : s.Tidy) (p : Port) (tag : Byte) (d : Deferred) : (enterSlot p tag d s).Tidy :=
  h.of_same (by simp) (by simp) (by simp)

theorem State.Tidy.pushReply {s : State} (h : s.Tidy) (p : Port) (r : Reply) : (pushReply p r s).Tidy :=
  h.of_same (by simp) (by simp) (by simp)

theorem State.Tidy.completePlan {s : State} (h : s.Tidy) (d : Deferred) (x : Status) : (completePlan d x s).Tidy :=
  h.of_same (by simp) (by simp) (by simp)

/-! ### Orders -/

/-- The handling of an order keeps the bounds of LOOP's queue, the channels and the settle lists. -/
theorem State.Tidy.handleOrder {s : State} (h : s.Tidy) (p : Port) (tag : Byte) (o : Order) :
    (handleOrder p tag o s).1.Tidy := by
  have changes := handleOrder_changes p tag o s
  have manual : ∀ c operand, (handleManual c operand s).1.Tidy := fun c operand => by
    unfold handleManual
    split
    · exact h
    · exact h.modChannel c fun _ bounded => bounded.holdChannel ..
    · exact h.modChannel c fun _ bounded => bounded.letGoChannel ..
  cases o with
  | key k =>
    simp only [Machine.handleOrder, handleKey]
    split
    · exact h.reportKey ..
    · exact h
  | claim =>
    simp only [Machine.handleOrder, handleClaim]
    (repeat' split)
    case h_2.isFalse.isFalse.isFalse.isFalse => exact h.grantAuthority _
    all_goals exact h
  | bell x => exact manual .bell x
  | horn x => exact manual .horn x
  | sound n =>
    simp only [Machine.handleOrder, handleSound]
    split
    · exact h
    · next range => exact h.askSound (Nat.not_lt.mp fun low => range (.inl low)) (Nat.not_lt.mp fun high => range (.inr high))
  | soundBreak c =>
    simp only [Machine.handleOrder, handleSoundBreak]
    split
    · exact h
    · exact h.modChannel _ fun x _ => ChannelRecord.bounded_of_empty (breakChannel_queue x)
  | level x =>
    simp only [Machine.handleOrder, handleLevel]
    split
    · exact h
    · exact ⟨h.loop, h.channels, h.lists⟩
  | retry j =>
    simp only [Machine.handleOrder, handleRetry]
    (repeat' split)
    case h_2.isFalse.isFalse => exact ((h.modJunction ..).makeOffer ..).startTransmitter
    all_goals exact h
  | shift x =>
    simp only [Machine.handleOrder, handleShift]
    (repeat' split)
    case isFalse.isFalse => exact (h.moveTo _).settleCheck.startTransmitter
    all_goals exact h
  | planPut w =>
    simp only [Machine.handleOrder, handlePlanPut]
    (repeat' split)
    case h_2 => exact (h.setBank ..).forgetEntry ..
    all_goals exact h
  | planSwitch =>
    simp only [Machine.handleOrder, handlePlanSwitch]
    (repeat' split)
    case isFalse.isFalse.isTrue => exact h.switchPlans.settleCheck.startTransmitter
    case isFalse.isFalse.isFalse => exact State.Tidy.enterSlot (s := { s with pth.pendingSwitch := true }) (h.of_same rfl rfl rfl) ..
    all_goals exact h
  | doorState x => exact h.doorReport _
  | forceRelease =>
    simp only [Machine.handleOrder, handleForceRelease]
    (repeat' split)
    case isFalse.isFalse => exact (h.of_same (by simp) (by simp) (by simp) : (vacate s).Tidy).forceLetGo
    all_goals exact h
  | settle =>
    simp only [Machine.handleOrder, handleSettle]
    (repeat' split)
    · exact h
    · exact h.enterSlot ..
    · refine ⟨h.loop, h.channels, fun q => ?_⟩
      simp only [perPort_get_set]
      split
      · exact ⟨Nat.zero_le 8, List.nodup_nil⟩
      · exact h.lists q
  | _ =>
    exact h.of_same (congrArg (fun t => t.loop.queue) changes :) (congrArg State.snd changes :) (congrArg State.jct changes :)

theorem State.Tidy.failOrder {s : State} (h : s.Tidy) (p : Port) (tag : Byte) (o : Order) (x : Status) :
    (failOrder p tag o x s).Tidy :=
  h.of_same (by rw [failOrder_changes]) (by rw [failOrder_changes]) (by rw [failOrder_changes])

theorem State.Tidy.takeOrder {s : State} (h : s.Tidy) (p : Port) (tag : Byte) (o : Order) :
    (takeOrder p tag o (Machine.handleOrder p tag o) s).Tidy := by
  have taken : (s.taken p).Tidy := h.of_same rfl rfl rfl
  rcases takeOrder_cases p tag o (Machine.handleOrder p tag o) s with e | ⟨-, x, -, e⟩ | ⟨-, -, e⟩ <;> rw [e]
  · exact h
  · exact taken.failOrder ..
  · exact (taken.handleOrder p tag o).pushReply ..

/-! ### RESTART (R105, R119, R161) -/

theorem State.Tidy.remakeTelegram {s : State} (h : s.Tidy) (q : QueuedTelegram) : (remakeTelegram q s).Tidy := by
  unfold Machine.remakeTelegram
  (repeat' split)
  · exact h
  · exact h.modJunction ..
  · exact h

theorem State.Tidy.jctRestart {s : State} (h : s.Tidy) (removed : List QueuedTelegram) : (jctRestart removed s).Tidy := by
  have remade : (removed.foldl (fun s q => Machine.remakeTelegram q s) s).Tidy :=
    h.foldl (fun t q tidy => tidy.remakeTelegram q) _
  unfold Machine.jctRestart
  dsimp only
  split
  · exact remade.reoffer
  · exact (remade.foldl (fun t x tidy => tidy.modJunction ..) _).reoffer

/-- RESTART silences the channels and empties LOOP's queue before the due heads are offered; the settle lists stay. -/
theorem State.Tidy.restartBlocks {s : State} (h : s.Tidy) : (restartBlocks s).Tidy := by
  let t := effRestart (autRestart (ordRestart (pthRestart s)))
  have restarted := pthRestart_changes s _ rfl
  have snd : t.snd = s.snd := (effRestart_snd _).trans (congrArg State.snd restarted :)
  have jct : t.jct = s.jct := (effRestart_jct _).trans (congrArg State.jct restarted :)
  have emptied : (loopRestart t).Tidy := h.of_loop ⟨Nat.zero_le 8, List.nodup_nil⟩ snd jct
  have offered := emptied.jctRestart t.loop.queue
  have silent : ∀ x, (stopChannel x).Bounded := fun x => ChannelRecord.bounded_of_empty rfl
  exact ⟨offered.loop, fun c => by cases c <;> exact silent _, offered.lists⟩

theorem State.Tidy.takeRestart {s : State} (h : s.Tidy) (p : Port) (tag : Byte) : (takeRestart p tag s).Tidy := by
  have taken : (s.taken p).Tidy := h.of_same rfl rfl rfl
  rcases takeRestart_cases p tag s with e | ⟨-, x, -, e⟩ | ⟨-, -, e⟩ <;> rw [e]
  · exact h
  · exact taken.failOrder ..
  · unfold handleRestart
    split
    · exact taken.pushReply ..
    · exact (taken.pushReply ..).restartBlocks

/-! ### The inbound telegrams, the count close and the other events -/

theorem State.Tidy.deliver {s : State} (h : s.Tidy) (f : InboundFields) : (deliver f s).Tidy := by
  unfold Machine.deliver
  split
  · have changes := receiveAccept_changes f.tram f.junction f.number s _ rfl
    exact h.of_same (congrArg (fun t => t.loop.queue) changes :) (congrArg State.snd changes :) (congrArg State.jct changes :)
  · unfold receiveSet
    split
    · exact State.Tidy.settleCheck (h.of_same (by simp) (by simp) (by simp))
    · exact h
  · have refused : ∀ r, (takeRefuse f.junction.toNat f.number r s).Tidy := fun r => by
      unfold takeRefuse
      (repeat' split)
      case h_2.isTrue => exact ((h.modJunction ..).raiseNotice ..).offerToLists _
      all_goals exact h
    unfold receiveRefuse
    (repeat' split)
    case h_2.isTrue => exact (refused _).settleCheck
    all_goals exact h
  · unfold receiveLockLost takeLockLost raiseLockLost
    (repeat' split)
    case h_2.isTrue.isTrue => exact ((h.modJunction ..).offerToLists _).raiseStop ..
    case h_2.isTrue.isFalse => exact ((h.modJunction ..).offerToLists _).raiseRestrict ..
    all_goals exact h
  · unfold receiveFix
    split
    · exact h
    · exact h.takeFix _
  · exact h

theorem State.Tidy.setEmergency {s : State} (h : s.Tidy) (seen1 seen2 : Bool) : (setEmergency seen1 seen2 s).Tidy := by
  unfold Machine.setEmergency
  refine State.Tidy.askSound ?_ (by decide) (by decide)
  (repeat' split) <;> exact h.of_same rfl rfl rfl

theorem State.Tidy.runEffort {s : State} (h : s.Tidy) (seen1 seen2 : Bool) : (runEffort seen1 seen2 s).Tidy := by
  unfold Machine.runEffort
  (repeat' split)
  · exact h.of_same (by simp) (by simp) (by simp)
  · exact h.of_same rfl rfl rfl
  · exact (h.setEmergency seen1 seen2).of_same rfl rfl rfl
  · exact h.of_same (by simp) (by simp) (by simp)

theorem State.Tidy.haltEmergency {s : State} (h : s.Tidy) (seen1 seen2 : Bool) :
    (haltEmergency seen1 seen2 s).Tidy := by
  unfold Machine.haltEmergency
  (repeat' split)
  · exact h.of_same (by simp) (by simp) (by simp)
  · exact h
  · exact h.setEmergency seen1 seen2
  · exact h

theorem State.Tidy.effClose {s : State} (h : s.Tidy) : (effClose s).Tidy := by
  have formed : (formCap (clearCaptures s)).Tidy := h.of_same rfl rfl rfl
  unfold Machine.effClose
  dsimp only
  (repeat' split)
  · exact State.Tidy.of_same (t := unconfiguredClose _ _) formed rfl rfl rfl
  · exact State.Tidy.of_same (t := haltClose _ _ _) (formed.haltEmergency ..) rfl rfl rfl
  · have coded : (setCodes (Machine.runEffort (s.seenActive .one) (s.seenActive .two) (formCap (clearCaptures s)))).Tidy :=
      (formed.runEffort ..).of_same rfl rfl rfl
    exact coded.of_same (by simp [runClose]) (by simp [runClose]) (by simp [runClose])

theorem State.Tidy.countClose {s : State} (h : s.Tidy) : (countClose s).Tidy := by
  have closed : (axlClose (putConfigInForce s)).Tidy := h.of_same (by simp) (by simp) (by simp)
  have checked : (dwellCheck (autClose (Machine.advancePosition (axlClose (putConfigInForce s))))).Tidy :=
    closed.advancePosition.endKeyLost.of_same (by simp [autClose]) (by simp [autClose]) (by simp [autClose])
  have before : (closeBeforeEffort s).Tidy := checked.examineSwitch.settleCheck.startTransmitter
  exact before.effClose.of_same (by simp [Machine.countClose]) (by simp [Machine.countClose]) (by simp [Machine.countClose])

theorem State.Tidy.completeTransmission {s : State} (h : s.Tidy) : (completeTransmission s).Tidy := by
  have ended : ({ s with loop := endTransmission s.loop } : State).Tidy :=
    h.of_loop (h.loop.of_sublist (List.tail_sublist _)) rfl rfl
  unfold Machine.completeTransmission
  split
  · refine State.Tidy.reoffer ?_
    split
    · exact ended.of_same (by simp) (by simp) (by simp)
    · exact ended
  · exact h

theorem driveBit_queue (b : Bool) (x : Loop) : (driveBit b x).queue = x.queue := by
  unfold driveBit
  split <;> rfl

theorem gapEnded_queue (x : Loop) : (gapEnded x).queue = x.queue := by
  unfold gapEnded beginSending
  (repeat' split)
  case h_2 => exact driveBit_queue ..
  all_goals rfl

theorem cutOffDecoder_queue (x : Loop) : (cutOffDecoder x).queue = x.queue := by
  unfold cutOffDecoder
  split <;> rfl

theorem endInboundGap_queue (x : Loop) : (endInboundGap x).queue = x.queue := by
  unfold endInboundGap
  split <;> rfl

theorem sendNextBit_queue (x : Loop) : (sendNextBit x).queue = x.queue := by
  unfold sendNextBit
  (repeat' split)
  · exact driveBit_queue ..
  · rfl
  · rfl

theorem State.Tidy.exchangeExpired {s : State} (h : s.Tidy) (junction : Nat) : (exchangeExpired junction s).Tidy := by
  unfold Machine.exchangeExpired
  (repeat' split)
  case h_2.isTrue => exact ((h.modJunction ..).raiseRestrict ..).offerToLists _
  all_goals exact h

theorem event_tidy {c : Instr} {s t : State} (h : s.Tidy) (event : isEvent c = true) (next : exec c s = .next t) :
    t.Tidy := by
  have changes := exec_event_changes event next
  have line : ∀ x : Loop, x.queue = s.loop.queue → ({ s with loop := x } : State).Tidy :=
    fun x queue => h.of_same queue rfl rfl
  cases c with
  | coldReset =>
    refine Host.Outcome.next.inj next ▸ ?_
    rw [coldReset_eq]
    exact ⟨⟨Nat.zero_le 8, List.nodup_nil⟩, fun c => by cases c <;> exact ChannelRecord.bounded_of_empty rfl,
      fun p => by cases p <;> exact ⟨Nat.zero_le 8, List.nodup_nil⟩⟩
  | countClose => exact Host.Outcome.next.inj next ▸ h.countClose
  | buttonSample levels => exact Host.Outcome.next.inj next ▸ h.sampleButtons levels
  | rampStowedChange x => exact Host.Outcome.next.inj next ▸ h.rampChange x
  | silenceTimerExpiry =>
    refine Host.Outcome.next.inj next ▸ ?_
    unfold silenceExpired
    (repeat' split)
    case h_2.isTrue => exact State.Tidy.forceLetGo (h.of_same (by simp) (by simp) (by simp))
    all_goals exact h
  | stepExpiry c =>
    exact Host.Outcome.next.inj next ▸ h.modChannel c fun _ bounded => bounded.stepExpired c s.snd.night
  | bellStrokeEnd => exact Host.Outcome.next.inj next ▸ h.modChannel .bell fun _ bounded => bounded.strokeEnded s.snd.night
  | hornMinimum => exact Host.Outcome.next.inj next ▸ h.modChannel .horn fun _ bounded => bounded.minimumReached s.snd.night
  | gapEnd => exact Host.Outcome.next.inj next ▸ line _ (gapEnded_queue _)
  | outboundBitTime => exact Host.Outcome.next.inj next ▸ line _ (sendNextBit_queue _)
  | inboundFrameCutOff => exact Host.Outcome.next.inj next ▸ line _ (cutOffDecoder_queue _)
  | inboundGapEnd => exact Host.Outcome.next.inj next ▸ line _ (endInboundGap_queue _)
  | transmissionCompletion => exact Host.Outcome.next.inj next ▸ h.completeTransmission
  | setLocked tram j n => exact Host.Outcome.next.inj next ▸ h.deliver ⟨5, tram, j, n, 0⟩
  | exchangeTimerExpiry j => exact Host.Outcome.next.inj next ▸ (h.exchangeExpired j).settleCheck
  | refuse tram j n q => exact Host.Outcome.next.inj next ▸ h.deliver ⟨6, tram, j, n, q⟩
  | lockLost tram j n => exact Host.Outcome.next.inj next ▸ h.deliver ⟨7, tram, j, n, 0⟩
  | fix j => exact Host.Outcome.next.inj next ▸ h.deliver ⟨8, 0, j, 0, 0⟩
  | inboundLineChange x =>
    obtain ⟨y, queue, e | ⟨f, e⟩⟩ := lineChange_delivers x s
    · exact Host.Outcome.next.inj next ▸ e ▸ line y queue
    · exact Host.Outcome.next.inj next ▸ e ▸ (line y queue).deliver f
  | planClearCompletion =>
    refine Host.Outcome.next.inj next ▸ ?_
    unfold completeClear clearBank
    split
    · exact ((h.setBank ..).forgetEntriesFrom ..).completePlan ..
    · exact h
  | planSealCompletion =>
    refine Host.Outcome.next.inj next ▸ ?_
    unfold completeSeal
    dsimp only
    split
    · exact ((h.setBank ..).forgetEntriesFrom ..).completePlan ..
    · exact h
  | _ => exact h.of_same (congrArg (fun t => t.loop.queue) changes :) (congrArg State.snd changes :) (congrArg State.jct changes :)

/-! ### The step -/

theorem State.Tidy.tick {s : State} (h : s.Tidy) : (tick s).Tidy := by
  have changes := advanceExchanges_changes s
  refine ⟨⟨?_, ?_⟩, fun c => ?_, fun p => ?_⟩
  · exact (congrArg (fun t => t.loop.queue) changes :) ▸ h.loop.length
  · exact (congrArg (fun t => t.loop.queue) changes :) ▸ h.loop.junctions
  · have snd : (advanceExchanges s).snd = s.snd := (congrArg State.snd changes :)
    have advanced : ((Machine.tick s).snd.channel c) = advanceChannel ((advanceExchanges s).snd.channel c) := by
      cases c <;> rfl
    rw [advanced, snd]
    exact (h.channels c).advanceChannel
  · exact (congrArg State.jct changes :) ▸ h.lists p

theorem exec_tidy {c : Instr} {s t : State} (h : s.Tidy) (next : exec c s = .next t) : t.Tidy := by
  rcases instr_cases c with event | ⟨p, tag, rfl⟩ | ⟨p, q, other, rfl⟩
  · exact event_tidy h event next
  · exact Host.Outcome.next.inj next ▸ h.takeRestart p tag
  · rw [exec_takingCommand p q s other] at next
    exact Host.Outcome.next.inj next ▸ h.takeOrder p q.tag q.order

theorem exec_ordersBounded {c : Instr} {s t : State} (h : s.ordersBounded) (next : exec c s = .next t) :
    t.ordersBounded := by
  rcases instr_cases c with event | ⟨p, tag, rfl⟩ | ⟨p, q, other, rfl⟩
  · exact event_ordersBounded h event next
  · exact Host.Outcome.next.inj next ▸ restart_ordersBounded h p tag
  · rw [exec_takingCommand p q s other] at next
    exact Host.Outcome.next.inj next ▸ h.takeOrder p q.tag q.order

theorem tick_ordersBounded {s : State} (h : s.ordersBounded) : (tick s).ordersBounded := fun p => by
  have ports : (advanceExchanges s).ord.ports = s.ord.ports :=
    (congrArg (fun t => t.ord.ports) (advanceExchanges_changes s) :)
  have advanced : (tick s).port p = advancePort ((advanceExchanges s).ord.ports.get p) := by cases p <;> rfl
  rw [advanced, ports]
  exact h p

theorem queuesBounded_iff {s : State} : s.queuesBounded ↔ s.ordersBounded ∧ s.Tidy := by
  constructor
  · rintro ⟨orders, length, junctions, lists, channels⟩
    exact ⟨orders, ⟨length, junctions⟩, fun c => ⟨(channels c).1, (channels c).2.1, (channels c).2.2.1, (channels c).2.2.2⟩,
      fun p => ⟨(lists p).1, (lists p).2⟩⟩
  · rintro ⟨orders, ⟨length, junctions⟩, channels, lists⟩
    exact ⟨orders, length, junctions, fun p => ⟨(lists p).length, (lists p).once⟩,
      fun c => ⟨(channels c).length, (channels c).once, (channels c).programs, (channels c).idle⟩⟩

/-- Settles O55: each command and tick keeps the order queues, LOOP's queue, the channels and the settle lists in
bounds. -/
theorem everyStepKeepsTheQueueBounds : Obligations.EveryStepKeepsTheQueueBounds := by
  unfold Obligations.EveryStepKeepsTheQueueBounds
  intro s t bounded stepped
  obtain ⟨orders, tidy⟩ := queuesBounded_iff.mp bounded
  rcases step_cases stepped with rfl | ⟨c, rest, h⟩
  · exact queuesBounded_iff.mpr ⟨tick_ordersBounded orders, tidy.tick⟩
  · have tidy : ({ s with pending := rest } : State).Tidy := tidy.of_same rfl rfl rfl
    exact queuesBounded_iff.mpr ⟨exec_ordersBounded (s := { s with pending := rest }) orders h, exec_tidy tidy h⟩

end Sys2Proof.Machine
end

section
/-! PROOF. What the orders and events of the sounders do (R146 to R158). -/

namespace Sys2Proof.Machine

/-! ### An order that is ready is answered -/

/-- An order that is ready is handled and answered (R182, R183). -/
theorem exec_ready {s : State} {p : Port} {tag : Byte} {o : Order} (ready : s.ready p tag o) (other : o ≠ .restart) :
    exec (takingCommand p ⟨tag, o⟩) s = .next (pushReply p (replyTo tag o (handleOrder p tag o (s.taken p)).2)
      (handleOrder p tag o (s.taken p)).1) := by
  rw [exec_takingCommand p ⟨tag, o⟩ s other]
  exact congrArg Host.Outcome.next (takeOrder_ready ready)

/-- A ready order whose handling gives this state and this FINAL answer. -/
theorem exec_final {s t : State} {p : Port} {tag : Byte} {o : Order} {x : Status} {r : Results}
    (ready : s.ready p tag o) (other : o ≠ .restart)
    (handled : handleOrder p tag o (s.taken p) = (t, { status := x, stage := .final, results := r })) :
    exec (takingCommand p ⟨tag, o⟩) s = .next (t.sent p (finalReply tag o x r)) := by
  rw [exec_ready ready other, handled]
  rfl

/-- A ready order whose handling gives this state and an acceptance. -/
theorem exec_accepted {s t : State} {p : Port} {tag : Byte} {o : Order} {r : Results}
    (ready : s.ready p tag o) (other : o ≠ .restart)
    (handled : handleOrder p tag o (s.taken p) = (t, acceptedWith r)) :
    exec (takingCommand p ⟨tag, o⟩) s = .next (t.sent p (acceptance tag o r)) := by
  rw [exec_ready ready other, handled]
  rfl

/-! ### A frame made for a port -/

@[simp] theorem sent_aut (s : State) (p : Port) (f : OutFrame) : (s.sent p f).aut = s.aut := rfl
@[simp] theorem sent_axl (s : State) (p : Port) (f : OutFrame) : (s.sent p f).axl = s.axl := rfl
@[simp] theorem sent_pth (s : State) (p : Port) (f : OutFrame) : (s.sent p f).pth = s.pth := rfl
@[simp] theorem sent_eff (s : State) (p : Port) (f : OutFrame) : (s.sent p f).eff = s.eff := rfl
@[simp] theorem sent_jct (s : State) (p : Port) (f : OutFrame) : (s.sent p f).jct = s.jct := rfl
@[simp] theorem sent_loop (s : State) (p : Port) (f : OutFrame) : (s.sent p f).loop = s.loop := rfl
@[simp] theorem sent_stp (s : State) (p : Port) (f : OutFrame) : (s.sent p f).stp = s.stp := rfl
@[simp] theorem sent_snd (s : State) (p : Port) (f : OutFrame) : (s.sent p f).snd = s.snd := rfl
@[simp] theorem sent_flt (s : State) (p : Port) (f : OutFrame) : (s.sent p f).flt = s.flt := rfl

@[simp] theorem sent_outbound (s : State) (p : Port) (f : OutFrame) :
    ((s.sent p f).port p).outbound = (s.port p).outbound ++ [f] := by
  cases p <;> rfl

@[simp] theorem sent_slot (s : State) (p : Port) (f : OutFrame) : ((s.sent p f).port p).slot = (s.port p).slot := by
  cases p <;> rfl

@[simp] theorem taken_outbound (s : State) (p : Port) : ((s.taken p).port p).outbound = (s.port p).outbound := by
  cases p <;> rfl

@[simp] theorem taken_slot (s : State) (p : Port) : ((s.taken p).port p).slot = (s.port p).slot := by
  cases p <;> rfl

/-- The frames after a reply, where nothing before it has touched the ports. -/
theorem sent_outbound_of_ports {s t : State} {p : Port} (f : OutFrame) (same : t.ord.ports = (s.taken p).ord.ports) :
    ((t.sent p f).port p).outbound = (s.port p).outbound ++ [f] := by
  rw [sent_outbound, State.port, same]
  exact congrArg (· ++ [f]) (taken_outbound s p)

/-! ### A channel's pieces -/

theorem driveFull_eq (c : Channel) (night : Bool) : driveFull c night = (c == .horn || !night) := by
  cases c <;> rfl

theorem startProgramStep_of_some {c : Channel} {night : Bool} {n k : Nat} {m : Bool} {x : ChannelRecord} {tone : Tone}
    {time : Nat} (step : (programSteps n)[k - 1]? = some (tone, time)) :
    startProgramStep c night n k m x
      = { x with state := .program n k time m, tone := tone, full := (c == .horn || !night) } := by
  unfold startProgramStep
  rw [step, ← driveFull_eq]

theorem takeUp_empty {c : Channel} {night : Bool} {x : ChannelRecord} (empty : x.queue = []) :
    takeUp c night x = { x with state := .idle, tone := .off } := by
  unfold takeUp
  rw [empty]

theorem takeUp_cons {c : Channel} {night : Bool} {x : ChannelRecord} {n : Nat} {rest : List Nat} {tone : Tone}
    {time : Nat} (queue : x.queue = n :: rest) (step : (programSteps n)[0]? = some (tone, time)) :
    takeUp c night x = { x with
      state := .program n 1 time false, queue := rest, tone := tone, full := (c == .horn || !night) } := by
  unfold takeUp
  rw [queue]
  exact startProgramStep_of_some step

/-- The outcome of a request, with what becomes of the channel (R147). -/
theorem requestOn_of_outcome {c : Channel} {night : Bool} {n : Nat} {x y : ChannelRecord} {k : SoundOutcome}
    (outcome : (k = .merged ∧ y = x ∧ (n ∈ x.queue ∨ ∃ step left, x.state = .program n step left false))
      ∨ (k = .queued ∧ x.state ≠ .idle ∧ n ∉ x.queue ∧ x.queue.length < 4
          ∧ (∀ step left, x.state ≠ .program n step left false) ∧ y = { x with queue := x.queue ++ [n] })
      ∨ (∃ tone time, k = .started ∧ x.state = .idle ∧ x.queue = [] ∧ (programSteps n)[0]? = some (tone, time)
          ∧ y = { x with state := .program n 1 time false, tone := tone, full := (c == .horn || !night) })) :
    requestOn c night n x = (y, k) := by
  rcases outcome with ⟨rfl, rfl, queued | ⟨step, left, state⟩⟩ | ⟨rfl, sounds, new, room, other, rfl⟩
    | ⟨tone, time, rfl, idle, empty, first, rfl⟩
  · unfold requestOn
    split <;> simp [queued]
  · simp [requestOn, state]
  · rcases requestOn_cases c night n x with e | ⟨-, full, -⟩ | ⟨-, -, idle, -⟩ | ⟨-, -, -, e⟩
    · have room : ¬ 4 ≤ x.queue.length := Nat.not_le.mpr room
      unfold requestOn
      split
      · next m step left mark state =>
        have differs : ¬ (m = n ∧ mark = false) := by
          rintro ⟨rfl, rfl⟩
          exact other _ _ state
        simp [differs, new, room]
      · next idle => exact absurd idle sounds
      · simp [new, room]
      · simp [new, room]
    · omega
    · exact absurd idle sounds
    · exact e
  · obtain ⟨state, queue, sounding, full⟩ := x
    obtain rfl : state = .idle := idle
    obtain rfl : queue = [] := empty
    have started := takeUp_cons (c := c) (night := night) (x := ⟨.idle, [n], sounding, full⟩) rfl first
    simpa [requestOn] using started

/-! ### Orders on the channels -/

theorem readHold_of_le_one {n : Byte} (h : n.toNat ≤ 1) : readHold n = some (decide (n = 1)) :=
  readKey_of_le_one h

/-- Settles O52: SOUND by the outcome of its request, SOUND_BREAK by the channel's state, LEVEL by its byte. -/
theorem soundOrdersReachTheChannels : Obligations.SoundOrdersReachTheChannels := by
  unfold Obligations.SoundOrdersReachTheChannels
  refine ⟨fun tag n s ready => ⟨fun range => ?_, ?_⟩, fun tag n s ready above => ?_, ?_, fun tag n s ready => ?_⟩
  · refine exec_final ready nofun (if_pos ?_)
    rcases range with rfl | above
    · exact .inl Nat.zero_lt_one
    · exact .inr above
  · intro c x y k low high channel state outcome
    subst state
    have channel : programChannel n.toNat = c := channel.symm
    refine exec_final ready nofun ?_
    have range : ¬ (n.toNat < 1 ∨ 10 < n.toNat) := by omega
    have asked : requestOn c s.snd.night n.toNat (s.snd.channel c) = (y, k) := requestOn_of_outcome outcome
    simp only [handleOrder, handleSound, if_neg range, requestProgram, channel, taken_snd, asked]
    rfl
  · refine exec_final ready nofun ?_
    have unread : readChannel n = none := by
      unfold readChannel
      rw [if_neg (by rintro rfl; exact absurd above (by decide)), if_neg (by rintro rfl; exact absurd above (by decide)),
        if_neg (by rintro rfl; exact absurd above (by decide))]
    simp only [handleOrder, handleSoundBreak, unread]
    rfl
  · intro tag n c x s ready channel state
    subst state
    have read : readChannel n = some c := by
      simp only [List.mem_cons, Prod.mk.injEq, List.not_mem_nil, or_false] at channel
      rcases channel with ⟨rfl, rfl⟩ | ⟨rfl, rfl⟩ | ⟨rfl, rfl⟩ <;> rfl
    refine ⟨breakChannel (s.snd.channel c), exec_final ready nofun ?_, fun m step left mark running => ?_, fun other => ?_⟩
    · simp only [handleOrder, handleSoundBreak, read]
      rfl
    · simp only [breakChannel, running]
    · unfold breakChannel
      split
      · next running => exact absurd running (other _ _ _ _)
      all_goals rfl
  · split
    · next low =>
      refine exec_final ready nofun ?_
      have read : readLevel n = some (decide (n = 1)) := readKey_of_le_one low
      simp only [handleOrder, handleLevel, read]
      rfl
    · next high =>
      refine exec_final ready nofun ?_
      have read : readLevel n = none := by
        unfold readLevel
        rw [if_neg (by rintro rfl; exact high (by decide)), if_neg (by rintro rfl; exact high (by decide))]
      simp only [handleOrder, handleLevel, read]
      rfl

/-! ### Manual sounding -/

/-- The rows of R150: HOLD takes a channel over or withdraws its let-go, LET_GO marks it. -/
theorem handleManual_of_outcome {c : Channel} {n : Byte} {s : State} {y : ChannelRecord}
    (desk : c = .bell ∨ c = .horn)
    (outcome : (n = 1 ∧ c = .bell
          ∧ ((s.snd.channel c).state = .idle ∨ ∃ m k l b, (s.snd.channel c).state = .program m k l b)
          ∧ y = { s.snd.channel c with state := .stroke 1 600 false, tone := .high, full := !s.snd.night })
        ∨ (n = 1 ∧ c = .horn
          ∧ ((s.snd.channel c).state = .idle ∨ ∃ m k l b, (s.snd.channel c).state = .program m k l b)
          ∧ y = { s.snd.channel c with state := .blast 0 false, tone := .high, full := true })
        ∨ (∃ k l b, (s.snd.channel c).state = .stroke k l b
          ∧ y = { s.snd.channel c with state := .stroke k l (decide (n = 0)) } ∧ n.toNat ≤ 1)
        ∨ (∃ m b, (s.snd.channel c).state = .blast m b
          ∧ y = { s.snd.channel c with state := .blast m (decide (n = 0)) } ∧ n.toNat ≤ 1 ∧ (n = 0 → m < 1200))
        ∨ (∃ m b, n = 0 ∧ c = .horn ∧ (s.snd.channel c).state = .blast m b ∧ 1200 ≤ m ∧ (s.snd.channel c).queue = []
          ∧ y = { s.snd.channel c with state := .idle, tone := .off })
        ∨ (n = 0 ∧ ((s.snd.channel c).state = .idle ∨ ∃ m k l b, (s.snd.channel c).state = .program m k l b)
          ∧ y = s.snd.channel c)) :
    handleManual c n s = ({ s with snd := s.snd.setChannel c y }, plain .done) := by
  have hold : n = 1 → holdChannel c s.snd.night (s.snd.channel c) = y →
      handleManual c n s = ({ s with snd := s.snd.setChannel c y }, plain .done) := by
    rintro rfl rfl
    rfl
  have letGo : n = 0 → letGoChannel c s.snd.night (s.snd.channel c) = y →
      handleManual c n s = ({ s with snd := s.snd.setChannel c y }, plain .done) := by
    rintro rfl rfl
    rfl
  have either : n.toNat ≤ 1 → n = 0 ∨ n = 1 := fun low => by bv_omega
  rcases outcome with ⟨one, rfl, state, rfl⟩ | ⟨one, rfl, state, rfl⟩ | ⟨k, l, b, state, rfl, low⟩
    | ⟨m, b, state, rfl, low, short⟩ | ⟨m, b, zero, rfl, state, long, empty, rfl⟩ | ⟨zero, state, rfl⟩
  · refine hold one ?_
    rcases state with state | ⟨m, k, l, b, state⟩ <;> simp only [holdChannel, state] <;> rfl
  · refine hold one ?_
    rcases state with state | ⟨m, k, l, b, state⟩ <;> simp only [holdChannel, state] <;> rfl
  · rcases either low with rfl | rfl
    · exact letGo rfl (by simp only [letGoChannel, state]; rfl)
    · exact hold rfl (by simp only [holdChannel, state]; rfl)
  · rcases either low with rfl | rfl
    · have short : ¬ hornMinimumTicks ≤ m := Nat.not_le.mpr (short rfl)
      exact letGo rfl (by simp only [letGoChannel, state, if_neg short]; rfl)
    · exact hold rfl (by simp only [holdChannel, state]; rfl)
  · have long : hornMinimumTicks ≤ m := long
    exact letGo zero (by simp only [letGoChannel, state, if_pos long, takeUp_empty empty])
  · refine letGo zero ?_
    rcases state with state | ⟨m, k, l, b, state⟩ <;> simp only [letGoChannel, state]

/-- Settles O53: BELL and HORN share one handler, whose rows are the outcomes. -/
theorem manualSoundingTakesTheChannel : Obligations.ManualSoundingTakesTheChannel := by
  unfold Obligations.ManualSoundingTakesTheChannel
  intro p tag n s c command o x channel ready state
  subst state
  have desk : c = .bell ∨ c = .horn := channel.imp And.left And.left
  have other : o ≠ .restart := by rcases channel with ⟨-, -, rfl⟩ | ⟨-, -, rfl⟩ <;> nofun
  have command : command = takingCommand p ⟨tag, o⟩ := by
    rcases channel with ⟨-, rfl, rfl⟩ | ⟨-, rfl, rfl⟩ <;> rfl
  have handled : handleOrder p tag o (s.taken p) = handleManual c n (s.taken p) := by
    rcases channel with ⟨rfl, -, rfl⟩ | ⟨rfl, -, rfl⟩ <;> rfl
  rw [command]
  refine ⟨fun above => exec_final ready other ?_, fun y outcome => exec_final ready other ?_⟩
  · have read : readHold n = none := by
      unfold readHold
      rw [if_neg (by rintro rfl; exact absurd above (by decide)), if_neg (by rintro rfl; exact absurd above (by decide))]
    rw [handled]
    simp only [handleManual, read]
    rfl
  · rw [handled]
    exact handleManual_of_outcome (s := s.taken p) desk outcome

/-! ### The events of the sounders -/

/-- What follows a program's end: the oldest queued program at its first step, or IDLE (R148). -/
theorem takeUp_of_next {c : Channel} {night : Bool} {x y : ChannelRecord}
    (next : (x.queue = [] ∧ y = { x with state := .idle, tone := .off })
      ∨ ∃ n rest tone time, x.queue = n :: rest ∧ (programSteps n)[0]? = some (tone, time)
          ∧ y = { x with
              state := .program n 1 time false, queue := rest, tone := tone, full := (c == .horn || !night) }) :
    takeUp c night x = y := by
  rcases next with ⟨empty, rfl⟩ | ⟨n, rest, tone, time, queue, first, rfl⟩
  · exact takeUp_empty empty
  · exact takeUp_cons queue first

theorem stepExpired_next {c : Channel} {night : Bool} {x : ChannelRecord} {n k l time : Nat} {tone : Tone}
    (state : x.state = .program n k l false) (step : (programSteps n)[k]? = some (tone, time)) :
    stepExpired c night x
      = { x with state := .program n (k + 1) time false, tone := tone, full := (c == .horn || !night) } := by
  have more : k < (programSteps n).length := (List.getElem?_eq_some_iff.mp step).1
  simp only [stepExpired, state, more, and_self, if_true]
  exact startProgramStep_of_some step

theorem stepExpired_end {c : Channel} {night b : Bool} {x : ChannelRecord} {n k l : Nat}
    (state : x.state = .program n k l b) (ends : b = true ∨ (programSteps n).length ≤ k) :
    stepExpired c night x = takeUp c night x := by
  have ended : ¬ (b = false ∧ k < (programSteps n).length) := by
    rintro ⟨unmarked, more⟩
    rcases ends with marked | last
    · exact Bool.false_ne_true (unmarked.symm.trans marked)
    · omega
  simp only [stepExpired, state, if_neg ended]

/-- Settles O54: each event by the state of its channel. -/
theorem soundersGoStepByStep : Obligations.SoundersGoStepByStep := by
  unfold Obligations.SoundersGoStepByStep
  refine ⟨rfl, fun s c x y z state next => ?_⟩
  subst state
  have followed := takeUp_of_next next
  refine ⟨fun n k l tone time state _ step => ?_, fun n k l b state ends => ?_, ?_, ?_⟩
  · exact congrArg (fun y => Host.Outcome.next { s with snd := s.snd.setChannel c y })
      (stepExpired_next (night := s.snd.night) state step)
  · exact congrArg (fun y => Host.Outcome.next { s with snd := s.snd.setChannel c y })
      ((stepExpired_end (night := s.snd.night) state ends).trans followed)
  · rintro rfl rfl
    have stroke : ∀ w, stepExpired .bell s.snd.night s.snd.bell = w →
        exec (.stepExpiry .bell) s = .next { s with snd.bell := w } := by
      rintro w rfl
      rfl
    have ended : ∀ w, strokeEnded s.snd.night s.snd.bell = w → exec .bellStrokeEnd s = .next { s with snd.bell := w } := by
      rintro w rfl
      rfl
    refine ⟨fun l b state => stroke _ ?_, fun l state => ended _ ?_, fun l state => ended _ ?_⟩
    · have state : s.snd.bell.state = .stroke 1 l b := state
      simp only [stepExpired, state]
      rfl
    · have state : s.snd.bell.state = .stroke 2 l false := state
      simp only [strokeEnded, state]
      rfl
    · have state : s.snd.bell.state = .stroke 2 l true := state
      simp only [strokeEnded, state]
      exact followed
  · rintro rfl
    have ended : ∀ w, minimumReached s.snd.night s.snd.horn = w → exec .hornMinimum s = .next { s with snd.horn := w } := by
      rintro w rfl
      rfl
    refine ⟨fun m state => ended _ ?_, fun m state => ended _ ?_⟩
    · have state : s.snd.horn.state = .blast m true := state
      simp only [minimumReached, state]
      exact followed
    · have state : s.snd.horn.state = .blast m false := state
      simp only [minimumReached, state]
      rfl

end Sys2Proof.Machine
end

section
/-! PROOF. What the orders CUT, PREFACE, CONFIG, IDENT, READ_FAULT, FAULT_TAKE and ACK do (R48, R170 to R174, R190, R192,
R195). -/

namespace Sys2Proof.Machine

/-! ### CUT -/

theorem axleOf_axleNumber (a : Axle) : axleOf (axleNumber a) = some a := by
  cases a <;> rfl

theorem axleOf_none {n : Nat} (h : n = 0 ∨ 4 < n) : axleOf n = none := by
  rcases h with rfl | h
  · rfl
  · obtain ⟨k, rfl⟩ := Nat.exists_eq_add_of_le h
    rw [Nat.add_comm]
    rfl

theorem bogieOf_none {n : Nat} (h : n = 0 ∨ 2 < n) : bogieOf n = none := by
  rcases h with rfl | h
  · rfl
  · obtain ⟨k, rfl⟩ := Nat.exists_eq_add_of_le h
    rw [Nat.add_comm]
    rfl

theorem ne_of_toNat_lt {b c : Byte} (h : c.toNat < b.toNat) : b ≠ c := by
  rintro rfl
  exact Nat.lt_irrefl _ h

/-- The bytes of a CUT that name no target or no action (R202). -/
theorem handleCut_refused {target number action : Byte} {s : State}
    (bad : 1 < target.toNat ∨ 1 < action.toNat ∨ (target = 0 ∧ (number = 0 ∨ 4 < number.toNat))
      ∨ (target = 1 ∧ (number = 0 ∨ 2 < number.toNat))) :
    handleCut target number action s = (s, plain .refused) := by
  have zero : number = 0 → number.toNat = 0 := fun h => h ▸ rfl
  have unread : readCutTarget target number = none ∨ readCutAction action = none := by
    rcases bad with target2 | action2 | ⟨rfl, outside⟩ | ⟨rfl, outside⟩
    · left
      unfold readCutTarget
      rw [if_neg (ne_of_toNat_lt (c := 0) (Nat.lt_of_succ_lt target2)), if_neg (ne_of_toNat_lt (c := 1) target2)]
    · right
      unfold readCutAction
      rw [if_neg (ne_of_toNat_lt (c := 0) (Nat.lt_of_succ_lt action2)), if_neg (ne_of_toNat_lt (c := 1) action2)]
    · left
      simp [readCutTarget, axleOf_none (outside.imp_left zero)]
    · left
      simp [readCutTarget, bogieOf_none (outside.imp_left zero)]
  unfold handleCut
  rcases unread with h | h
  · rw [h]
  · rw [h]
    split
    · next h => cases h
    · next h => cases h
    · rfl

theorem handleCut_axle {target number action : Byte} {s : State} {a : Axle} {inService : Bool} (axle : target = 0)
    (at_ : number.toNat = axleNumber a) (does : readCutAction action = some inService) :
    handleCut target number action s
      = ({ s with axl.axles := s.axl.axles.set a (cutAxle inService (s.axl.axles.get a)) }, plain .done) := by
  have read : readCutTarget target number = some (.axle a) := by
    simp [readCutTarget, axle, at_, axleOf_axleNumber]
  simp only [handleCut, read, does]

theorem handleCut_bogie {target number action : Byte} {s : State} {b : Bogie} {inService : Bool} (bogie : target = 1)
    (at_ : bogieOf number.toNat = some b) (does : readCutAction action = some inService) :
    handleCut target number action s = (updateSand (cutBogie inService b s), plain .done) := by
  have read : readCutTarget target number = some (.bogie b) := by
    simp [readCutTarget, bogie, at_]
  simp only [handleCut, read, does]

theorem axles_set_get (x : PerAxle AxleState) (a : Axle) : x.set a (x.get a) = x := by
  cases a <;> rfl

theorem cutAxle_in (x : AxleState) :
    cutAxle true x = if x.mark = .valid then x else { x with mark := .valid, run := 0 } := by
  unfold cutAxle
  rw [if_pos rfl]
  split <;> next h => simp [h]

/-- Settles O8: each row by the target and action that its bytes name. -/
theorem cutTakesOutOfService : Obligations.CutTakesOutOfService := by
  unfold Obligations.CutTakesOutOfService
  intro p tag target number action s ready
  have bogie : ∀ {b inService}, target = 1 → bogieOf number.toNat = some b → readCutAction action = some inService →
      exec (.cut p tag target number action) s = .next ((updateSand (cutBogie inService b (s.taken p))).sent p
        (finalReply tag (.cut target number action) .done .none)) := fun isBogie at_ does =>
    exec_final ready nofun (handleCut_bogie isBogie at_ does)
  refine ⟨fun bad => ?_, ?_, ?_, ?_, ?_, ?_, ?_⟩
  · exact exec_final ready nofun (handleCut_refused bad)
  · rintro a axle at_ rfl
    exact exec_final ready nofun (handleCut_axle (inService := false) axle at_ rfl)
  · rintro a axle at_ rfl
    refine exec_final ready nofun ((handleCut_axle (inService := true) axle at_ rfl).trans ?_)
    rw [taken_axl, cutAxle_in]
    split
    · rw [axles_set_get]
      rfl
    · rfl
  · rintro isBogie rfl rfl
    refine ⟨_, bogie isBogie rfl rfl, rfl, rfl, ?_⟩
    simp [State.sent, State.setPort, updateSand, State.sandCondition, cutBogie, zeroCode, Axl.setBogie, Axl.bogie]
  · rintro isBogie rfl rfl
    refine ⟨_, bogie isBogie rfl rfl, rfl, rfl, ?_⟩
    simp [State.sent, State.setPort, updateSand, State.sandCondition, cutBogie, zeroCode, Axl.setBogie, Axl.bogie]
  · rintro isBogie rfl rfl
    exact ⟨_, bogie isBogie rfl rfl, rfl, rfl⟩
  · rintro isBogie rfl rfl
    exact ⟨_, bogie isBogie rfl rfl, rfl, rfl⟩

/-! ### PREFACE -/

theorem setPort_preface_taken (s : State) (p : Port) :
    (s.taken p).setPort p { (s.taken p).port p with preface := none } = s.taken p := by
  cases p <;> rfl

/-- Settles O31: the record that the bytes of PREFACE spell. -/
theorem prefaceSetsTheRecord : Obligations.PrefaceSetsTheRecord := by
  unfold Obligations.PrefaceSetsTheRecord
  intro p tag code x y z s r ready record
  have read : readPreface code x y z = r := by
    rw [record]
    unfold readPreface
    split
    · next h => rw [h]
    · split
      · next h => rw [h]
      · split
        · next h => rw [h]
        · rfl
  cases r with
  | none =>
    rw [setPort_preface_taken]
    refine exec_final ready nofun ?_
    simp only [handleOrder, handlePreface, read]
    rfl
  | some r =>
    refine exec_final ready nofun ?_
    simp only [handleOrder, handlePreface, read]
    rfl

/-! ### CONFIG -/

theorem readParam_none {n : Byte} (h : n.toNat = 0 ∨ 12 < n.toNat) : readParam n = none := by
  unfold readParam
  split
  case h_13 => rfl
  all_goals omega

theorem handleConfig_refused {n : Byte} {v : BitVec 16} {s : State}
    (bad : n.toNat = 0 ∨ 12 < n.toNat ∨ (s.ord.run = true ∧ s.standstill = false)) :
    handleConfig n v s = (s, plain .refused) := by
  unfold handleConfig
  split
  · rfl
  · next q read =>
    rcases bad with zero | high | ⟨run, moving⟩
    · rw [readParam_none (.inl zero)] at read
      cases read
    · rw [readParam_none (.inr high)] at read
      cases read
    · rw [if_pos (by simp [run, moving])]

/-- CONFIG with a parameter's number, the value clamped (R192). -/
theorem handleConfig_of_param {n : Byte} {v : BitVec 16} {s : State} {q : Param} {x : Int} {status : Status}
    (read : readParam n = some q) (clamped : x = clampParam q v.toInt) (answer : status = if x = v.toInt then .done else .clamped) :
    (s.ord.run = false → handleConfig n v s
        = ({ s with ord.config := s.ord.config.set q x }, { status, stage := .final, results := .config n x }))
      ∧ (s.ord.run = true → s.standstill = true → (q ≠ .tramId ∨ x ≠ 0) → handleConfig n v s
        = ({ s with ord.waiting := s.ord.waiting.set q (some x) }, { status, stage := .final, results := .config n x }))
      ∧ (s.ord.run = true → q = .tramId → x = 0 → handleConfig n v s = (s, plain .refused)) := by
  subst clamped
  subst answer
  refine ⟨fun run => ?_, fun run still named => ?_, fun run tram zero => ?_⟩
  · simp [handleConfig, read, run, signed16]
    rfl
  · have named : ¬ (q = .tramId ∧ clampParam q v.toInt = 0) := by
      rintro ⟨tram, zero⟩
      exact named.elim (· tram) (· zero)
    simp [handleConfig, read, run, still, named, signed16]
    rfl
  · simp [handleConfig, read, run, tram, tram ▸ zero, signed16]

theorem config_param {n : Byte} {q : Param} {lo hi : Int}
    (mem : (n.toNat, q, lo, hi) ∈ [(1, Param.pulseDist, (1000 : Int), (20000 : Int)), (2, .tramLen, 1000, 6000),
      (3, .tramId, 0, 9999), (4, .trim, -16, 15), (5, .jerkUp, 5, 200), (6, .jerkDown, 5, 200),
      (7, .lineSpeed, 2000, 22000), (8, .crawl, 500, 2800), (9, .approachLen, 1000, 20000),
      (10, .standLen, 200, 3000), (11, .stopWindow, 100, 2000), (12, .handoverTime, 30, 300)]) :
    readParam n = some q ∧ paramRange q = (lo, hi) := by
  have read : ∀ k, n.toNat = k → readParam n = readParam (BitVec.ofNat 8 k) := fun k h => by
    rw [← h, BitVec.ofNat_toNat, BitVec.setWidth_eq]
  simp only [List.mem_cons, Prod.mk.injEq, List.not_mem_nil, or_false] at mem
  rcases mem with ⟨number, rfl, rfl, rfl⟩ | ⟨number, rfl, rfl, rfl⟩ | ⟨number, rfl, rfl, rfl⟩ | ⟨number, rfl, rfl, rfl⟩
    | ⟨number, rfl, rfl, rfl⟩ | ⟨number, rfl, rfl, rfl⟩ | ⟨number, rfl, rfl, rfl⟩ | ⟨number, rfl, rfl, rfl⟩
    | ⟨number, rfl, rfl, rfl⟩ | ⟨number, rfl, rfl, rfl⟩ | ⟨number, rfl, rfl, rfl⟩ | ⟨number, rfl, rfl, rfl⟩ <;>
    exact ⟨read _ number, rfl⟩

/-- Settles O32: CONFIG by its parameter's range, the count close by the overlay of the pending values. -/
theorem configStoresOrWaits : Obligations.ConfigStoresOrWaits := by
  unfold Obligations.ConfigStoresOrWaits
  refine ⟨fun tag n v s ready => ⟨fun bad => ?_, ?_⟩, fun s => ⟨countClose s, rfl, fun q => ?_⟩⟩
  · exact exec_final ready nofun (handleConfig_refused (s := s.taken .vehicle) bad)
  · intro q lo hi x status mem clamped answer
    obtain ⟨read, range⟩ := config_param mem
    have clamped : x = clampParam q v.toInt := by rw [clamped, clampParam, range, clampInt]
    obtain ⟨stores, waits, refuses⟩ := handleConfig_of_param (s := s.taken .vehicle) read clamped answer
    exact ⟨fun run => exec_final ready nofun (stores run),
      fun run still named => exec_final ready nofun (waits run still named),
      fun run tram zero => exec_final ready nofun (refuses run tram zero)⟩
  · obtain ⟨config, waiting⟩ := countClose_sameConfig s
    constructor
    · rw [State.cfg, config]
      exact table_get_overlay ..
    · rw [waiting]
      exact noneWaiting_get q

/-! ### IDENT, READ_FAULT and FAULT_TAKE -/

/-- An order that every port, every operating state and every live end admits is ready at the head of its queue. -/
theorem ready_of_admitted {s : State} {p : Port} {tag : Byte} {o : Order} (head : s.atHead p tag o)
    (port : anyPortOrder o = true) (unconfigured : admittedUnconfigured o = true) (halted : admittedInHalt o = true)
    (free : isProtected o = false) (needless : needsLiveEnd o = false) : s.ready p tag o :=
  ⟨head, by simp [portAllows, port], .inr unconfigured, .inr halted, by simp [free], by simp [needless]⟩

/-- Settles O34: both orders are admitted everywhere, and leave the state. -/
theorem identAndReadFaultOnlyAnswer : Obligations.IdentAndReadFaultOnlyAnswer := by
  unfold Obligations.IdentAndReadFaultOnlyAnswer
  refine ⟨fun p tag s head => ?_, rfl, fun p tag n s head => ?_⟩
  · exact exec_final (ready_of_admitted head rfl rfl rfl rfl rfl) nofun rfl
  · have ready : s.ready p tag (.readFault n) := ready_of_admitted head rfl rfl rfl rfl rfl
    have found : n.toNat ≤ 15 → ∀ r, s.flt.queue[n.toNat]? = r → exec (.readFault p tag n) s
        = .next ((s.taken p).sent p (finalReply tag (.readFault n) .done (.fault r s.flt.queue.length))) := by
      rintro low r rfl
      exact exec_final ready nofun (if_neg (Nat.not_lt.mpr low))
    exact ⟨fun high => exec_final ready nofun (if_pos high),
      fun low short => found low none (List.getElem?_eq_none short), fun r low at_ => found low (some r) at_⟩

/-- Settles O35: the first record that may be removed splits the queue. -/
theorem faultTakeRemovesTheOldest : Obligations.FaultTakeRemovesTheOldest := by
  unfold Obligations.FaultTakeRemovesTheOldest
  intro tag s ready
  constructor
  · intro a r b queue open_ removable
    have kept : ∀ y ∈ a, mayRemove y = false := fun y mem => by simp [mayRemove, open_ y mem]
    have removed : mayRemove r = true := by simp [mayRemove, removable]
    have found : (a ++ r :: b).find? mayRemove = some r := by
      rw [List.find?_append, List.find?_eq_none.mpr (by simpa using kept), Option.none_or,
        List.find?_cons_of_pos removed]
    refine exec_final ready nofun ?_
    simp only [handleOrder, handleFaultTake, taken_flt, queue, found, eraseP_of_first kept removed]
    rfl
  · intro allOpen
    have none_ : s.flt.queue.find? mayRemove = none :=
      List.find?_eq_none.mpr fun y mem => by simp [mayRemove, allOpen y mem]
    refine exec_final ready nofun ?_
    simp only [handleOrder, handleFaultTake, taken_flt, none_]
    rfl

/-! ### ACK and the vigilance watch -/

theorem vigilanceHolds_iff {s : State} : s.vigilanceHolds = true ↔ s.vigilanceRuns := by
  have open_ : s.suspended = false ↔ ∀ r ∈ s.flt.queue, r.kind = .deskSilent → r.acked ≠ some false := by
    simp [State.suspended, List.any_eq_false, isOpenStop]
  simp only [State.vigilanceHolds, State.vigilanceRuns, Bool.and_eq_true, Option.isSome_iff_ne_none, Bool.not_eq_true',
    decide_eq_true_eq, open_, and_assoc]

theorem vigilanceRuns_of_same {s t : State} (aut : t.liveEnd = s.liveEnd) (grip : t.aut.gripHeld = s.aut.gripHeld)
    (speed : t.axl.record.v = s.axl.record.v) (faults : t.flt.queue = s.flt.queue) :
    t.vigilanceRuns ↔ s.vigilanceRuns := by
  simp only [State.vigilanceRuns, aut, grip, speed, faults]

theorem vigilanceKept_of_same {before : Vigilance} {s t : State} (h : vigilanceKept before s) (aut : t.aut = s.aut)
    (speed : t.axl.record.v = s.axl.record.v) (faults : t.flt.queue = s.flt.queue) : vigilanceKept before t := by
  have live : t.liveEnd = s.liveEnd := by rw [State.liveEnd, aut, State.liveEnd]
  unfold vigilanceKept
  rw [vigilanceRuns_of_same live (by rw [aut]) speed faults, aut]
  exact h

/-- The revision of the vigilance timer leaves it as R14 and R15 say. -/
theorem vigilanceKept_reviseVigilance (s : State) : vigilanceKept s.aut.vigilance (reviseVigilance s) := by
  rcases reviseVigilance_cases s with ⟨holds, e⟩ | ⟨holds, stopped, e⟩ | ⟨holds, running, e⟩ <;> rw [e]
  · refine ⟨fun runs => ?_, fun _ => rfl⟩
    exact absurd (holds.symm.trans (vigilanceHolds_iff.mpr runs)) Bool.false_ne_true
  · exact ⟨fun _ => (if_pos stopped).symm, fun stops => absurd (vigilanceHolds_iff.mp holds) stops⟩
  · exact ⟨fun _ => (if_neg running).symm, fun stops => absurd (vigilanceHolds_iff.mp holds) stops⟩

theorem reviseVigilance_changes (s : State) :
    reviseVigilance s = { s with aut.vigilance := (reviseVigilance s).aut.vigilance } := by
  rcases reviseVigilance_cases s with ⟨-, e⟩ | ⟨-, -, e⟩ | ⟨-, -, e⟩ <;> rw [e]

/-- A settle offer in one equation (R73). -/
theorem offerSettle_eff (r : SettleReason) (n : Nat) (s : State) :
    (offerSettle r n s).eff = { s.eff with
      settleCount := max n s.eff.settleCount
      settleReason := if s.eff.settleCount < n then r else s.eff.settleReason } := by
  rcases offerSettle_cases r n s with ⟨less, e⟩ | ⟨more, e⟩ <;> rw [e]
  · rw [if_pos less, max_eq_left less.le]
  · rw [if_neg (Nat.not_lt.mpr more), max_eq_right more]

/-- Settles O44: REFUSED, DONE with 0, or the records acknowledged and the watch revised. -/
theorem ackClearsTheLatch : Obligations.AckClearsTheLatch := by
  unfold Obligations.AckClearsTheLatch
  intro p tag s ready
  refine ⟨fun bad => exec_final ready nofun ?_, fun still brake clear => exec_final ready nofun ?_, fun still brake set => ?_⟩
  · rcases bad with moving | light
    · simp [handleOrder, handleAck, moving, plain]
    · simp [handleOrder, handleAck, light, plain]
  · simp [handleOrder, handleAck, still, brake, clear, doneWith]
  · obtain ⟨u, acknowledged_⟩ : ∃ u : State,
        u = { s.taken p with flt.queue := s.flt.queue.map acknowledged, flt.latch := false } := ⟨_, rfl⟩
    have handled : handleOrder p tag .ack (s.taken p)
        = (reviseVigilance (offerSettle .latch 10 u), doneWith (.ack (s.taken p).openStops)) := by
      simp [handleOrder, handleAck, still, brake, set, acknowledge, acknowledged_]
    have aut : (offerSettle .latch 10 u).aut = s.aut := by simp [acknowledged_]
    have kept : vigilanceKept s.aut.vigilance (reviseVigilance (offerSettle .latch 10 u)) :=
      aut ▸ vigilanceKept_reviseVigilance _
    have count : (s.taken p).openStops = (s.flt.queue.filter fun r => r.acked == some false).length :=
      List.countP_eq_length_filter
    refine ⟨_, exec_final ready nofun handled, ?_, ?_, ?_, ?_, ?_, ?_, ?_, ?_, ?_, ?_, ?_⟩
    · simp [acknowledged_]
      exact fun _ _ => rfl
    · simp [offerSettle_eff, acknowledged_]
    · rw [sent_aut, reviseVigilance_changes, aut]
    · exact vigilanceKept_of_same kept rfl rfl rfl
    · rw [sent_outbound_of_ports (s := s) _ (by simp [acknowledged_]), count]
    all_goals simp [acknowledged_]

end Sys2Proof.Machine
end

section
/-! PROOF. What the plan orders PLAN_CLEAR, PLAN_PUT and PLAN_SEAL and their completions do (R18 to R25). -/

namespace Sys2Proof.Machine

/-! ### Banks and slots -/

theorem entriesFrom_replicate_none : ∀ n k : Nat, entriesFrom k (List.replicate n none) = []
  | 0, _ => rfl
  | n + 1, k => entriesFrom_replicate_none n (k + 1)

theorem bank_of_pth {s t : State} (h : t.pth = s.pth) (b : BankName) : t.bank b = s.bank b := by
  cases b <;> simp only [State.bank, h]

@[simp] theorem taken_bank (s : State) (p : Port) (b : BankName) : (s.taken p).bank b = s.bank b := rfl

@[simp] theorem sent_bank (s : State) (p : Port) (f : OutFrame) (b : BankName) : (s.sent p f).bank b = s.bank b := rfl

@[simp] theorem enterSlot_bank (p : Port) (tag : Byte) (d : Deferred) (s : State) (b : BankName) :
    (enterSlot p tag d s).bank b = s.bank b := rfl

@[simp] theorem forgetEntry_bank (c : BankName) (i : Nat) (s : State) (b : BankName) :
    (forgetEntry c i s).bank b = s.bank b := rfl

@[simp] theorem forgetEntriesFrom_bank (c : BankName) (i : Nat) (s : State) (b : BankName) :
    (forgetEntriesFrom c i s).bank b = s.bank b := rfl

@[simp] theorem bank_setBank_other (b : BankName) (x : Bank) (s : State) :
    (s.setBank b x).bank (otherBank b) = s.bank (otherBank b) :=
  bank_setBank_ne x s (otherBank_ne b)

theorem opTicks_bank (s : State) (n : Nat) (b : BankName) : ({ s with pth.opTicks := n } : State).bank b = s.bank b := by
  cases b <;> rfl

/-- The vehicle link's slot takes a plan operation, the standby bank its new state (R20, R23). -/
theorem enterSlot_operation {s : State} {tag : Byte} {d : Deferred} {x : Bank} {t : State}
    (entered : t = enterSlot .vehicle tag d { (s.taken .vehicle).setBank s.pth.standby x with pth.opTicks := 0 }) :
    t.bank s.pth.standby = x
      ∧ t.bank (otherBank s.pth.standby) = s.bank (otherBank s.pth.standby)
      ∧ (t.port .vehicle).slot = some { tag, order := d, bank := s.pth.standby }
      ∧ (t.port .vehicle).outbound = (s.port .vehicle).outbound
      ∧ t.pth.p = s.pth.p ∧ t.loop = s.loop ∧ t.eff = s.eff ∧ t.flt = s.flt := by
  subst entered
  have banks : ∀ b, (enterSlot .vehicle tag d
      { (s.taken .vehicle).setBank s.pth.standby x with pth.opTicks := 0 }).bank b
      = ((s.taken .vehicle).setBank s.pth.standby x).bank b := fun b => opTicks_bank _ 0 b
  refine ⟨(banks _).trans (bank_setBank ..), (banks _).trans (bank_setBank_other ..), ?_, ?_, ?_, ?_, ?_, ?_⟩
  · simp [enterSlot]
  · have port : ∀ u : State, u.ord = (s.taken .vehicle).ord → (u.port .vehicle).outbound = (s.port .vehicle).outbound :=
      fun u h => by rw [port_of_ord h, taken_outbound]
    rw [enterSlot, port_modPort]
    exact port _ (setBank_ord ..)
  · simp
  all_goals simp

theorem entryAt_of_slots {s t : State} {b c : BankName} (h : (t.bank c).slots = (s.bank b).slots) (i : Nat) :
    t.entryAt c i = s.entryAt b i := by
  rw [State.entryAt, h, State.entryAt]

/-- A deferred plan order in the vehicle link's slot completes: the slot is empty and the reply made (R189). -/
theorem completePlan_of_slot {s : State} {x : Slot} {d : Deferred} {status : Status}
    (slot : (s.port .vehicle).slot = some x) (order : x.order = d) :
    completePlan d status s = (s.setPort .vehicle { s.port .vehicle with slot := none }).sent .vehicle
      (completionReply x.tag (deferredCode d) status (s.planResults x.bank)) := by
  unfold completePlan completeSlot
  rw [slot]
  exact if_pos order

theorem completePlan_outbound {s : State} {x : Slot} {d : Deferred} {status : Status}
    (slot : (s.port .vehicle).slot = some x) (order : x.order = d) :
    ((completePlan d status s).port .vehicle).slot = none
      ∧ ((completePlan d status s).port .vehicle).outbound = (s.port .vehicle).outbound
        ++ [completionReply x.tag (deferredCode d) status (s.planResults x.bank)] := by
  rw [completePlan_of_slot slot order]
  exact ⟨rfl, rfl⟩

@[simp] theorem completePlan_bank (d : Deferred) (x : Status) (s : State) (b : BankName) :
    (completePlan d x s).bank b = s.bank b :=
  bank_of_pth (by simp) b

theorem slotBusy_taken {s : State} {p : Port} : (s.taken p).slotBusy p = (s.port p).slot.isSome :=
  congrArg Option.isSome (taken_slot s p)

/-! ### PLAN_CLEAR -/

/-- Settles O12: BUSY or the bank CLEARING; the completion by the slot's order. -/
theorem planClearEmptiesTheStandbyBank : Obligations.PlanClearEmptiesTheStandbyBank := by
  unfold Obligations.PlanClearEmptiesTheStandbyBank
  constructor
  · intro tag s ready
    split
    · next busy => exact exec_final ready nofun (if_pos (slotBusy_taken.trans busy))
    · next free =>
      obtain ⟨t, entered⟩ : ∃ t, t = enterSlot .vehicle tag .planClear { (s.taken .vehicle).setBank s.pth.standby
        { s.bank s.pth.standby with state := .clearing } with pth.opTicks := 0 } := ⟨_, rfl⟩
      obtain ⟨bank, other, slot, outbound, kept⟩ := enterSlot_operation entered
      have results : t.planResults s.pth.standby = .plan s.pth.standby .clearing := by rw [State.planResults, bank]
      have handled : handleOrder .vehicle tag .planClear (s.taken .vehicle)
          = (t, acceptedWith (t.planResults s.pth.standby)) :=
        (if_neg fun busy => free (slotBusy_taken.symm.trans busy)).trans (by rw [entered]; rfl)
      rw [results] at handled
      exact ⟨_, exec_accepted ready nofun handled, bank, other, (sent_slot ..).trans slot,
        (sent_outbound ..).trans (congrArg (· ++ _) outbound), kept⟩
  · intro s x clearing slot order bank
    have completed : completeClear s = completePlan .planClear .done (clearBank s.pth.standby .filling s) := if_pos clearing
    have cleared : ((clearBank s.pth.standby .filling s).port .vehicle).slot = some x := by
      rw [port_of_ord (clearBank_ord ..), slot]
    obtain ⟨empty, outbound⟩ := completePlan_outbound (status := .done) cleared order
    refine ⟨completeClear s, rfl, ?_⟩
    rw [completed]
    refine ⟨?_, ?_, ?_, empty, ?_, ?_, by simp, by simp⟩
    · simp [clearBank]
    · simp [clearBank, Bank.entries, entriesFrom_replicate_none]
    · simp [clearBank]
    · rw [outbound, port_of_ord (clearBank_ord ..), State.planResults, bank]
      simp [clearBank]
      rfl
    · simp [clearBank, forgetEntriesFrom]

/-! ### PLAN_PUT -/

/-- A record with its kind and fields in range reads as its entry (spec 11.5). -/
theorem readWaypoint_some {w : WaypointPayload} {e : Entry} {leg : Leg} {mode : StopMode} {side : Side}
    (low : 1 ≤ w.id.toNat) (high : w.id.toNat ≤ 4095)
    (fields : (w.kind = 1 ∧ (w.first, leg) ∈ [((0 : Byte), Leg.straight), (1, .left), (2, .right)]
        ∧ 100 ≤ w.second.toNat ∧ w.second.toNat ≤ 20000 ∧ 1000 ≤ w.third.toNat ∧ w.third.toNat ≤ 8400
        ∧ e = { id := w.id.toNat, distance := w.distance.toNat
                point := .junction (newJunction leg w.second.toNat w.third.toNat) })
      ∨ (w.kind = 2 ∧ (w.first, mode) ∈ [((0 : Byte), StopMode.request), (1, .always), (2, .pass)]
        ∧ (w.second.toNat % 256, side) ∈ [(0, Side.left), (1, .right), (2, .both)]
        ∧ e = { id := w.id.toNat, distance := w.distance.toNat, point := .stop (newStop mode side) })) :
    readWaypoint w = some e := by
  have id : 1 ≤ w.id.toNat ∧ w.id.toNat ≤ 4095 := ⟨low, high⟩
  rcases fields with ⟨kind, legs, lead, leadHigh, limit, limitHigh, rfl⟩ | ⟨kind, modes, sides, rfl⟩
  · have read : readLeg w.first.toNat = some leg := by
      simp only [List.mem_cons, Prod.mk.injEq, List.not_mem_nil, or_false] at legs
      rcases legs with ⟨first, rfl⟩ | ⟨first, rfl⟩ | ⟨first, rfl⟩ <;> rw [first] <;> rfl
    simp [readWaypoint, id, kind, read, lead, leadHigh, limit, limitHigh]
  · have readM : readMode w.first.toNat = some mode := by
      simp only [List.mem_cons, Prod.mk.injEq, List.not_mem_nil, or_false] at modes
      rcases modes with ⟨first, rfl⟩ | ⟨first, rfl⟩ | ⟨first, rfl⟩ <;> rw [first] <;> rfl
    have readS : readSide (w.second.toNat % 256) = some side := by
      simp only [List.mem_cons, Prod.mk.injEq, List.not_mem_nil, or_false] at sides
      rcases sides with ⟨second, rfl⟩ | ⟨second, rfl⟩ | ⟨second, rfl⟩ <;> rw [second] <;> rfl
    simp [readWaypoint, id, kind, readM, readS]

theorem readCodes_none {n : Nat} (h : 2 < n) : readLeg n = none ∧ readMode n = none ∧ readSide n = none := by
  obtain ⟨k, rfl⟩ := Nat.exists_eq_add_of_le h
  rw [Nat.add_comm]
  exact ⟨rfl, rfl, rfl⟩

/-- A record of another kind, or with a field out of range, reads as none (spec 11.5). -/
theorem readWaypoint_none {w : WaypointPayload}
    (bad : w.id.toNat = 0 ∨ 4095 < w.id.toNat ∨ (w.kind ≠ 1 ∧ w.kind ≠ 2)
      ∨ (w.kind = 1 ∧ (2 < w.first.toNat ∨ w.second.toNat < 100 ∨ 20000 < w.second.toNat
          ∨ w.third.toNat < 1000 ∨ 8400 < w.third.toNat))
      ∨ (w.kind = 2 ∧ (2 < w.first.toNat ∨ 2 < w.second.toNat % 256))) :
    readWaypoint w = none := by
  have kindNat : ∀ k : Byte, w.kind.toNat = k.toNat → w.kind = k := fun k h => BitVec.eq_of_toNat_eq h
  unfold readWaypoint
  dsimp only
  split
  · next id =>
    split
    · next one =>
      have one : w.kind = 1 := kindNat 1 one
      split
      · next leg read =>
        refine if_neg fun fields => ?_
        rcases bad with bad | bad | ⟨bad, -⟩ | ⟨-, bad | bad⟩ | ⟨bad, -⟩
        · omega
        · omega
        · exact bad one
        · rw [(readCodes_none bad).1] at read
          cases read
        · omega
        · exact absurd (one.symm.trans bad) (by decide)
      · rfl
    · next two =>
      have two : w.kind = 2 := kindNat 2 two
      split
      · next mode side readM readS =>
        rcases bad with bad | bad | ⟨-, bad⟩ | ⟨bad, -⟩ | ⟨-, bad | bad⟩
        · omega
        · omega
        · exact absurd two bad
        · exact absurd (two.symm.trans bad) (by decide)
        · rw [(readCodes_none bad).2.1] at readM
          cases readM
        · rw [(readCodes_none bad).2.2] at readS
          cases readS
      · rfl
    · rfl
  · rfl

/-- Settles O13: BUSY or REFUSED by the bank's state, and in FILLING by what the record reads as. -/
theorem planPutWritesOneEntry : Obligations.PlanPutWritesOneEntry := by
  unfold Obligations.PlanPutWritesOneEntry
  intro tag w s ready
  refine ⟨fun notFilling => ?_, fun e leg mode side filling length index low high fields => ?_, fun filling bad => ?_⟩
  · refine exec_final ready nofun ?_
    split
    · next clearing => exact if_pos clearing
    · next other => exact (if_neg other).trans (if_pos notFilling)
  · have read : readWaypoint w = some e := readWaypoint_some low high fields
    obtain ⟨put, made⟩ : ∃ put, put = forgetEntry s.pth.standby w.index.toNat ((s.taken .vehicle).setBank s.pth.standby
      { s.bank s.pth.standby with slots := (s.bank s.pth.standby).slots.set w.index.toNat (some e) }) := ⟨_, rfl⟩
    have bank : put.bank s.pth.standby
        = { s.bank s.pth.standby with slots := (s.bank s.pth.standby).slots.set w.index.toNat (some e) } := by
      simp [made]
    have results : planAnswer .done put = doneWith (.plan s.pth.standby .filling) := by
      have standby : put.pth.standby = s.pth.standby := by simp [made, forgetEntry]
      rw [planAnswer, standby, State.planResults, bank, filling]
      rfl
    have notClearing : ¬ (s.bank s.pth.standby).state = .clearing := by rw [filling]; nofun
    have handled : handleOrder .vehicle tag (.planPut w) (s.taken .vehicle) = (put, planAnswer .done put) := by
      refine (if_neg notClearing).trans ((if_neg (not_not_intro filling)).trans
        ((if_neg (Nat.not_lt.mpr index)).trans ?_))
      rw [read, made]
      rfl
    rw [results] at handled
    have slot : ∀ i, put.entryAt s.pth.standby i
        = if i = w.index.toNat then some e else s.entryAt s.pth.standby i := fun i => by
      have inBank : w.index.toNat < (s.bank s.pth.standby).slots.length := by omega
      rw [State.entryAt, bank, List.getElem?_set]
      by_cases same : i = w.index.toNat
      · simp [same, inBank]
      · simp [same, Ne.symm same, State.entryAt]
    refine ⟨_, exec_final ready nofun handled, (slot _).trans (if_pos rfl), fun i other => (slot i).trans (if_neg other),
      ?_, ?_, sent_outbound_of_ports (s := s) _ ?_, ?_⟩
    · rw [sent_bank, bank]
      exact filling
    · simp [made]
    · simp [made]
    · simp [made, forgetEntry]
  · have read : 63 < w.index.toNat ∨ readWaypoint w = none := bad.imp_right readWaypoint_none
    have notClearing : ¬ (s.bank s.pth.standby).state = .clearing := by rw [filling]; nofun
    have refused : planAnswer .refused (s.taken .vehicle)
        = { status := .refused, stage := .final, results := .plan s.pth.standby .filling } := by
      rw [planAnswer, State.planResults, taken_pth, taken_bank, filling]
    refine exec_final ready nofun ?_
    rw [← refused]
    refine (if_neg notClearing).trans ((if_neg (not_not_intro filling)).trans ?_)
    split
    · rfl
    · next inside =>
      rw [read.resolve_left inside]

/-! ### The check of a plan (R25) -/

theorem addFolded_spec {a b : Nat} (ha : a ≤ 65535) (hb : b ≤ 65535) :
    addFolded a b ≤ 65535 ∧ addFolded a b % 65535 = (a + b) % 65535 ∧ (addFolded a b = 0 ↔ a = 0 ∧ b = 0) := by
  unfold addFolded
  split <;> omega

/-- The ones-complement sum of words of 16 bits, from a sum of 16 bits. -/
theorem foldl_addFolded : ∀ (ws : List Nat) {a : Nat}, a ≤ 65535 → (∀ w ∈ ws, w ≤ 65535) →
    ws.foldl addFolded a ≤ 65535 ∧ ws.foldl addFolded a % 65535 = (a + ws.sum) % 65535
      ∧ (ws.foldl addFolded a = 0 ↔ a = 0 ∧ ∀ w ∈ ws, w = 0)
  | [], a, small, _ => ⟨small, rfl, by simp⟩
  | w :: ws, a, small, words => by
    obtain ⟨bound, residue, zero⟩ := addFolded_spec small (words w (by simp))
    obtain ⟨bound', residue', zero'⟩ := foldl_addFolded ws bound fun v mem => words v (List.mem_cons_of_mem w mem)
    refine ⟨bound', ?_, ?_⟩
    · rw [List.foldl_cons, residue', List.sum_cons]
      omega
    · rw [List.foldl_cons, zero', zero, List.forall_mem_cons, and_assoc]

/-- Settles O15: the words by the entry's kind, the sum word by word. -/
theorem planCheckIsOnesComplement : Obligations.PlanCheckIsOnesComplement := by
  unfold Obligations.PlanCheckIsOnesComplement
  refine ⟨fun id distance j code legs => ?_, fun id distance z mode side modes sides => ?_, fun es words => ?_⟩
  · have leg : legCode j.leg = code := by
      simp only [List.mem_cons, Prod.mk.injEq, List.not_mem_nil, or_false] at legs
      rcases legs with ⟨leg, rfl⟩ | ⟨leg, rfl⟩ | ⟨leg, rfl⟩ <;> rw [leg] <;> rfl
    rw [← leg]
    rfl
  · have mode_ : modeCode z.mode = mode := by
      simp only [List.mem_cons, Prod.mk.injEq, List.not_mem_nil, or_false] at modes
      rcases modes with ⟨mode, rfl⟩ | ⟨mode, rfl⟩ | ⟨mode, rfl⟩ <;> rw [mode] <;> rfl
    have side_ : sideCode z.side = side := by
      simp only [List.mem_cons, Prod.mk.injEq, List.not_mem_nil, or_false] at sides
      rcases sides with ⟨side, rfl⟩ | ⟨side, rfl⟩ | ⟨side, rfl⟩ <;> rw [side] <;> rfl
    rw [← mode_, ← side_]
    rfl
  · have small : ∀ w ∈ es.flatMap checkWords, w ≤ 65535 := fun w mem => by
      obtain ⟨e, held, mem⟩ := List.mem_flatMap.mp mem
      exact words e held w mem
    obtain ⟨bound, residue, zero⟩ := foldl_addFolded (es.flatMap checkWords) (Nat.zero_le _) small
    refine ⟨bound, ?_, ?_⟩
    · rw [planCheck, residue, Nat.zero_add]
    · rw [planCheck, zero]
      simp only [true_and, List.mem_flatMap, forall_exists_index, and_imp]
      exact ⟨fun h e held w mem => h w e held mem, fun h w e held mem => h e held w mem⟩

/-! ### PLAN_SEAL (R23, R24) -/

theorem distancesRise_iff : ∀ es : List Entry, distancesRise es = true ↔ es.Pairwise fun a b => a.distance ≤ b.distance
  | [] => by simp [distancesRise]
  | [a] => by simp [distancesRise]
  | a :: b :: rest => by
    have rest_ := distancesRise_iff (b :: rest)
    simp only [distancesRise, Bool.and_eq_true, decide_eq_true_eq, rest_, List.pairwise_cons, List.forall_mem_cons]
    constructor
    · rintro ⟨first, above, pairs⟩
      exact ⟨⟨first, fun c mem => first.trans (above c mem)⟩, above, pairs⟩
    · rintro ⟨⟨first, -⟩, above, pairs⟩
      exact ⟨first, above, pairs⟩

theorem sameIdentity_eq_false {a b : Entry} :
    sameIdentity a b = false ↔ a.id ≠ b.id ∨ a.junction?.isSome ≠ b.junction?.isSome := by
  simp only [sameIdentity, Bool.and_eq_false_iff, beq_eq_false_iff_ne]

theorem idsUnique_iff : ∀ es : List Entry, idsUnique es = true
    ↔ es.Pairwise fun a b => a.id ≠ b.id ∨ a.junction?.isSome ≠ b.junction?.isSome
  | [] => by simp [idsUnique]
  | a :: rest => by
    simp only [idsUnique, Bool.and_eq_true, Bool.not_eq_true', List.any_eq_false, Bool.not_eq_true, sameIdentity_eq_false,
      idsUnique_iff rest, List.pairwise_cons]

theorem checksAgree_iff {a b : Nat} : checksAgree a b = true ↔ a = b ∨ (a = 0 ∧ b = 65535) ∨ (a = 65535 ∧ b = 0) := by
  simp only [checksAgree, Bool.or_eq_true, Bool.and_eq_true, beq_iff_eq, or_assoc]

/-- The bank's state by the first test that fails (R24). -/
def sealedState (slots : List (Option Entry)) (count check : Nat) : BankState :=
  match sealResult slots count check with
  | none => .ready
  | some r => .bad r

theorem sealedState_eq {slots : List (Option Entry)} {count check : Nat} {es : List Entry}
    (given : es = (slots.take count).filterMap id) :
    sealedState slots count check = if (slots.take count).any Option.isNone = true then BankState.bad .gap
      else if ¬ es.Pairwise (fun a b => a.distance ≤ b.distance) then .bad .order
      else if ¬ es.Pairwise (fun a b => a.id ≠ b.id ∨ a.junction?.isSome ≠ b.junction?.isSome) then .bad .duplicate
      else if planCheck es = check ∨ (planCheck es = 0 ∧ check = 65535) ∨ (planCheck es = 65535 ∧ check = 0) then .ready
      else .bad .check := by
  simp only [sealedState, sealResult, ← given, ← distancesRise_iff, ← idsUnique_iff, ← checksAgree_iff]
  (repeat' split) <;> simp_all

theorem sealResult_isNone (slots : List (Option Entry)) (count check : Nat) :
    (sealResult slots count check).isNone = true ↔ sealedState slots count check = .ready := by
  unfold sealedState
  cases sealResult slots count check <;> simp

theorem getElem?_keepFirst : ∀ (slots : List (Option Entry)) (n i : Nat),
    ((keepFirst n slots)[i]?).join = if i < n then (slots[i]?).join else none
  | [], n, i => by simp [keepFirst]
  | x :: rest, 0, i => by
    cases i with
    | zero => rfl
    | succ i => simpa [keepFirst] using getElem?_keepFirst rest 0 i
  | x :: rest, n + 1, i => by
    cases i with
    | zero => simp [keepFirst]
    | succ i => simpa [keepFirst] using getElem?_keepFirst rest n i

/-- The completion of a seal: the bank judged, its entries beyond the count cleared (R24). -/
theorem completeSeal_eq {s : State} {count check : Nat} (sealing : (s.bank s.pth.standby).state = .sealing count check) :
    completeSeal s = completePlan .planSeal
      (if sealedState (s.bank s.pth.standby).slots count check = .ready then .done else .bad)
      (forgetEntriesFrom s.pth.standby count (s.setBank s.pth.standby
        { state := sealedState (s.bank s.pth.standby).slots count check
          slots := keepFirst count (s.bank s.pth.standby).slots })) := by
  simp only [completeSeal, sealing, sealResult_isNone]
  rfl

/-- Settles O14: the rows of R23, and the completion by the tests of R24. -/
theorem sealingTestsThePlan : Obligations.SealingTestsThePlan := by
  unfold Obligations.SealingTestsThePlan
  refine ⟨fun tag count check s ready bad => ?_, fun tag count check s ready free filling low high => ?_, ?_⟩
  · have busy : (s.taken .vehicle).slotBusy .vehicle = true ↔ (s.port .vehicle).slot ≠ none := by
      rw [slotBusy_taken, Option.isSome_iff_ne_none]
    refine exec_final ready nofun ?_
    split
    · next occupied => exact if_pos (busy.mpr occupied)
    · next free =>
      refine (if_neg fun occupied => free (busy.mp occupied)).trans ?_
      split
      · rfl
      · next filling =>
        refine if_pos ?_
        rcases bad with bad | bad | rfl | bad
        · exact absurd bad free
        · exact absurd bad filling
        · exact .inl rfl
        · exact .inr bad
  · obtain ⟨t, entered⟩ : ∃ t, t = enterSlot .vehicle tag .planSeal { (s.taken .vehicle).setBank s.pth.standby
      { s.bank s.pth.standby with state := .sealing count.toNat check.toNat } with pth.opTicks := 0 } := ⟨_, rfl⟩
    obtain ⟨bank, other, slot, outbound, -, loop, eff, flt⟩ := enterSlot_operation entered
    have results : t.planResults s.pth.standby = .plan s.pth.standby (.sealing count.toNat check.toNat) := by
      rw [State.planResults, bank]
    have busy : ¬ (s.taken .vehicle).slotBusy .vehicle = true := by rw [slotBusy_taken, free]; nofun
    have range : ¬ (count.toNat = 0 ∨ 64 < count.toNat) := by omega
    have handled : handleOrder .vehicle tag (.planSeal count check) (s.taken .vehicle)
        = (t, acceptedWith (t.planResults s.pth.standby)) :=
      (if_neg busy).trans ((if_neg (not_not_intro filling)).trans ((if_neg range).trans (by rw [entered]; rfl)))
    rw [results] at handled
    exact ⟨_, exec_accepted ready nofun handled, bank, other, (sent_slot ..).trans slot,
      (sent_outbound ..).trans (congrArg (· ++ _) outbound), loop, eff, flt⟩
  · intro s x count check es sealing slot order bank given
    have judged := sealedState_eq (check := check) given
    obtain ⟨u, cleared⟩ : ∃ u, u = forgetEntriesFrom s.pth.standby count (s.setBank s.pth.standby
        { state := sealedState (s.bank s.pth.standby).slots count check
          slots := keepFirst count (s.bank s.pth.standby).slots }) := ⟨_, rfl⟩
    have standby : u.bank s.pth.standby = {
        state := sealedState (s.bank s.pth.standby).slots count check
        slots := keepFirst count (s.bank s.pth.standby).slots } := by
      simp [cleared]
    have ord : u.ord = s.ord := by simp [cleared]
    obtain ⟨empty, outbound⟩ := completePlan_outbound
      (status := if sealedState (s.bank s.pth.standby).slots count check = .ready then .done else .bad)
      ((congrArg PortContext.slot (port_of_ord ord .vehicle)).trans slot) order
    refine ⟨completeSeal s, sealedState (s.bank s.pth.standby).slots count check, rfl, ?_⟩
    rw [completeSeal_eq sealing, ← cleared]
    refine ⟨?_, judged, fun i => ?_, ?_, empty, ?_, ?_, ?_⟩
    · rw [completePlan_bank, standby]
    · rw [State.entryAt, completePlan_bank, standby]
      exact getElem?_keepFirst ..
    · simp [cleared]
    · rw [outbound, port_of_ord ord, State.planResults, bank, standby]
      rfl
    · simp [cleared]
    · simp [cleared]

end Sys2Proof.Machine
end

section
/-! PROOF. Order-link frames at their arrival, byte by byte and whole (R181, R183, R201). -/

namespace Sys2Proof.Machine

/-! ### A frame's body -/

theorem envelopeCheck_length (bytes : List Byte) : (envelopeCheck bytes).length = 2 := rfl

/-- The body of a frame that a master sends is the body it was made from (spec 11.1). -/
theorem frameBody_envelope {body : List Byte} (low : 2 ≤ body.length) (high : body.length ≤ 253) :
    frameBody (envelope body).tail = some body := by
  have length : (BitVec.ofNat 8 (body.length + 2)).toNat = body.length + 2 := by
    simp only [BitVec.toNat_ofNat]
    omega
  simp [envelope, frameBody, length, envelopeCheck_length, low]

theorem frameBody_of_wrongLength {length : Byte} {rest : List Byte} (wrong : rest.length ≠ length.toNat) :
    frameBody (length :: rest) = none :=
  if_neg fun h => wrong h.1

theorem frameBody_of_wrongCheck {length : Byte} {body check : List Byte}
    (counted : body.length + 2 = length.toNat) (wrong : check ≠ envelopeCheck (length :: body)) :
    frameBody (length :: (body ++ check)) = none := by
  have take : length.toNat - 2 = body.length := by omega
  unfold frameBody
  dsimp only
  split
  · rw [take, List.take_left, List.drop_left]
    exact if_neg wrong
  · rfl

theorem orderPayload_length (o : Order) : (orderPayload o).length ≤ 12 := by
  cases o <;> simp [orderPayload, leBytes]

theorem codeByte_toNat (o : Order) : (codeByte o).toNat = orderCode o := by
  cases o <;> rfl

/-! ### The outcomes of an arrival -/

/-- What the frame of an order does at its arrival (R181). -/
theorem frameArrives_orderFrame (p : Port) (tag : Byte) (o : Order) (s : State) :
    frameArrives p (orderFrame tag o) s =
      if 8 ≤ (s.port p).queue.length then answerAtArrival p tag (codeByte o) .full s
      else modPort p (fun c => { c with queue := c.queue ++ [{ tag, order := o }] }) s := by
  have short := orderPayload_length o
  have body : frameBody (orderFrame tag o) = some (tag :: codeByte o :: orderPayload o) :=
    frameBody_envelope (by simp) (by simp only [List.length_cons]; omega)
  simp only [frameArrives, body, codeByte_toNat, readOrder_payload]

/-- Settles O26: an order reads back from its frame. -/
theorem anOrderFrameJoinsItsQueue : Obligations.AnOrderFrameJoinsItsQueue := by
  unfold Obligations.AnOrderFrameJoinsItsQueue
  intro p tag o s room
  exact congrArg Host.Outcome.next ((frameArrives_orderFrame p tag o s).trans (if_neg (Nat.not_le.mpr room)))

theorem readOrder_none_of_noOrder {code : Byte} {payload : List Byte}
    (none_ : ∀ o : Order, codeByte o = code → (orderPayload o).length ≠ payload.length) :
    readOrder code.toNat payload = none := by
  cases read : readOrder code.toNat payload with
  | none => rfl
  | some o =>
    obtain ⟨code_, length⟩ := readOrder_some read
    exact absurd length (none_ o (BitVec.eq_of_toNat_eq ((codeByte_toNat o).trans code_)))

/-- Settles O27: no body, no order, or no room. -/
theorem otherFramesAreDroppedOrAnswered : Obligations.OtherFramesAreDroppedOrAnswered := by
  unfold Obligations.OtherFramesAreDroppedOrAnswered
  intro p s
  have dropped : ∀ frame, frameBody frame = none → exec (.frameArrival p frame) s = .next s := fun frame none_ => by
    simp only [exec, execFrameArrival, frameArrives, none_]
  refine ⟨fun length rest wrong => dropped _ (frameBody_of_wrongLength wrong),
    fun length body check _ counted wrong => dropped _ (frameBody_of_wrongCheck counted wrong),
    fun tag code payload short noOrder => ?_, fun tag o full => ?_⟩
  · have body : frameBody (envelope (tag :: code :: payload)).tail = some (tag :: code :: payload) :=
      frameBody_envelope (by simp) (by simp only [List.length_cons]; omega)
    have answered : frameArrives p (envelope (tag :: code :: payload)).tail s = answerAtArrival p tag code .unknown s := by
      simp only [frameArrives, body, readOrder_none_of_noOrder noOrder]
    exact congrArg Host.Outcome.next answered
  · exact congrArg Host.Outcome.next ((frameArrives_orderFrame p tag o s).trans (if_pos full))

/-! ### The receiver -/

/-- What the receiver had collected is gone once it hunts again. -/
theorem modPort_cutOff (p : Port) (r : Receiver) (n : Nat) (s : State) :
    modPort p cutOffReceiver (modPort p (fun c => { c with receiver := r, pause := n }) s)
      = modPort p cutOffReceiver s := by
  cases p <;> rfl

theorem runCommands_cons {c : Instr} {cs : List Instr} {s t : State} (next : exec c s = .next t) :
    runCommands (c :: cs) s = runCommands cs t := by
  rw [runCommands, next]

/-- The bytes from within a frame on: the last of them brings its arrival. -/
theorem runCommands_collecting (p : Port) (n : Byte) : ∀ (rest bytes : List Byte) (s : State),
    (s.port p).receiver = .collecting n bytes → bytes.length + rest.length = n.toNat → rest ≠ [] →
    runCommands (rest.map (Instr.orderLinkByteArrival p)) s
      = exec (.frameArrival p (n :: (bytes ++ rest))) (modPort p cutOffReceiver s)
  | [], _, _, _, _, nonempty => absurd rfl nonempty
  | [b], bytes, s, receiver, counted, _ => by
    have last : ¬ bytes.length + 1 < n.toNat := by simpa using counted.ge
    simp [runCommands, exec, execOrderLinkByteArrival, byteArrives, receiver, last, execFrameArrival]
  | b :: c :: rest, bytes, s, receiver, counted, _ => by
    have more : bytes.length + 1 < n.toNat := by simp only [List.length_cons] at counted; omega
    have taken : exec (.orderLinkByteArrival p b) s = .next
        (modPort p (fun x => { x with receiver := .collecting n (bytes ++ [b]), pause := 0 }) s) := by
      simp only [exec, execOrderLinkByteArrival, byteArrives, receiver, if_pos more]
    have next := runCommands_collecting p n (c :: rest) (bytes ++ [b])
      (modPort p (fun x => { x with receiver := .collecting n (bytes ++ [b]), pause := 0 }) s) (by simp)
      (by simp only [List.length_append, List.length_cons, List.length_nil] at counted ⊢; omega) (by simp)
    rw [List.map_cons, runCommands_cons taken, next, modPort_cutOff]
    simp

/-- Settles O28: each byte by the receiver's state, a whole frame by its bytes in turn. -/
theorem bytesMakeAFrame : Obligations.BytesMakeAFrame := by
  unfold Obligations.BytesMakeAFrame
  intro p s
  have start : ∀ b, (s.port p).receiver = .hunting → exec (.orderLinkByteArrival p b) s
      = .next (if b = 165 then modPort p (fun c => { c with receiver := .started, pause := 0 }) s else s) :=
    fun b hunting => by simp only [exec, execOrderLinkByteArrival, byteArrives, hunting]
  have length : ∀ (b : Byte) (u : State), (u.port p).receiver = .started → exec (.orderLinkByteArrival p b) u
      = .next (modPort p (fun c => { c with
          receiver := if b.toNat < 4 then .hunting else .collecting b [], pause := 0 }) u) := fun b u started => by
    simp only [exec, execOrderLinkByteArrival, byteArrives, started]
    split <;> rfl
  refine ⟨fun b hunting other => (start b hunting).trans (by rw [if_neg other]),
    fun hunting => (start 165 hunting).trans (by rw [if_pos rfl]; rfl), fun b started => length b s started,
    fun b n bytes receiver more => ?_, fun n rest hunting low counted => ?_, rfl, rfl⟩
  · simp only [exec, execOrderLinkByteArrival, byteArrives, receiver, if_pos more]
    rfl
  · have first : exec (.orderLinkByteArrival p 165) s = .next _ := (start 165 hunting).trans (by rw [if_pos rfl])
    have second := length n (modPort p (fun c => { c with receiver := .started, pause := 0 }) s) (by simp)
    rw [if_neg (Nat.not_lt.mpr low)] at second
    have nonempty : rest ≠ [] := by
      rintro rfl
      simp only [List.length_nil] at counted
      omega
    rw [List.map_cons, runCommands_cons first, List.map_cons, runCommands_cons second,
      runCommands_collecting p n rest [] _ (by simp) (by simpa using counted) nonempty,
      modPort_cutOff, modPort_cutOff]
    rfl

end Sys2Proof.Machine
end

section
/-! PROOF. The checks at an order's taking and the replies to every order (R182 to R191), and the pictures (R196). -/

namespace Sys2Proof.Machine

/-! ### The checks (R184) -/

/-- The command that takes an order answers the first check that fails. -/
theorem exec_failing {s : State} {p : Port} {q : QueuedOrder} {x : Status} (head : s.atHead p q.tag q.order)
    (fails : s.failedCheck p q.order (s.port p).preface = some x) :
    exec (takingCommand p q) s = .next (failOrder p q.tag q.order x (s.taken p)) := by
  by_cases restart : q.order = .restart
  · obtain ⟨tag, o⟩ := q
    obtain rfl : o = .restart := restart
    refine congrArg Host.Outcome.next ?_
    rw [takeRestart, consumed_atHead head]
    dsimp only
    rw [taken_failedCheck, fails]
  · rw [exec_takingCommand p q s restart]
    refine congrArg Host.Outcome.next ?_
    rw [takeOrder, consumed_atHead head]
    dsimp only
    rw [taken_failedCheck, fails]

/-- A failed check but PROTECT answers alone (R184, R191). -/
theorem failOrder_of_ne {p : Port} {tag : Byte} {o : Order} {x : Status} {s : State} (other : x ≠ .protect) :
    failOrder p tag o x s = s.sent p (finalReply tag o x (s.uncheckedResults o)) := by
  unfold failOrder
  rw [if_neg other]
  rfl

/-- Settles O29: the first check that fails is the one answered. -/
theorem checksAnswerInOrder : Obligations.ChecksAnswerInOrder := by
  unfold Obligations.ChecksAnswerInOrder
  intro p q s r head results
  have results_ : (s.taken p).uncheckedResults q.order = r := results.symm
  have answered : ∀ x, x ≠ .protect → s.failedCheck p q.order (s.port p).preface = some x →
      exec (takingCommand p q) s = .next ((s.taken p).sent p (finalReply q.tag q.order x r)) := fun x other fails => by
    rw [exec_failing head fails, failOrder_of_ne other, results_]
  split
  · next port => exact answered _ nofun (by simp [State.failedCheck, port])
  · next port =>
    split
    · next unconfigured => exact answered _ nofun (by simp [State.failedCheck, port, unconfigured])
    · next configured =>
      have configured : (!s.ord.run && !admittedUnconfigured q.order) = false := by simpa using configured
      split
      · next halted => exact answered _ nofun (by simp [State.failedCheck, port, configured, halted])
      · next admitted =>
        have admitted : (s.flt.halt && !admittedInHalt q.order) = false := by simpa using admitted
        split
        · next unprefaced =>
          have fails : s.failedCheck p q.order (s.port p).preface = some .protect := by
            simp [State.failedCheck, port, configured, admitted, prefaceMatches, unprefaced]
          refine ⟨(storeFault .protect .notice .none (some q.tag) (s.taken p)).flt,
            newRecord .protect .notice .none (some q.tag) (s.taken p), ?_, List.getLast?_concat, rfl, rfl, rfl, rfl, rfl,
            rfl, rfl, rfl⟩
          rw [exec_failing head fails, ← results_]
          rfl
        · next prefaced =>
          have prefaced : (isProtected q.order && !prefaceMatches (s.port p).preface q.order) = false := by
            simpa [prefaceMatches] using prefaced
          intro needs desk notLive
          have lacks : s.lacksLiveEnd p q.order = true := by
            simp [State.lacksLiveEnd, needs, Option.isSome_iff_ne_none.mpr desk, notLive]
          exact answered _ nofun (by simp [State.failedCheck, port, configured, admitted, prefaced, lacks])

/-! ### Every order is answered (R183, R190) -/

/-- Every port's outbound frames stay, with some replies behind them. -/
structure Answered (s t : State) : Prop where
  replies : ∀ p, ∃ l : List OutFrame, (∀ f ∈ l, ∃ r, f = .reply r) ∧ (t.port p).outbound = (s.port p).outbound ++ l

theorem Answered.of_outbound {s t : State} (h : ∀ p, (t.port p).outbound = (s.port p).outbound) : Answered s t :=
  ⟨fun p => ⟨[], fun _ mem => absurd mem List.not_mem_nil, by rw [h, List.append_nil]⟩⟩

theorem Answered.of_ports {s t : State} (h : t.ord.ports = s.ord.ports) : Answered s t :=
  .of_outbound fun p => by rw [State.port, h, State.port]

theorem Answered.trans {s t u : State} (h : Answered s t) (k : Answered t u) : Answered s u := ⟨fun p => by
  obtain ⟨l, replies, e⟩ := h.replies p
  obtain ⟨m, replies', e'⟩ := k.replies p
  refine ⟨l ++ m, fun f mem => ?_, by rw [e', e, List.append_assoc]⟩
  exact (List.mem_append.mp mem).elim (replies f) (replies' f)⟩

theorem pushReply_outbound (p q : Port) (r : Reply) (s : State) : ((pushReply p r s).port q).outbound
    = if q = p then (s.port q).outbound ++ [.reply r] else (s.port q).outbound := by
  rw [pushReply, pushFrame, port_modPort_eq]
  split <;> rfl

theorem answered_pushReply (p : Port) (r : Reply) (s : State) : Answered s (pushReply p r s) := ⟨fun q => by
  rw [pushReply_outbound]
  split
  · exact ⟨[.reply r], fun f mem => ⟨r, List.mem_singleton.mp mem⟩, rfl⟩
  · exact ⟨[], fun _ mem => absurd mem List.not_mem_nil, (List.append_nil _).symm⟩⟩

theorem answered_completeSlot (p : Port) (d : Deferred) (x : Status) (r : Slot → Results) (s : State) :
    Answered s (completeSlot p d x r s) := by
  have emptied : Answered s (modPort p (fun c => { c with slot := none }) s) := .of_outbound fun q => by
    rw [port_modPort_eq]
    split <;> rfl
  unfold completeSlot
  (repeat' split)
  · exact .of_ports rfl
  · exact emptied.trans (answered_pushReply ..)
  · exact .of_ports rfl

theorem answered_completeSettle (p : Port) (s : State) : Answered s (completeSettle s p) := by
  unfold completeSettle
  dsimp only
  (repeat' split)
  · exact .of_ports rfl
  · exact (answered_completeSlot p .settle .done _ s).trans (.of_ports rfl)
  · exact .of_ports rfl

theorem answered_settleCheck (s : State) : Answered s (settleCheck s) := by
  rcases settleCheck_cases s with ⟨-, h⟩ | ⟨-, h⟩ <;> rw [h]
  · exact .of_ports rfl
  · exact ((answered_completeSettle .end1 s).trans (answered_completeSettle .end2 _)).trans
      (answered_completeSettle .vehicle _)

theorem answered_examineSwitch (s : State) : Answered s (examineSwitch s) := by
  have switched : Answered s (switchPlans s) := .of_ports (by rw [switchPlans_ord])
  rcases examineSwitch_cases s with ⟨-, -, -, h⟩ | h <;> rw [h]
  · exact switched.trans (answered_completeSlot ..)
  · exact .of_ports rfl

/-- An order's handling answers with an acceptance only once the order stands in its port's slot (R183, R188). -/
theorem handleOrder_accepted {p : Port} {tag : Byte} {o : Order} {s : State} (port : portAllows p o = true)
    (accepted : (handleOrder p tag o s).2.stage = .accepted) :
    (handleOrder p tag o s).2.status = .done
      ∧ ∃ x, ((handleOrder p tag o s).1.port p).slot = some x ∧ x.tag = tag := by
  have vehicle : portAllows p .planClear = true → p = .vehicle := by cases p <;> decide
  have entered : ∀ (d : Deferred) (t : State), ∃ x, ((enterSlot p tag d t).port p).slot = some x ∧ x.tag = tag :=
    fun d t => ⟨_, congrArg PortContext.slot (port_modPort p _ t), rfl⟩
  cases o with
  | planClear =>
    obtain rfl := vehicle port
    simp only [handleOrder, handlePlanClear] at accepted ⊢
    split at accepted
    · cases accepted
    · next free =>
      rw [if_neg free]
      exact ⟨rfl, entered ..⟩
  | planSeal c k =>
    obtain rfl := vehicle port
    simp only [handleOrder, handlePlanSeal] at accepted ⊢
    (repeat' split at accepted)
    case isFalse.isFalse.isFalse free filling range =>
      rw [if_neg free, if_neg filling, if_neg range]
      exact ⟨rfl, entered ..⟩
    all_goals cases accepted
  | planSwitch =>
    obtain rfl := vehicle port
    simp only [handleOrder, handlePlanSwitch] at accepted ⊢
    (repeat' split at accepted)
    case isFalse.isFalse.isFalse free ready live =>
      rw [if_neg free, if_neg ready, if_neg live]
      exact ⟨rfl, entered ..⟩
    all_goals cases accepted
  | settle =>
    simp only [handleOrder, handleSettle] at accepted ⊢
    (repeat' split at accepted)
    case isFalse.isTrue free exchange =>
      rw [if_neg free, if_pos exchange]
      exact ⟨rfl, entered ..⟩
    all_goals cases accepted
  | _ =>
    simp only [handleOrder, handleKey, handleClaim, handleLever, handleAck, handleDoors, grantDoors, handleClose,
      handleManual, handleRetry, handleOverride, handleShift, handleConfig, handleConfigDone, handlePlanPut,
      handlePlanWithdraw, handleDoorState, handleSound, handleSoundBreak, handleLevel, handleFaultTake,
      handleForceRelease, handleCut, handlePreface, handleReadFault, handleIdent] at accepted
    (repeat' split at accepted) <;> cases accepted

theorem last_pushReply (p : Port) (r : Reply) (s : State) :
    ((pushReply p r s).port p).outbound.getLast? = some (.reply r) := by
  have outbound : ((pushReply p r s).port p).outbound = (s.port p).outbound ++ [.reply r] :=
    congrArg PortContext.outbound (port_modPort p (fun c => { c with outbound := c.outbound ++ [OutFrame.reply r] }) s)
  rw [outbound, List.getLast?_concat]

/-- Settles O30: an order taken fails a check or is handled, and its reply is the last frame made. -/
theorem everyOrderIsAnswered : Obligations.EveryOrderIsAnswered := by
  unfold Obligations.EveryOrderIsAnswered
  intro p q s head notRestart
  have taken : ∀ p', p' ≠ p → (s.taken p).port p' = s.port p' := fun p' other => port_setPort_ne _ s other
  have consumed_ : ((s.taken p).port p).queue = (s.port p).queue.tail ∧ ((s.taken p).port p).preface = none := by
    cases p <;> exact ⟨rfl, rfl⟩
  rw [exec_takingCommand p q s notRestart]
  rw [takeOrder, consumed_atHead head]
  dsimp only
  rw [taken_failedCheck]
  split
  · next x fails =>
    have inbound : ∀ p', ((failOrder p q.tag q.order x (s.taken p)).port p').inbound = ((s.taken p).port p').inbound :=
      failOrder_inbound p q.tag q.order x (s.taken p)
    refine ⟨_, _, rfl, last_pushReply .., rfl, rfl, (queue_of_inbound (inbound p)).trans consumed_.1,
      fun _ => (congrArg PortContext.preface (inbound p) :).trans consumed_.2, nofun, fun p' other => ?_⟩
    rw [← taken p' other]
    exact ⟨queue_of_inbound (inbound p'), (congrArg PortContext.preface (inbound p') :)⟩
  · next passes =>
    have port : portAllows p q.order = true := (failedCheck_eq_none_iff.mp passes).1
    have handled := handleOrder_inbound p q.tag q.order (s.taken p)
    have pushed := pushReply_inbound p (replyTo q.tag q.order (handleOrder p q.tag q.order (s.taken p)).2)
      (handleOrder p q.tag q.order (s.taken p)).1
    refine ⟨_, _, rfl, last_pushReply .., rfl, rfl, ?_, fun noPreface => ?_, fun accepted => ?_, fun p' other => ?_⟩
    · rw [queue_of_inbound (pushed p), handleOrder_queue, consumed_.1]
    · have inbound := (pushed p).trans (handled p fun _ => noPreface)
      exact (congrArg PortContext.preface inbound :).trans consumed_.2
    · obtain ⟨done, x, slot, tag⟩ := handleOrder_accepted port accepted
      exact ⟨done, x, (sent_slot ..).trans slot, tag⟩
    · have inbound := (pushed p').trans (handled p' fun same => absurd same other)
      rw [← taken p' other]
      exact ⟨queue_of_inbound inbound, (congrArg PortContext.preface inbound :)⟩

/-! ### Pictures -/

theorem sendPicture_outbound (s : State) (p : Port) :
    ((sendPicture s).port p).outbound = (s.port p).outbound ++ [.picture s.picture] := by
  cases p <;> rfl

theorem answered_closeBeforeEffort (s : State) : Answered s (closeBeforeEffort s) := by
  have ord : (dwellCheck (autClose (advancePosition (axlClose (putConfigInForce s))))).ord = (putConfigInForce s).ord := by
    simp
  have checked : Answered s (dwellCheck (autClose (advancePosition (axlClose (putConfigInForce s))))) :=
    .of_ports (by rw [ord]; rfl)
  exact ((checked.trans (answered_examineSwitch _)).trans (answered_settleCheck _)).trans (.of_ports rfl)

theorem pictureCount_of_settings {x y : Ord} (h : x.settings = y.settings) : x.pictureCount = y.pictureCount :=
  (congrArg Ord.pictureCount h :)

/-- Settles O38: the replies of the close, then the picture where the count stands at 4. -/
theorem aPictureEveryFifthClose : Obligations.APictureEveryFifthClose := by
  unfold Obligations.APictureEveryFifthClose
  intro s
  obtain ⟨u, closed⟩ : ∃ u, u = updateSand (effClose (closeBeforeEffort s)) := ⟨_, rfl⟩
  have settings : (closeBeforeEffort s).ord.settings = (putConfigInForce s).ord.settings := by simp [closeBeforeEffort]
  have ord : u.ord = (closeBeforeEffort s).ord := by rw [closed, updateSand_ord, effClose_ord]
  have count : u.ord.pictureCount = s.ord.pictureCount := by
    rw [ord, pictureCount_of_settings settings]
    rfl
  have replies : Answered s u := (answered_closeBeforeEffort s).trans (.of_ports (by rw [ord]))
  refine ⟨pictureClose u, by rw [closed]; rfl, ?_⟩
  unfold pictureClose
  rw [count]
  split
  · next early =>
    refine ⟨by simp, fun p => ?_⟩
    obtain ⟨l, all, outbound⟩ := replies.replies p
    exact ⟨l, all, by rw [List.append_nil]; exact outbound⟩
  · next fifth =>
    refine ⟨rfl, fun p => ?_⟩
    obtain ⟨l, all, outbound⟩ := replies.replies p
    refine ⟨l, all, ?_⟩
    rw [sendPicture_outbound, ← outbound]
    rfl

end Sys2Proof.Machine
end

section
/-! PROOF. LOOP's two sides of the line coding: the transmitter's bits, the decoder, and a wayside frame's delivery (R111 to
R118, R203). -/

namespace Sys2Proof.Machine

/-! ### Bits and numbers -/

theorem lowBits_length : ∀ k n : Nat, (lowBits k n).length = k
  | 0, _ => rfl
  | k + 1, n => by rw [lowBits, List.length_cons, lowBits_length k]

/-- The bits of a number of `k` bits give it back. -/
theorem ofBits_lowBits : ∀ (k n : Nat), n < 2 ^ k → ofBits (lowBits k n) = n
  | 0, n, h => by simp only [pow_zero, Nat.lt_one_iff] at h; exact h.symm
  | k + 1, n, h => by
    have half : ofBits (lowBits k (n / 2)) = n / 2 := ofBits_lowBits k (n / 2) (by omega)
    have bit : (if (n % 2 == 1) = true then 1 else 0) = n % 2 := by
      rcases Nat.mod_two_eq_zero_or_one n with e | e <;> simp [e]
    simp only [lowBits, ofBits, half, bit]
    omega

theorem frameBits_length (t : Telegram) : (frameBits t).length = 80 := by
  simp only [frameBits, fieldBlock, List.length_append, lowBits_length]
  rfl

theorem frameBit_of_lt {t : Telegram} {k : Nat} (h : k < 80) : (frameBits t)[k]? = some (frameBit t k) := by
  have inside : k < (frameBits t).length := by rw [frameBits_length]; exact h
  rw [frameBit, List.getElem?_eq_getElem inside]
  rfl

/-! ### The transmitter -/

/-- A bit sent with the transmitter set on: only the two lines change (R114). -/
theorem driveBit_changes (bit : Bool) (x : Loop) (r : Transmitter) :
    driveBit bit { x with transmitter := r } = { x with
      transmitter := r
      data := (driveBit bit { x with transmitter := r }).data
      strobe := (driveBit bit { x with transmitter := r }).strobe } := by
  unfold driveBit
  split <;> rfl

/-- Settles O23: the head telegram's next bit on the lines. -/
theorem oneLineChangesAtEachBit : Obligations.OneLineChangesAtEachBit := by
  unfold Obligations.OneLineChangesAtEachBit
  intro s
  refine ⟨fun n gap empty => ?_, fun n q rest gap queue => ?_, fun k q rest sending queue more => ?_⟩
  · have ended : gapEnded s.loop = { s.loop with transmitter := .idle } := by simp only [gapEnded, gap, beginSending, empty]
    exact congrArg (fun x => Host.Outcome.next { s with loop := x }) ended
  · have ended : gapEnded s.loop = driveBit (frameBit q.telegram 0) { s.loop with transmitter := .sending 1 } := by
      simp only [gapEnded, gap, beginSending, queue]
    obtain ⟨level, lines⟩ := driveBit_lines (frameBit q.telegram 0) { s.loop with transmitter := .sending 1 }
    have changes := driveBit_changes (frameBit q.telegram 0) s.loop (.sending 1)
    refine ⟨{ s with loop := driveBit (frameBit q.telegram 0) { s.loop with transmitter := .sending 1 } },
      congrArg (fun x => Host.Outcome.next ({ s with loop := x } : State)) ended, ?_, ?_, lines, ?_⟩
    · rw [changes]
    · rw [level]
      exact frameBit_of_lt (by decide)
    · exact congrArg (fun x => ({ s with loop := x } : State)) changes
  · have bit : sendNextBit s.loop = driveBit (frameBit q.telegram k) { s.loop with transmitter := .sending (k + 1) } := by
      have more : k < frameBitCount := more
      simp only [sendNextBit, sending, queue, if_pos more]
    obtain ⟨level, lines⟩ := driveBit_lines (frameBit q.telegram k) { s.loop with transmitter := .sending (k + 1) }
    have changes := driveBit_changes (frameBit q.telegram k) s.loop (.sending (k + 1))
    refine ⟨{ s with loop := driveBit (frameBit q.telegram k) { s.loop with transmitter := .sending (k + 1) } },
      congrArg (fun x => Host.Outcome.next ({ s with loop := x } : State)) bit, ?_, ?_, lines, ?_⟩
    · rw [changes]
    · rw [level]
      exact frameBit_of_lt more
    · exact congrArg (fun x => ({ s with loop := x } : State)) changes

/-! ### The decoder -/

/-- A change of one line by the decoder's state (R114, R116). -/
theorem lineChange_one {s : State} {c : LineChange} (one : c ≠ .both) :
    lineChange c s = match s.loop.decoder with
      | .quiet => takeBit [] (levelAfter c s.loop.inboundData) s
      | .receiving bits => takeBit bits (levelAfter c s.loop.inboundData) s
      | .skip => setDecoder .skip (levelAfter c s.loop.inboundData) s := by
  cases c with
  | both => exact absurd rfl one
  | data => rfl
  | strobe => rfl

theorem takeBit_short {bits : List Bool} (bit : Bool) (s : State) (short : bits.length < 79) :
    takeBit bits bit s = setDecoder
      (if bits.length < 16 ∧ startPattern[bits.length]? ≠ some bit then .skip else .receiving (bits ++ [bit])) bit s := by
  have length : (bits ++ [bit]).length < frameBitCount := by
    rw [List.length_append]
    exact Nat.succ_lt_succ short
  simp only [takeBit, eq_iff_iff, iff_false, if_pos length]
  split <;> rfl

/-- Settles O24: the decoder's three states. -/
theorem inboundLinesBringBits : Obligations.InboundLinesBringBits := by
  unfold Obligations.InboundLinesBringBits
  intro s c bit level
  have level : levelAfter c s.loop.inboundData = bit := by
    rw [level]
    cases c <;> rfl
  refine ⟨?_, fun one skip => ?_, fun one quiet => ?_, fun bits one receiving short => ?_, fun bits receiving => ?_,
    fun skip => ?_⟩
  · rintro rfl
    rw [← level]
    rfl
  · have changed : lineChange c s = setDecoder .skip bit s := by
      rw [lineChange_one one, level]
      simp only [skip]
    refine congrArg Host.Outcome.next (changed.trans ?_)
    rw [← skip]
    rfl
  · have changed : lineChange c s = takeBit [] bit s := by
      rw [lineChange_one one, level]
      simp only [quiet]
    refine congrArg Host.Outcome.next (changed.trans ((takeBit_short (bits := []) bit s (by decide)).trans ?_))
    cases bit <;> rfl
  · have changed : lineChange c s = takeBit bits bit s := by
      rw [lineChange_one one, level]
      simp only [receiving]
    exact congrArg Host.Outcome.next (changed.trans (takeBit_short bit s short))
  · have cut : cutOffDecoder s.loop = { s.loop with decoder := .skip } := by simp only [cutOffDecoder, receiving]
    exact congrArg (fun x => Host.Outcome.next { s with loop := x }) cut
  · have ended : endInboundGap s.loop = { s.loop with decoder := .quiet } := by simp only [endInboundGap, skip]
    exact congrArg (fun x => Host.Outcome.next { s with loop := x }) ended

/-! ### A wayside frame (R115, R117, R203) -/

theorem waysideBlock_length (f : InboundFields) : (waysideBlock f).length = 48 := by
  simp only [waysideBlock, List.length_append, lowBits_length]

theorem waysideFrame_length (f : InboundFields) : (waysideFrame f).length = 80 := by
  simp only [waysideFrame, List.length_append, lowBits_length, waysideBlock_length]
  rfl

/-- A field of a block is the number whose bits stand there. -/
theorem fieldAt_append {pre bits : List Bool} {i k n : Nat} (post : List Bool) (at_ : pre.length = i)
    (field : bits = lowBits k n) (small : n < 2 ^ k) : fieldAt i k (pre ++ (bits ++ post)) = n := by
  have length : bits.length = k := by rw [field, lowBits_length]
  rw [fieldAt, ← at_, List.drop_left, ← length, List.take_left, field, ofBits_lowBits k n small]

/-- The field block gives back each field (spec 11.7). -/
theorem readBlock_waysideBlock {f : InboundFields} (small : f.kind < 16) : readBlock (waysideBlock f) = f := by
  have kind : fieldAt 0 4 (waysideBlock f) = f.kind := by
    simp only [waysideBlock, List.append_assoc]
    exact fieldAt_append (pre := []) _ rfl rfl small
  have tram : fieldAt 4 14 (waysideBlock f) = f.tram.toNat := by
    simp only [waysideBlock, List.append_assoc]
    exact fieldAt_append _ (lowBits_length 4 _) rfl f.tram.isLt
  have junction : fieldAt 18 12 (waysideBlock f) = f.junction.toNat := by
    have block : waysideBlock f = (lowBits 4 f.kind ++ lowBits 14 f.tram.toNat) ++ (lowBits 12 f.junction.toNat ++
        (lowBits 4 f.number.toNat ++ lowBits 3 f.qualifier.toNat ++ lowBits 11 0)) := by
      simp only [waysideBlock, List.append_assoc]
    rw [block]
    exact fieldAt_append _ (by simp [lowBits_length]) rfl f.junction.isLt
  have number : fieldAt 30 4 (waysideBlock f) = f.number.toNat := by
    have block : waysideBlock f = (lowBits 4 f.kind ++ lowBits 14 f.tram.toNat ++ lowBits 12 f.junction.toNat) ++
        (lowBits 4 f.number.toNat ++ (lowBits 3 f.qualifier.toNat ++ lowBits 11 0)) := by
      simp only [waysideBlock, List.append_assoc]
    rw [block]
    exact fieldAt_append _ (by simp [lowBits_length]) rfl f.number.isLt
  have qualifier : fieldAt 34 3 (waysideBlock f) = f.qualifier.toNat := by
    have block : waysideBlock f = (lowBits 4 f.kind ++ lowBits 14 f.tram.toNat ++ lowBits 12 f.junction.toNat
        ++ lowBits 4 f.number.toNat) ++ (lowBits 3 f.qualifier.toNat ++ lowBits 11 0) := by
      simp only [waysideBlock, List.append_assoc]
    rw [block]
    exact fieldAt_append _ (by simp [lowBits_length]) rfl f.qualifier.isLt
  simp only [readBlock, kind, tram, junction, number, qualifier, BitVec.ofNat_toNat, BitVec.setWidth_eq]

theorem readFrame_waysideFrame {f : InboundFields} (small : f.kind < 16) : readFrame (waysideFrame f) = some f := by
  have start : startPattern.length = 16 := rfl
  have block : ((waysideFrame f).drop 16).take 48 = waysideBlock f := by
    rw [waysideFrame, List.append_assoc, List.drop_left' start, List.take_left' (waysideBlock_length f)]
  have head : (startPattern ++ waysideBlock f).length = 64 := by rw [List.length_append, start, waysideBlock_length]
  have check : (waysideFrame f).drop 64 = lowBits 16 (frameCheck (waysideBlock f)).toNat := by
    rw [waysideFrame, List.drop_left' head]
  have holds : ofBits ((waysideFrame f).drop 64) = (frameCheck (waysideBlock f)).toNat := by
    rw [check]
    exact ofBits_lowBits 16 _ (frameCheck (waysideBlock f)).isLt
  simp only [readFrame, block, holds, if_true, readBlock_waysideBlock small]

/-! ### A frame's changes on the lines -/

/-- The change that carries a bit leaves the data line at its level (R114). -/
theorem levelAfter_carrier (level bit : Bool) :
    levelAfter (if bit = level then .strobe else .data) level = bit := by
  cases level <;> cases bit <;> rfl

theorem exec_carrier {s : State} {bits : List Bool} (bit : Bool)
    (decoder : s.loop.decoder = .receiving bits ∨ (s.loop.decoder = .quiet ∧ bits = [])) :
    exec (.inboundLineChange (if bit = s.loop.inboundData then .strobe else .data)) s = .next (takeBit bits bit s) := by
  have one : (if bit = s.loop.inboundData then LineChange.strobe else .data) ≠ .both := by
    split <;> nofun
  refine congrArg Host.Outcome.next ?_
  rw [lineChange_one one, levelAfter_carrier]
  rcases decoder with receiving | ⟨quiet, rfl⟩
  · simp only [receiving]
  · simp only [quiet]

/-- The rest of a frame's bits, from a decoder that has taken those before: the last brings the frame's examination. -/
theorem runCommands_bits : ∀ (rest bits : List Bool) (s : State),
    s.loop.decoder = .receiving bits ∨ (s.loop.decoder = .quiet ∧ bits = []) → bits.length + rest.length = 80 →
    rest ≠ [] → (bits ++ rest).take 16 = startPattern →
    runCommands ((changesFor s.loop.inboundData rest).map Instr.inboundLineChange) s
      = .next (examineFrame (bits ++ rest) (setDecoder .skip (rest.getLast?.getD false) s))
  | [], _, _, _, _, nonempty, _ => absurd rfl nonempty
  | [b], bits, s, decoder, whole, _, _ => by
    have late : ¬ (bits.length < 16 ∧ (startPattern[bits.length]? = some b) = False) := by
      simp only [List.length_cons, List.length_nil] at whole
      omega
    have last : ¬ (bits ++ [b]).length < frameBitCount := by
      rw [List.length_append, whole]
      exact Nat.lt_irrefl 80
    rw [changesFor, changesFor, List.map_cons, runCommands_cons (exec_carrier b decoder), takeBit, if_neg late, if_neg last]
    rfl
  | b :: c :: rest, bits, s, decoder, whole, _, start => by
    have short : bits.length < 79 := by simp only [List.length_cons] at whole; omega
    have fits : ¬ (bits.length < 16 ∧ startPattern[bits.length]? ≠ some b) := by
      rintro ⟨early, differs⟩
      refine differs ?_
      rw [← start, List.getElem?_take_of_lt early, List.getElem?_append_right (Nat.le_refl _)]
      simp
    have taken : takeBit bits b s = setDecoder (.receiving (bits ++ [b])) b s := by
      rw [takeBit_short b s short, if_neg fits]
    have next := runCommands_bits (c :: rest) (bits ++ [b]) (setDecoder (.receiving (bits ++ [b])) b s) (.inl rfl)
      (by simp only [List.length_append, List.length_cons, List.length_nil] at whole ⊢; omega) (by simp)
      (by simpa using start)
    have level : (setDecoder (.receiving (bits ++ [b])) b s).loop.inboundData = b := rfl
    rw [level] at next
    rw [changesFor, List.map_cons, runCommands_cons (exec_carrier b decoder), taken, next, List.append_assoc]
    rfl

/-- A telegram's delivery is the command it stands for (R118). -/
theorem deliver_eq_command (f : InboundFields) (u : State) :
    Host.Outcome.next (deliver f u) = match waysideCommand f with
      | some c => exec c u
      | none => .next u := by
  unfold deliver waysideCommand
  split
  · next h => rw [h]; rfl
  · next h => rw [h]; rfl
  · next h => rw [h]; rfl
  · next h => rw [h]; rfl
  · next h => rw [h]; rfl
  · next h4 h5 h6 h7 h8 => rw [if_neg h4, if_neg h5, if_neg h6, if_neg h7, if_neg h8]

/-- Settles O25: the bits run through the decoder, and the frame reads back its fields. -/
theorem aFrameOnTheLinesIsDelivered : Obligations.AFrameOnTheLinesIsDelivered := by
  unfold Obligations.AFrameOnTheLinesIsDelivered
  intro f s u small quiet at_
  have examined : examineFrame (waysideFrame f) u = deliver f u := by
    rw [examineFrame, readFrame_waysideFrame small]
  have nonempty : waysideFrame f ≠ [] := by
    intro empty
    have length := waysideFrame_length f
    rw [empty] at length
    cases length
  have start : ([] ++ waysideFrame f).take 16 = startPattern := by
    rw [List.nil_append, waysideFrame, List.append_assoc]
    exact List.take_left' rfl
  have run := runCommands_bits (waysideFrame f) [] s (.inr ⟨quiet, rfl⟩) (by rw [waysideFrame_length]; rfl) nonempty start
  have effect : examineFrame ([] ++ waysideFrame f) (setDecoder .skip ((waysideFrame f).getLast?.getD false) s)
      = deliver f u := by
    rw [← examined, at_]
    rfl
  exact (run.trans (congrArg Host.Outcome.next effect)).trans (deliver_eq_command f u)

end Sys2Proof.Machine
end

section
/-! PROOF. What the wayside's answers do to a junction of the live plan (R92 to R95, R101, R102, R117). -/

namespace Sys2Proof.Machine

/-! ### Entries and their slots -/

theorem mem_entriesFrom {e : Entry} {i : Nat} : ∀ {k : Nat} {slots : List (Option Entry)},
    (i, e) ∈ entriesFrom k slots ↔ k ≤ i ∧ slots[i - k]? = some (some e)
  | k, [] => by simp [entriesFrom]
  | k, none :: rest => by
    rw [entriesFrom, mem_entriesFrom]
    rcases Nat.lt_trichotomy i k with below | rfl | above
    · simp [Nat.not_le.mpr below, Nat.not_le.mpr (Nat.lt_succ_of_lt below)]
    · simp
    · obtain ⟨d, rfl⟩ := Nat.exists_eq_add_of_lt above
      have step : k + d + 1 - k = d + 1 := by omega
      have step' : k + d + 1 - (k + 1) = d := by omega
      simp [step, step', show k ≤ k + d + 1 by omega, show k + 1 ≤ k + d + 1 by omega]
  | k, some x :: rest => by
    rw [entriesFrom, List.mem_cons, mem_entriesFrom, Prod.mk.injEq]
    rcases Nat.lt_trichotomy i k with below | rfl | above
    · simp [Nat.not_le.mpr below, Nat.not_le.mpr (Nat.lt_succ_of_lt below), below.ne]
    · simp [eq_comm]
    · obtain ⟨d, rfl⟩ := Nat.exists_eq_add_of_lt above
      have step : k + d + 1 - k = d + 1 := by omega
      have step' : k + d + 1 - (k + 1) = d := by omega
      simp [step, step', show k ≤ k + d + 1 by omega, show k + 1 ≤ k + d + 1 by omega, above.ne']

/-- A bank's entries are those its slots hold. -/
theorem mem_entries {s : State} {b : BankName} {i : Nat} {e : Entry} :
    (i, e) ∈ (s.bank b).entries ↔ s.entryAt b i = some e := by
  rw [Bank.entries, mem_entriesFrom, State.entryAt, Nat.sub_zero, Option.join_eq_some_iff]
  simp

theorem isJunction_iff {id : Nat} {e : Entry} : isJunction id e = true ↔ e.id = id ∧ ∃ j, e.point = .junction j := by
  unfold isJunction Entry.junction?
  cases e.point <;> simp

/-- The live plan's junction with an id stands in a slot of the live bank. -/
theorem slot_of_liveJunction {s : State} {id i : Nat} {b : BankName} {e : Entry}
    (live : s.liveJunction id = some (b, i, e)) : s.liveBank = some b ∧ s.entryAt b i = some e ∧ e.id = id := by
  unfold State.liveJunction at live
  split at live
  · cases live
  · next c bank =>
    obtain ⟨x, found, same⟩ := Option.map_eq_some_iff.mp live
    obtain ⟨j, d⟩ := x
    obtain ⟨rfl, rfl, rfl⟩ : c = b ∧ j = i ∧ d = e := by simpa using same
    have junction : isJunction id d = true := List.find?_some (p := fun x : Nat × Entry => isJunction id x.2) found
    exact ⟨bank, mem_entries.mp (List.mem_of_find?_eq_some found), (isJunction_iff.mp junction).1⟩

theorem modEntry_of_entryAt {s : State} {b : BankName} {i : Nat} {e : Entry} (f : Entry → Entry)
    (at_ : s.entryAt b i = some e) : s.modEntry b i f = s.withSlot b i (some (f e)) := by
  have slot : (s.bank b).slots[i]? = some (some e) := Option.join_eq_some_iff.mp at_
  have slots : (s.bank b).slots.modify i (Option.map f) = (s.bank b).slots.set i (some (f e)) := by
    rw [List.modify_eq_set_getElem?, slot]
    rfl
  rw [State.modEntry, slots, State.withSlot]

theorem modJunction_of_entryAt {s : State} {b : BankName} {i : Nat} {e : Entry} {j : Junction} (f : Junction → Junction)
    (at_ : s.entryAt b i = some e) (junction : e.point = .junction j) :
    s.modJunction b i f = s.withSlot b i (some { e with point := .junction (f j) }) := by
  rw [State.modJunction, modEntry_of_entryAt _ at_, Entry.modJunction, junction]

/-- A junction of the live plan changed by a function of it. -/
theorem modJunction_of_hasJunction {s : State} {id i : Nat} {b : BankName} {e : Entry} {j : Junction}
    (has : s.hasJunction id b i e j) (f : Junction → Junction) :
    s.modJunction b i f = s.withSlot b i (some { e with point := .junction (f j) }) :=
  modJunction_of_entryAt f (slot_of_liveJunction has.1).2.1 has.2

theorem junction?_of_point {e : Entry} {j : Junction} (h : e.point = .junction j) : e.junction? = some j := by
  rw [Entry.junction?, h]

theorem point_of_junction? {e : Entry} {j : Junction} (h : e.junction? = some j) : e.point = .junction j := by
  unfold Entry.junction? at h
  split at h
  · next k point => rw [point, Option.some.inj h]
  · cases h

/-! ### An outstanding SETTLE (R102) -/

theorem inExchange_iff {x : JunctionState} : inExchange x = true ↔ x = .asked ∨ x = .moving := by
  cases x <;> simp [inExchange]

theorem mem_liveJunctionStates {s : State} {y : JunctionState} : y ∈ s.liveJunctionStates
    ↔ ∃ x ∈ s.liveEntries, ∃ j, x.2.point = .junction j ∧ j.state = y := by
  have point : ∀ e : Entry, e.junction?.map Junction.state = some y ↔ ∃ j, e.point = .junction j ∧ j.state = y := fun e => by
    unfold Entry.junction?
    cases e.point <;> simp
  simp only [State.liveJunctionStates, List.mem_filterMap, point]

theorem exchangeInProgress_iff {s : State} : s.exchangeInProgress = true
    ↔ ∃ x ∈ s.liveEntries, ∃ j, x.2.point = .junction j ∧ (j.state = .asked ∨ j.state = .moving) := by
  simp only [State.exchangeInProgress, List.any_eq_true, mem_liveJunctionStates, inExchange_iff]
  constructor
  · rintro ⟨y, ⟨x, mem, j, point, rfl⟩, state⟩
    exact ⟨x, mem, j, point, state⟩
  · rintro ⟨x, mem, j, point, state⟩
    exact ⟨j.state, ⟨x, mem, j, point, rfl⟩, state⟩

/-- A port and its settle list once an outstanding SETTLE of it has completed (R102). -/
def settled (c : PortContext) (x : SettleList) : PortContext × SettleList :=
  match c.slot with
  | none => (c, x)
  | some y =>
    if y.order = .settle then
      ({ c with slot := none, outbound := c.outbound ++ [completionReply y.tag 28 .done (.settle x.ids x.more)] },
        { ids := [], more := false })
    else (c, x)

theorem perPort_set_get {α : Type} (t : PerPort α) (p : Port) : t.set p (t.get p) = t := by
  cases p <;> rfl

theorem completeSettle_eq (s : State) (p : Port) : completeSettle s p = { s with
    jct.lists := s.jct.lists.set p (settled (s.port p) (s.jct.lists.get p)).2
    ord.ports := s.ord.ports.set p (settled (s.port p) (s.jct.lists.get p)).1 } := by
  have kept : ({ s with jct.lists := s.jct.lists.set p (s.jct.lists.get p)
                        ord.ports := s.ord.ports.set p (s.port p) } : State) = s := by
    rw [perPort_set_get, State.port, perPort_set_get]
  unfold completeSettle settled
  dsimp only
  cases slot : (s.port p).slot with
  | none => exact kept.symm
  | some y =>
    dsimp only
    by_cases order : y.order = .settle
    · rw [if_pos order, if_pos order, completeSlot, slot]
      dsimp only
      rw [if_pos order]
      cases p <;> rfl
    · rw [if_neg order, if_neg order]
      exact kept.symm

/-- Outstanding SETTLEs complete on every port at once (R102). -/
theorem settleCheck_eq {s : State} (none_ : s.exchangeInProgress = false) : settleCheck s = { s with
    jct.lists := ⟨(settled s.ord.ports.end1 s.jct.lists.end1).2, (settled s.ord.ports.end2 s.jct.lists.end2).2,
      (settled s.ord.ports.vehicle s.jct.lists.vehicle).2⟩
    ord.ports := ⟨(settled s.ord.ports.end1 s.jct.lists.end1).1, (settled s.ord.ports.end2 s.jct.lists.end2).1,
      (settled s.ord.ports.vehicle s.jct.lists.vehicle).1⟩ } := by
  rw [settleCheck, if_neg (by rw [none_]; exact Bool.false_ne_true)]
  simp only [allPorts, List.foldl_cons, List.foldl_nil, completeSettle_eq]
  rfl

theorem settled_of_outstanding {c : PortContext} {x : SettleList} {y : Slot} (slot : c.slot = some y)
    (order : y.order = .settle) : settled c x
      = ({ c with slot := none, outbound := c.outbound ++ [completionReply y.tag 28 .done (.settle x.ids x.more)] },
          { ids := [], more := false }) := by
  rw [settled, slot]
  exact if_pos order

theorem settled_of_not {s : State} {p : Port} {x : SettleList} (not : s.settleOutstanding p = false) :
    settled (s.port p) x = (s.port p, x) := by
  unfold State.settleOutstanding at not
  unfold settled
  split
  · rfl
  · next y slot =>
    rw [slot] at not
    exact if_neg fun order => by simp [order] at not

/-- The check after an event is what R102 says of it. -/
theorem settleCompleted_settleCheck (s : State) : settleCompleted s (settleCheck s) := by
  constructor
  · intro exchange
    rw [settleCheck, if_pos (exchangeInProgress_iff.mpr exchange)]
  · intro none_
    have idle : s.exchangeInProgress = false := by
      rw [Bool.eq_false_iff]
      intro exchange
      obtain ⟨x, mem, j, point, state⟩ := exchangeInProgress_iff.mp exchange
      obtain ⟨asked, moving⟩ := none_ x mem j point
      exact state.elim asked moving
    rw [settleCheck_eq idle]
    refine ⟨rfl, fun p => ⟨fun not => ?_, fun x slot order => ?_⟩⟩
    · have same := settled_of_not (x := s.jct.lists.get p) not
      cases p <;> exact ⟨congrArg Prod.fst same, congrArg Prod.snd same⟩
    · have done := settled_of_outstanding (x := s.jct.lists.get p) slot order
      cases p <;> exact ⟨congrArg Prod.fst done, congrArg Prod.snd done⟩

/-- With none outstanding the check does nothing. -/
theorem settleCheck_of_none {s : State} (law : ∀ p, s.settleOutstanding p = true → s.exchangeInProgress = true) :
    settleCheck s = s := by
  cases exchange : s.exchangeInProgress with
  | true => rw [settleCheck, if_pos exchange]
  | false =>
    have not : ∀ p, s.settleOutstanding p = false := fun p =>
      Bool.eq_false_iff.mpr fun out => Bool.false_ne_true (exchange.symm.trans (law p out))
    have e1 : settled s.ord.ports.end1 s.jct.lists.end1 = (s.ord.ports.end1, s.jct.lists.end1) :=
      settled_of_not (not .end1)
    have e2 : settled s.ord.ports.end2 s.jct.lists.end2 = (s.ord.ports.end2, s.jct.lists.end2) :=
      settled_of_not (not .end2)
    have e3 : settled s.ord.ports.vehicle s.jct.lists.vehicle = (s.ord.ports.vehicle, s.jct.lists.vehicle) :=
      settled_of_not (not .vehicle)
    rw [settleCheck_eq exchange, e1, e2, e3]

/-! ### The answers -/

theorem admits_of {s : State} {tram : BitVec 14} {w : BitVec 12} (junction : w ≠ 0) (tram_ : tram ≠ 0)
    (own : (tram.toNat : Int) = s.cfg .tramId) : s.admits tram w = true := by
  simp only [State.admits, Bool.and_eq_true, bne_iff_ne, decide_eq_true_eq]
  exact ⟨⟨junction, tram_⟩, own⟩

/-- Settles O17: ACCEPT and SET change the entry's slot; SET is followed by the check of R102. -/
theorem acceptAndSetAdvanceTheExchange : Obligations.AcceptAndSetAdvanceTheExchange := by
  unfold Obligations.AcceptAndSetAdvanceTheExchange
  intro tram id n s b i e j junction tram_ own has number
  have admits := admits_of junction tram_ own
  have junction? := junction?_of_point has.2
  constructor
  · intro asked
    have taken : takeAccept id.toNat n s = s.modJunction b i fun j => { j with state := .moving, timer := .start movingLimit } := by
      simp [takeAccept, has.1, junction?, number, asked]
    have changed := taken.trans (modJunction_of_hasJunction has _)
    exact congrArg Host.Outcome.next ((if_pos admits).trans changed)
  · intro exchange
    have taken : takeSet id.toNat n s = s.modJunction b i fun j => { j with state := .locked, timer := .stopped } := by
      simp [takeSet, has.1, junction?, number, inExchange_iff.mpr exchange]
    have changed := taken.trans (modJunction_of_hasJunction has _)
    refine ⟨_, congrArg Host.Outcome.next ((if_pos admits).trans (congrArg settleCheck changed)), ?_⟩
    exact settleCompleted_settleCheck _

theorem offerToLists_get (id : Nat) (s : State) (p : Port) :
    (offerToLists id s).jct.lists.get p = offerId id (s.jct.lists.get p) := by
  cases p <;> rfl

/-- Settles O18: the entry's slot, the record, the settle lists, then the check of R102. -/
theorem refusedAndLostJunctionsAreReported : Obligations.RefusedAndLostJunctionsAreReported := by
  unfold Obligations.RefusedAndLostJunctionsAreReported
  intro s id b i e j has exchange command x k c cause
  have junction? := junction?_of_point has.2
  obtain ⟨u, reported⟩ : ∃ u, u = offerToLists id (storeFault k c (.junction id) none
    (s.withSlot b i (some { e with point := .junction { j with state := x, timer := .stopped } }))) := ⟨_, rfl⟩
  have notStop : c ≠ .stop := by rcases cause with ⟨-, -, -, -, -, -, -, -, -, -, -, -, rfl⟩ | ⟨-, -, -, -, rfl⟩ <;> nofun
  have ended : exec command s = .next (settleCheck u) := by
    rcases cause with ⟨tram, w, q, y, tram_, junction, own, rfl, reason, rfl, rfl, rfl, rfl⟩ | ⟨runs, rfl, rfl, rfl, rfl⟩
    · have read : readReason q.toNat = some y := by
        simp only [List.mem_cons, Prod.mk.injEq, List.not_mem_nil, or_false] at reason
        rcases reason with ⟨rfl, rfl⟩ | ⟨rfl, rfl⟩ | ⟨rfl, rfl⟩ | ⟨rfl, rfl⟩ <;> rfl
      have taken : takeRefuse w.toNat j.number y s = u := by
        rw [reported, ← modJunction_of_hasJunction has fun j => { j with state := .refused y, timer := .stopped }]
        simp only [takeRefuse, has.1, junction?, inExchange_iff.mpr exchange, and_self, if_true]
        rfl
      have received : receiveRefuse tram w j.number q s = settleCheck u := by
        simp only [receiveRefuse, read, admits_of junction tram_ own, if_true, taken]
      exact congrArg Host.Outcome.next received
    · have running : j.timer.isRunning = true := by
        cases timer : j.timer with
        | stopped => exact absurd timer runs
        | running => rfl
      have expired : exchangeExpired id s = u := by
        rw [reported, ← modJunction_of_hasJunction has fun j => { j with state := .lost, timer := .stopped }]
        simp only [exchangeExpired, has.1, junction?, inExchange_iff.mpr exchange, running, and_self, if_true]
        rfl
      exact congrArg (fun u => Host.Outcome.next (settleCheck u)) expired
  have lists : ∀ p, u.jct.lists.get p = offerId id (s.jct.lists.get p) := fun p => by
    rw [reported, offerToLists_get]
    exact congrArg (fun x : Jct => offerId id (x.lists.get p)) (setBank_jct ..)
  refine ⟨_, u, ended, settleCompleted_settleCheck u, by rw [reported]; rfl, ?_, lists⟩
  have raised := storeFault_raised k c (.junction id)
    (s.withSlot b i (some { e with point := .junction { j with state := x, timer := .stopped } })) notStop
  rw [show (s.withSlot b i (some { e with point := .junction { j with state := x, timer := .stopped } })).flt = s.flt from
      setBank_flt .., State.withSlot, setBank_pth_p] at raised
  rw [reported]
  exact raised

/-! ### A lost lock (R95) -/

theorem mem_open_of_any {k : FaultKind} {q : List FaultRecord} (none_ : ∀ r ∈ q, r.acked ≠ some false) :
    q.any (isOpenStop k) = false := by
  rw [List.any_eq_false]
  intro r mem
  simp [isOpenStop, none_ r mem]

/-- With the latch clear and no STOP fault open, a STOP fault is stored and sets the latch (R166). -/
theorem raiseStop_first {k : FaultKind} {key : FaultKey} {s : State} (clear : s.flt.latch = false)
    (none_ : ∀ r ∈ s.flt.queue, r.acked ≠ some false) :
    raiseStop k key s = { storeFault k .stop key none s with flt.latch := true } := by
  rcases raiseStop_cases k key s with ⟨any, -⟩ | ⟨-, -, e⟩ | ⟨-, set, -⟩ | ⟨-, set, -⟩
  · exact absurd (any.symm.trans (mem_open_of_any none_)) Bool.false_ne_true.symm
  · exact e
  · exact absurd (clear.symm.trans set) Bool.false_ne_true
  · exact absurd (clear.symm.trans set) Bool.false_ne_true

/-- Settles O19: the entry LOST, the record by the stand start. -/
theorem lockLostTakesItsClassFromThePosition : Obligations.LockLostTakesItsClassFromThePosition := by
  unfold Obligations.LockLostTakesItsClassFromThePosition
  intro tram w s b i e j junction tram_ own has locked clear none_
  obtain ⟨-, -, id⟩ := slot_of_liveJunction has.1
  have junction? := junction?_of_point has.2
  obtain ⟨u, lost⟩ : ∃ u, u = offerToLists w.toNat (s.modJunction b i lostJunction) := ⟨_, rfl⟩
  have pth : u.pth = (s.withSlot b i (some { e with point := .junction { j with state := .lost, timer := .stopped } })).pth := by
    rw [lost, modJunction_of_hasJunction has]
    rfl
  have flt : u.flt = s.flt := by rw [lost]; exact modJunction_flt ..
  have at_ : u.pth.p = s.pth.p := by rw [lost]; exact modJunction_pth_p ..
  have taken : receiveLockLost tram w j.number s = raiseLockLost e u := by
    rw [lost]
    simp only [receiveLockLost, admits_of junction tram_ own, if_true, takeLockLost, has.1, junction?, locked, and_self]
  have others : u.eff = s.eff ∧ u.aut = s.aut ∧ u.axl = s.axl ∧ u.loop = s.loop ∧ u.stp = s.stp ∧ u.snd = s.snd
      ∧ u.ord = s.ord := by
    rw [lost]
    simp [offerToLists]
  have raised : ∃ r, raiseLockLost e u = { u with flt := (raiseLockLost e u).flt }
      ∧ (∃ room, roomMade s.flt.queue room ∧ (raiseLockLost e u).flt.queue = room ++ [r])
      ∧ r.kind = .lockLost ∧ r.key = .junction w.toNat ∧ r.p = s.pth.p ∧ r.tag = none
      ∧ (if e.distance - s.cfgNat .standLen ≤ s.pth.p then
          r.cls = .stop ∧ r.acked = some false ∧ (raiseLockLost e u).flt.latch = true
        else r.cls = .restrict ∧ r.acked = none ∧ (raiseLockLost e u).flt.latch = false)
      ∧ (raiseLockLost e u).flt.halt = s.flt.halt
      ∧ (raiseLockLost e u).flt.serial = (if s.flt.serial = 65535 then 1 else s.flt.serial + 1) := by
    have stand : u.standStart e = e.distance - s.cfgNat .standLen := by
      rw [State.standStart, State.cfgNat, State.cfg, others.2.2.2.2.2.2]
      rfl
    have stored : ∀ c, ∃ room, roomMade s.flt.queue room ∧ makeRoom u.flt.queue ++ [newRecord .lockLost c (.junction e.id) none u]
        = room ++ [newRecord .lockLost c (.junction e.id) none u] := fun c => ⟨_, makeRoom_made _, by rw [flt]⟩
    unfold raiseLockLost
    rw [stand, at_]
    split
    · rw [raiseStop_first (by rw [flt]; exact clear) (by rw [flt]; exact none_)]
      exact ⟨_, rfl, stored .stop, rfl, by rw [← id]; rfl, at_, rfl, ⟨rfl, rfl, rfl⟩, (congrArg Flt.halt flt :),
        (congrArg (fun f : Flt => nextSerial f.serial) flt :)⟩
    · exact ⟨_, rfl, stored .restrict, rfl, by rw [← id]; rfl, at_, rfl, ⟨rfl, rfl, (congrArg Flt.latch flt :).trans clear⟩,
        (congrArg Flt.halt flt :), (congrArg (fun f : Flt => nextSerial f.serial) flt :)⟩
  obtain ⟨r, changes, room, kind, key, p, tag, cls, halt, serial⟩ := raised
  refine ⟨raiseLockLost e u, r, congrArg Host.Outcome.next taken, ?_, room, kind, key, p, tag, cls, halt, serial, ?_⟩
  · rw [changes]
    exact pth
  · rw [changes]
    exact others

/-- Settles O20: the tests of R117 and R92, one after another. -/
theorem strayAnswersChangeNothing : Obligations.StrayAnswersChangeNothing := by
  unfold Obligations.StrayAnswersChangeNothing
  intro tram w n q s
  refine ⟨fun reason => ?_, fun foreign => ?_, fun notAsked => ?_, fun law notIn => ?_, fun notLocked => ?_⟩
  · have read : readReason q.toNat = none := by
      unfold readReason
      split
      case h_5 => rfl
      all_goals omega
    have refused : receiveRefuse tram w n q s = s := by simp only [receiveRefuse, read]
    exact congrArg Host.Outcome.next refused
  · have admits : s.admits tram w = false := by
      rw [Bool.eq_false_iff, State.admits]
      simp only [ne_eq, Bool.and_eq_true, bne_iff_ne, decide_eq_true_eq, not_and]
      intro both own
      rcases foreign with h | h | h
      · exact both.2 h
      · exact both.1 h
      · exact h own
    have notAdmitted : ¬ s.admits tram w = true := by rw [admits]; exact Bool.false_ne_true
    refine ⟨congrArg Host.Outcome.next (if_neg notAdmitted), congrArg Host.Outcome.next (if_neg notAdmitted),
      congrArg Host.Outcome.next ?_, congrArg Host.Outcome.next (if_neg notAdmitted)⟩
    unfold receiveRefuse
    split
    · rfl
    · exact if_neg notAdmitted
  · have taken : takeAccept w.toNat n s = s := by
      unfold takeAccept
      split
      · rfl
      · next b i e live =>
        split
        · rfl
        · next j junction =>
          exact if_neg fun h => notAsked b i e j ⟨live, point_of_junction? junction⟩ h.1 h.2
    refine congrArg Host.Outcome.next ?_
    rw [receiveAccept, taken, ite_self]
  · have stays : ∀ b i e j, s.liveJunction w.toNat = some (b, i, e) → e.junction? = some j →
        ¬ (j.number = n ∧ inExchange j.state = true) := by
      rintro b i e j live junction ⟨number, exchange⟩
      obtain ⟨asked, moving⟩ := notIn b i e j ⟨live, point_of_junction? junction⟩ number
      exact (inExchange_iff.mp exchange).elim asked moving
    have set : takeSet w.toNat n s = s := by
      unfold takeSet
      split
      · rfl
      · next b i e live =>
        split
        · rfl
        · next j junction => exact if_neg (stays b i e j live junction)
    have refused : ∀ r, takeRefuse w.toNat n r s = s := fun r => by
      unfold takeRefuse
      split
      · rfl
      · next b i e live =>
        split
        · rfl
        · next j junction => exact if_neg (stays b i e j live junction)
    have checked := settleCheck_of_none law
    constructor
    · refine congrArg Host.Outcome.next ?_
      rw [receiveSet, set, checked, ite_self]
    · refine congrArg Host.Outcome.next ?_
      unfold receiveRefuse
      split
      · rfl
      · rw [refused, checked, ite_self]
  · have taken : takeLockLost w.toNat n s = s := by
      unfold takeLockLost
      split
      · rfl
      · next b i e live =>
        split
        · rfl
        · next j junction =>
          exact if_neg fun h => notLocked b i e j ⟨live, point_of_junction? junction⟩ h.1 h.2
    refine congrArg Host.Outcome.next ?_
    rw [receiveLockLost, taken, ite_self]

end Sys2Proof.Machine
end

section
/-! PROOF. What is offered to LOOP: RETRY and OVERRIDE (R96, R97), and the due heads at a completion (R90, R113). -/

namespace Sys2Proof.Machine

/-! ### One slot replaced -/

theorem withSlot_changes (s : State) (b : BankName) (i : Nat) (x : Option Entry) : s.withSlot b i x
    = { s with pth.bankA := (s.withSlot b i x).pth.bankA, pth.bankB := (s.withSlot b i x).pth.bankB } := by
  cases b <;> rfl

@[simp] theorem withSlot_loop (s : State) (b : BankName) (i : Nat) (x : Option Entry) : (s.withSlot b i x).loop = s.loop :=
  setBank_loop ..

theorem withSlot_state (s : State) (b c : BankName) (i : Nat) (x : Option Entry) :
    ((s.withSlot b i x).bank c).state = (s.bank c).state := by
  cases b <;> cases c <;> rfl

theorem withSlot_withSlot (s : State) (b : BankName) (i : Nat) (x y : Option Entry) :
    (s.withSlot b i x).withSlot b i y = s.withSlot b i y := by
  cases b <;> simp [State.withSlot, State.setBank, State.bank]

theorem entryAt_withSlot_same {s : State} {b : BankName} {i : Nat} {e : Entry} (f : Entry) (at_ : s.entryAt b i = some e) :
    (s.withSlot b i (some f)).entryAt b i = some f := by
  have slot : (s.bank b).slots[i]? = some (some e) := Option.join_eq_some_iff.mp at_
  have bound : i < (s.bank b).slots.length := (List.getElem?_eq_some_iff.mp slot).1
  simp [State.entryAt, State.withSlot, bound]

theorem entryAt_withSlot_ne {s : State} {b c : BankName} {i k : Nat} (x : Option Entry) (ne : (b, i) ≠ (c, k)) :
    (s.withSlot b i x).entryAt c k = s.entryAt c k := by
  unfold State.entryAt State.withSlot
  by_cases same : c = b
  · subst same
    have other : i ≠ k := fun h => ne (by rw [h])
    rw [bank_setBank, List.getElem?_set_ne other]
  · rw [bank_setBank_ne _ _ same]

/-- Two changes of one junction after each other. -/
theorem modJunction_modJunction {s : State} {b : BankName} {i : Nat} {e : Entry} {j : Junction} (f g : Junction → Junction)
    (at_ : s.entryAt b i = some e) (junction : e.point = .junction j) :
    (s.modJunction b i f).modJunction b i g = s.withSlot b i (some { e with point := .junction (g (f j)) }) := by
  rw [modJunction_of_entryAt f at_ junction, modJunction_of_entryAt g (entryAt_withSlot_same _ at_) rfl, withSlot_withSlot]

/-- What is in the banks does not depend on LOOP. -/
theorem modJunction_setLoop (s : State) (x : Loop) (b : BankName) (i : Nat) (f : Junction → Junction) :
    ({ s with loop := x } : State).modJunction b i f = { s.modJunction b i f with loop := x } := by
  cases b <;> rfl

theorem withSlot_setLoop (s : State) (x : Loop) (b : BankName) (i : Nat) (y : Option Entry) :
    ({ s with loop := x } : State).withSlot b i y = { s.withSlot b i y with loop := x } := by
  cases b <;> rfl

theorem entryAt_setLoop (s : State) (x : Loop) (b : BankName) (i : Nat) :
    ({ s with loop := x } : State).entryAt b i = s.entryAt b i := by
  cases b <;> rfl

/-! ### RETRY and OVERRIDE -/

theorem isGivenUp_iff {x : JunctionState} : isGivenUp x = true ↔ x = .lost ∨ ∃ r, x = .refused r := by
  cases x <;> simp [isGivenUp]

/-- An offer that does not merge: taken where a place is free and no telegram is queued for its junction (R110). -/
theorem offerTelegram_of_noMerge {m : Telegram} {b : BankName} {i : Nat} {x : Loop}
    (noMerge : ¬ (m.kind = .cancel ∧ x.mergeable.any (isRequestFor m.junction) = true)) :
    offerTelegram m b i x
      = if x.queue.length < 8 ∧ ∀ q ∈ x.queue, q.telegram.junction ≠ m.junction then
          (.taken, joinQueue { telegram := m, bank := b, index := i, entryStands := true } x)
        else (.notTaken, x) := by
  unfold offerTelegram
  rw [if_neg noMerge]
  simp only [List.any_eq_true, beq_iff_eq, Config.loopQueueSize]
  split
  · next h =>
    obtain ⟨q, mem, same⟩ := h
    exact (if_neg fun free => free.2 q mem same).symm
  · next none_ =>
    by_cases full : 8 ≤ x.queue.length
    · rw [if_pos full, if_neg fun free => absurd free.1 (Nat.not_lt.mpr full)]
    · rw [if_neg full, if_pos ⟨Nat.lt_of_not_le full, fun q mem same => none_ ⟨q, mem, same⟩⟩]

/-- A REQUEST made for a junction and offered (R89, R90): taken, the entry is ASKED with its number, else it is due. -/
theorem makeOffer_request {s : State} {m : Telegram} {b : BankName} {i : Nat} (request : isRequest m = true) :
    makeOffer m b i s
      = if s.loop.queue.length < 8 ∧ ∀ q ∈ s.loop.queue, q.telegram.junction ≠ m.junction then
          { s.modJunction b i (askedWith m.number) with
            loop.queue := s.loop.queue ++ [{ telegram := m, bank := b, index := i, entryStands := true }] }
        else s.modJunction b i fun j => { j with due := j.due ++ [m] } := by
  have kind : m.kind ≠ .cancel := fun h => by simp [isRequest, h] at request
  unfold makeOffer
  rw [offerTelegram_of_noMerge fun h => kind h.1]
  by_cases free : s.loop.queue.length < 8 ∧ ∀ q ∈ s.loop.queue, q.telegram.junction ≠ m.junction
  · rw [if_pos free, if_pos free]
    dsimp only
    rw [afterTaken, if_pos request, modJunction_setLoop, modJunction_loop]
    rfl
  · rw [if_neg free, if_neg free]

/-- A transmitter that finds the queue as the event did does not begin. -/
theorem startSending_same (x : Loop) : startSending x.queue x = x := by
  have begun := startSending_begun x.queue x
  rwa [transmitterBegun, if_neg fun h => h.2.1 h.1] at begun

theorem taken_withSlot_pth (s : State) (p : Port) (b : BankName) (i : Nat) (x : Option Entry) :
    ((s.taken p).withSlot b i x).pth = (s.withSlot b i x).pth := by
  cases b <;> rfl

/-- The junction of the live plan that an order names, REFUSED or LOST: RETRY and OVERRIDE refuse every other id. -/
theorem givenUp_refused {s : State} {id : Nat}
    (none_ : ∀ b i e j, s.hasJunction id b i e j → j.state ≠ .lost ∧ ∀ x, j.state ≠ .refused x)
    {b : BankName} {i : Nat} {e : Entry} {j : Junction} (live : s.liveJunction id = some (b, i, e))
    (junction : e.junction? = some j) : isGivenUp j.state = false := by
  obtain ⟨notLost, notRefused⟩ := none_ b i e j ⟨live, point_of_junction? junction⟩
  rw [Bool.eq_false_iff]
  intro givenUp
  rcases isGivenUp_iff.mp givenUp with lost | ⟨x, refused⟩
  · exact notLost lost
  · exact notRefused x refused

theorem handleRetry_refused {s : State} {w : BitVec 16}
    (none_ : ∀ b i e j, s.hasJunction w.toNat b i e j → j.state ≠ .lost ∧ ∀ x, j.state ≠ .refused x) :
    handleRetry w s = (s, plain .refused) := by
  unfold handleRetry
  split
  · rfl
  · next b i e live =>
    split
    · rfl
    · next j junction => simp [givenUp_refused none_ live junction]

theorem handleOverride_refused {s : State} {w : BitVec 16}
    (none_ : ∀ b i e j, s.hasJunction w.toNat b i e j → j.state ≠ .lost ∧ ∀ x, j.state ≠ .refused x) :
    handleOverride w s = (s, plain .refused) := by
  unfold handleOverride
  split
  · rfl
  · next b i e live =>
    split
    · rfl
    · next j junction => simp [givenUp_refused none_ live junction]

/-- RETRY of a junction given up, below its distance: its REQUEST is made and offered (R96). -/
theorem handleRetry_asks {s : State} {w : BitVec 16} {b : BankName} {i : Nat} {e : Entry} {j : Junction}
    (has : s.hasJunction w.toNat b i e j) (givenUp : isGivenUp j.state = true) (below : s.pth.p < e.distance) :
    ∃ t m, handleRetry w s = (t, plain .done)
      ∧ m = { kind := .request j.leg, tram := s.cfgNat .tramId, junction := w.toNat, number := j.number + 1 }
      ∧ (if s.loop.queue.length < 8 ∧ ∀ q ∈ s.loop.queue, q.telegram.junction ≠ w.toNat then
          transmitterBegun s.loop.queue { s.loop with
              queue := s.loop.queue ++ [{ telegram := m, bank := b, index := i, entryStands := true }] } t.loop
            ∧ t.pth = (s.withSlot b i (some { e with
                point := .junction { j with state := .asked, number := j.number + 1, timer := .stopped } })).pth
        else
          t.loop = s.loop ∧ t.pth = (s.withSlot b i (some { e with
            point := .junction { j with state := .waiting, due := j.due ++ [m] } })).pth)
      ∧ t = { s with pth := t.pth, loop := t.loop } := by
  obtain ⟨live, point⟩ := has
  obtain ⟨-, at_, id⟩ := slot_of_liveJunction live
  obtain ⟨m, telegram⟩ : ∃ m, m = makeRequest e.id j s := ⟨_, rfl⟩
  obtain ⟨u, waits⟩ : ∃ u, u = s.modJunction b i fun j => { j with state := .waiting } := ⟨_, rfl⟩
  have number : m.number = j.number + 1 := by rw [telegram]; rfl
  have for_ : m.junction = w.toNat := by rw [telegram, ← id]; rfl
  have loop : u.loop = s.loop := by rw [waits, modJunction_loop]
  have handled : handleRetry w s = (startTransmitter s (makeOffer m b i u), plain .done) := by
    simp [handleRetry, live, junction?_of_point point, givenUp, below, telegram, waits]
  refine ⟨_, m, handled, by rw [telegram, ← id]; rfl, ?_⟩
  rw [makeOffer_request (by rw [telegram]; rfl), loop, for_, waits, modJunction_modJunction _ _ at_ point,
    modJunction_modJunction _ _ at_ point, askedWith, number]
  split
  · refine ⟨⟨?_, rfl⟩, ?_⟩
    · cases b <;> exact startSending_begun ..
    · cases b <;> rfl
  · refine ⟨⟨?_, rfl⟩, ?_⟩
    · rw [startTransmitter, withSlot_loop]
      exact startSending_same s.loop
    · cases b <;> rfl

/-- Settles O21: RETRY and OVERRIDE row by row. -/
theorem retryAsksAgainAndOverrideTakesOnSight : Obligations.RetryAsksAgainAndOverrideTakesOnSight := by
  unfold Obligations.RetryAsksAgainAndOverrideTakesOnSight
  intro p tag w s
  constructor
  · rintro o command (⟨rfl, rfl⟩ | ⟨rfl, rfl⟩) ready none_
    · exact exec_final ready nofun (handleRetry_refused (s := s.taken p) none_)
    · exact exec_final ready nofun (handleOverride_refused (s := s.taken p) none_)
  · intro b i e j has state
    have givenUp := isGivenUp_iff.mpr state
    have has' : (s.taken p).hasJunction w.toNat b i e j := has
    have junction? := junction?_of_point has.2
    refine ⟨fun ready below => ?_, fun ready above => ?_, fun ready => ?_⟩
    · obtain ⟨t, m, handled, telegram, offered, changes⟩ := handleRetry_asks has' givenUp below
      rw [taken_withSlot_pth, taken_withSlot_pth] at offered
      have outbound : (t.port p).outbound = (s.port p).outbound := by
        rw [changes]
        exact taken_outbound ..
      refine ⟨_, m, exec_final ready nofun handled, telegram, offered, (sent_outbound ..).trans (congrArg (· ++ _) outbound), ?_⟩
      rw [changes]
      exact ⟨rfl, rfl, rfl, rfl, rfl, rfl, rfl⟩
    · refine exec_final ready nofun ?_
      have live : (s.taken p).liveJunction w.toNat = some (b, i, e) := has.1
      have handled : handleRetry w (s.taken p) = (s.taken p, plain .refused) := by
        simp [handleRetry, live, junction?, givenUp, above]
      exact handled
    · refine exec_final ready nofun ?_
      have live : (s.taken p).liveJunction w.toNat = some (b, i, e) := has.1
      have handled : handleOverride w (s.taken p) = ((s.taken p).modJunction b i
          fun j => { j with state := .onSight, timer := .stopped }, plain .done) := by
        simp [handleOverride, live, junction?, givenUp]
      exact handled.trans (congrArg (·, _) (modJunction_of_hasJunction has' _))

/-! ### Due heads offered again (R90) -/

/-- A telegram is the due head of the entry it names. -/
structure State.DueHead (s : State) (q : QueuedTelegram) (e : Entry) (j : Junction) : Prop where
  stands : q.entryStands = true
  entry : s.entryAt q.bank q.index = some e
  point : e.point = .junction j
  head : j.due.head? = some q.telegram

/-- The slot of the entry that a queued telegram is of. -/
def QueuedTelegram.place (q : QueuedTelegram) : BankName × Nat := (q.bank, q.index)

theorem mem_headsOf {s : State} {b : BankName} {r : Bool} {q : QueuedTelegram} :
    q ∈ s.headsOf b r ↔ q.bank = b ∧ isRequest q.telegram = r ∧ ∃ e j, s.DueHead q e j := by
  rw [State.headsOf, List.mem_filterMap]
  constructor
  · rintro ⟨⟨i, e⟩, mem, head⟩
    have at_ := mem_entries.mp mem
    cases point : e.point with
    | stop => simp [point] at head
    | junction j =>
      simp only [point, Option.map_eq_some_iff, Option.filter_eq_some_iff, beq_iff_eq] at head
      obtain ⟨m, ⟨head, kind⟩, rfl⟩ := head
      exact ⟨rfl, kind, e, j, rfl, at_, point, head⟩
  · rintro ⟨rfl, rfl, e, j, stands, entry, point, head⟩
    refine ⟨(q.index, e), mem_entries.mpr entry, ?_⟩
    simp only [point, head, Option.filter, beq_self_eq_true, if_true, Option.map_some]
    rw [← stands]

theorem headIndices_eq (s : State) (b : BankName) (r : Bool) :
    s.headIndices b r = (s.headsOf b r).map QueuedTelegram.place := by
  rw [State.headIndices, State.headsOf, List.map_filterMap]
  refine congrArg (List.filterMap · _) (funext fun x => ?_)
  unfold Entry.junction?
  cases x.2.point with
  | stop => rfl
  | junction j =>
    cases head : j.due.head? with
    | none => simp [head]
    | some m => by_cases kind : isRequest m = r <;> simp [head, kind, QueuedTelegram.place, Option.filter]

theorem offeringOrder_eq (s : State) : s.offeringOrder = s.dueHeads.map QueuedTelegram.place := by
  have other : ∀ b, otherBank (otherBank b) = b := fun b => by cases b <;> rfl
  unfold State.offeringOrder State.dueHeads
  split
  · next b live =>
    have bank : b = otherBank s.pth.standby := by
      rw [State.liveBank] at live
      split at live
      · exact (Option.some.inj live).symm
      · cases live
    subst bank
    simp [live, other, headIndices_eq]
  · next dead => simp [dead, headIndices_eq]

theorem entriesFrom_pairwise : ∀ (k : Nat) (slots : List (Option Entry)),
    (entriesFrom k slots).Pairwise fun x y => x.1 < y.1
  | _, [] => .nil
  | k, none :: rest => entriesFrom_pairwise (k + 1) rest
  | k, some e :: rest => by
    refine .cons (fun x mem => ?_) (entriesFrom_pairwise (k + 1) rest)
    exact Nat.lt_of_succ_le (mem_entriesFrom.mp mem).1

/-- The order of an offering (R90): no entry twice, and no CANCEL or RELEASE after a REQUEST. -/
def QueuedTelegram.precedes (x y : QueuedTelegram) : Prop :=
  x.place ≠ y.place ∧ (isRequest x.telegram = true → isRequest y.telegram = true)

theorem headsOf_pairwise (s : State) (b : BankName) (r : Bool) :
    (s.headsOf b r).Pairwise QueuedTelegram.precedes := by
  have places : (s.headsOf b r).Pairwise fun x y => x.place ≠ y.place := by
    refine List.Pairwise.filterMap _ (fun x y below q head q' head' same => below.ne ?_) (entriesFrom_pairwise 0 _)
    have index : ∀ (x : Nat × Entry) (q : QueuedTelegram), (match x.2.point with
        | .junction j => (j.due.head?.filter fun m => isRequest m == r).map fun m =>
          ({ telegram := m, bank := b, index := x.1, entryStands := true } : QueuedTelegram)
        | .stop _ => none) = some q → q.index = x.1 := fun x q head => by
      cases point : x.2.point with
      | stop => simp [point] at head
      | junction j =>
        simp only [point, Option.map_eq_some_iff] at head
        obtain ⟨m, -, rfl⟩ := head
        rfl
    rw [← index x q head, ← index y q' head']
    exact congrArg Prod.snd same
  refine places.imp_of_mem fun {x y} memx memy ne => ⟨ne, fun request => ?_⟩
  rw [(mem_headsOf.mp memy).2.1, ← (mem_headsOf.mp memx).2.1]
  exact request

theorem precedes_of_headsOf {s : State} {b c : BankName} {r : Bool} (differ : b ≠ c ∨ r = true) {x y : QueuedTelegram}
    (memx : x ∈ s.headsOf b false) (memy : y ∈ s.headsOf c r) : x.precedes y := by
  obtain ⟨bx, rx, ex, jx, hx⟩ := mem_headsOf.mp memx
  obtain ⟨by_, ry, ey, jy, hy⟩ := mem_headsOf.mp memy
  refine ⟨fun same => ?_, fun request => absurd (rx.symm.trans request) Bool.false_ne_true⟩
  obtain ⟨bank, index⟩ := Prod.mk.inj same
  rcases differ with other | request
  · exact other (bx.symm.trans (bank.trans by_))
  · have entry : ex = ey := Option.some.inj (hx.entry.symm.trans (bank ▸ index ▸ hy.entry))
    subst entry
    have junction : jx = jy := Waypoint.junction.inj (hx.point.symm.trans hy.point)
    subst junction
    have telegram : x.telegram = y.telegram := Option.some.inj (hx.head.symm.trans hy.head)
    rw [← telegram, rx] at ry
    exact Bool.false_ne_true (ry.trans request)

theorem dueHeads_pairwise (s : State) : s.dueHeads.Pairwise QueuedTelegram.precedes := by
  have standby : s.pth.standby ≠ otherBank s.pth.standby := (otherBank_ne _).symm
  unfold State.dueHeads
  refine List.pairwise_append.mpr ⟨List.pairwise_append.mpr ⟨headsOf_pairwise .., headsOf_pairwise .., fun x mx y my => ?_⟩,
    ?_, fun x mx y my => ?_⟩
  · exact precedes_of_headsOf (.inl standby) mx my
  · split
    · exact .nil
    · exact headsOf_pairwise ..
  · split at my
    · exact absurd my List.not_mem_nil
    · rcases List.mem_append.mp mx with mx | mx
      · exact precedes_of_headsOf (.inr rfl) mx my
      · exact precedes_of_headsOf (.inr rfl) mx my

theorem dueHead_of_mem {s : State} {q : QueuedTelegram} (mem : q ∈ s.dueHeads) : ∃ e j, s.DueHead q e j := by
  simp only [State.dueHeads, List.mem_append] at mem
  rcases mem with (mem | mem) | mem
  · exact (mem_headsOf.mp mem).2.2
  · exact (mem_headsOf.mp mem).2.2
  · split at mem
    · exact absurd mem List.not_mem_nil
    · exact (mem_headsOf.mp mem).2.2

/-- From `u` to `t` these telegrams have been taken, each as `offeredAgain` says. -/
structure Taken (l : List QueuedTelegram) (u t : State) : Prop where
  changes : t = { u with loop.queue := u.loop.queue ++ l, pth.bankA := t.pth.bankA, pth.bankB := t.pth.bankB }
  state : ∀ b, (t.bank b).state = (u.bank b).state
  others : ∀ b i, (∀ q ∈ l, q.bank = b → q.index ≠ i) → t.entryAt b i = u.entryAt b i
  each : ∀ q ∈ l, ∃ e j k, u.entryAt q.bank q.index = some e ∧ e.point = .junction j
    ∧ t.entryAt q.bank q.index = some { e with point := .junction k }
    ∧ k = if isRequest q.telegram = true then
        { j with due := j.due.tail, state := .asked, number := q.telegram.number, timer := .stopped }
      else { j with due := j.due.tail }

theorem Taken.nil (u : State) : Taken [] u u where
  changes := by rw [List.append_nil]
  state _ := rfl
  others _ _ _ := rfl
  each _ mem := absurd mem List.not_mem_nil

/-- One telegram taken before others, of other entries. -/
theorem Taken.cons {q : QueuedTelegram} {l : List QueuedTelegram} {s u t : State} (first : Taken [q] s u) (rest : Taken l u t)
    (apart : ∀ r ∈ l, q.place ≠ r.place) : Taken (q :: l) s t where
  changes := by
    rw [rest.changes, first.changes]
    simp
  state b := (rest.state b).trans (first.state b)
  others b i none_ := by
    rw [rest.others b i fun r mem => none_ r (List.mem_cons_of_mem _ mem),
      first.others b i fun r mem => none_ r (List.mem_singleton.mp mem ▸ List.mem_cons_self ..)]
  each r mem := by
    rcases List.mem_cons.mp mem with rfl | mem
    · obtain ⟨e, j, k, entry, point, after, same⟩ := first.each r (List.mem_singleton_self r)
      refine ⟨e, j, k, entry, point, (rest.others _ _ fun x mem bank index => ?_).trans after, same⟩
      exact apart x mem (Prod.ext bank.symm index.symm)
    · obtain ⟨e, j, k, entry, point, after, same⟩ := rest.each r mem
      refine ⟨e, j, k, (first.others _ _ fun x single bank index => ?_).symm.trans entry, point, after, same⟩
      rw [List.mem_singleton.mp single] at bank index
      exact apart r mem (Prod.ext bank index)

/-- A due head that LOOP takes (R89, R90). -/
theorem taken_one {s : State} {q : QueuedTelegram} {e : Entry} {j : Junction} (due : s.DueHead q e j) :
    Taken [q] s (afterTaken q.telegram q.bank q.index (({ s with loop.queue := s.loop.queue ++ [q] } : State).modJunction
      q.bank q.index fun j => { j with due := j.due.tail })) := by
  obtain ⟨u, joined⟩ : ∃ u : State, u = { s with loop.queue := s.loop.queue ++ [q] } := ⟨_, rfl⟩
  have entry : u.entryAt q.bank q.index = some e := by rw [joined, entryAt_setLoop]; exact due.entry
  obtain ⟨k, changed, after⟩ : ∃ k, (k = if isRequest q.telegram = true then
        { j with due := j.due.tail, state := .asked, number := q.telegram.number, timer := .stopped }
      else { j with due := j.due.tail }) ∧ afterTaken q.telegram q.bank q.index (u.modJunction q.bank q.index
        fun j => { j with due := j.due.tail }) = u.withSlot q.bank q.index (some { e with point := .junction k }) := by
    refine ⟨_, rfl, ?_⟩
    unfold afterTaken
    split
    · rw [modJunction_modJunction _ _ entry due.point]
      rfl
    · exact modJunction_of_entryAt _ entry due.point
  rw [← joined, after]
  have entries : ∀ b i, u.entryAt b i = s.entryAt b i := fun b i => by rw [joined, entryAt_setLoop]
  have states : ∀ b, (u.bank b).state = (s.bank b).state := fun b => by rw [joined]; cases b <;> rfl
  refine ⟨?_, fun b => (withSlot_state ..).trans (states b), fun b i none_ => ?_, fun r mem => ?_⟩
  · rw [withSlot_changes, joined]
  · rw [entryAt_withSlot_ne _ fun same => none_ q (List.mem_singleton_self q) (congrArg Prod.fst same)
      (congrArg Prod.snd same), entries]
  · rw [List.mem_singleton.mp mem]
    exact ⟨e, j, k, due.entry, due.point, entryAt_withSlot_same _ entry, changed⟩

theorem takenHeads_full {queue : List QueuedTelegram} (full : 8 ≤ queue.length) : ∀ l, takenHeads queue l = []
  | [] => rfl
  | q :: rest => by
    rw [takenHeads, if_neg fun free => absurd free.1 (Nat.not_lt.mpr full)]
    exact takenHeads_full full rest

theorem takenHeads_subset {q : QueuedTelegram} : ∀ {l queue : List QueuedTelegram}, q ∈ takenHeads queue l → q ∈ l
  | [], _, mem => mem
  | x :: rest, queue, mem => by
    rw [takenHeads] at mem
    split at mem
    · rcases List.mem_cons.mp mem with rfl | mem
      · exact List.mem_cons_self ..
      · exact List.mem_cons_of_mem _ (takenHeads_subset mem)
    · exact List.mem_cons_of_mem _ (takenHeads_subset mem)

/-- A CANCEL merges with none of these telegrams (R110). -/
def mergesNone (x : QueuedTelegram) (queue : List QueuedTelegram) : Prop :=
  x.telegram.kind = .cancel → ∀ y ∈ queue, y.telegram.junction = x.telegram.junction → isRequest y.telegram = false

theorem mem_of_mergeable {x : Loop} {y : QueuedTelegram} (mem : y ∈ x.mergeable) : y ∈ x.queue := by
  unfold Loop.mergeable at mem
  split at mem
  · exact List.mem_of_mem_tail mem
  · exact mem

/-- The offer of a telegram that merges with none (R110). -/
theorem offerTelegram_of_mergesNone {q : QueuedTelegram} {x : Loop} (stands : q.entryStands = true)
    (none_ : mergesNone q x.queue) : offerTelegram q.telegram q.bank q.index x
      = if x.queue.length < 8 ∧ ∀ r ∈ x.queue, r.telegram.junction ≠ q.telegram.junction then (.taken, joinQueue q x)
        else (.notTaken, x) := by
  have noMerge : ¬ (q.telegram.kind = .cancel ∧ x.mergeable.any (isRequestFor q.telegram.junction) = true) := by
    rintro ⟨cancel, any⟩
    obtain ⟨y, mem, request⟩ := List.any_eq_true.mp any
    obtain ⟨request, junction⟩ : isRequest y.telegram = true ∧ y.telegram.junction = q.telegram.junction := by
      simpa [isRequestFor] using request
    exact Bool.false_ne_true ((none_ cancel y (mem_of_mergeable mem) junction).symm.trans request)
  rw [offerTelegram_of_noMerge noMerge, ← stands]

/-- A due head stays one while telegrams of other entries are taken. -/
theorem Taken.dueHead {l : List QueuedTelegram} {s t : State} (taken : Taken l s t) {q : QueuedTelegram} {e : Entry}
    {j : Junction} (due : s.DueHead q e j) (apart : ∀ r ∈ l, r.place ≠ q.place) : t.DueHead q e j where
  stands := due.stands
  entry := (taken.others _ _ fun r mem bank index => apart r mem (Prod.ext bank index)).trans due.entry
  point := due.point
  head := due.head

/-- An offering in which nothing merges takes the heads that `takenHeads` names. -/
theorem offerHeads_taken : ∀ (l : List QueuedTelegram) (s : State), (∀ q ∈ l, ∃ e j, s.DueHead q e j) →
    l.Pairwise QueuedTelegram.precedes → (∀ q ∈ l, mergesNone q s.loop.queue) →
    ∃ t, offerHeads (l.map QueuedTelegram.place) s = (t, false) ∧ Taken (takenHeads s.loop.queue l) s t
  | [], s, _, _, _ => ⟨s, rfl, .nil s⟩
  | q :: rest, s, due, apart, none_ => by
    obtain ⟨e, j, first⟩ := due q (List.mem_cons_self ..)
    obtain ⟨after, apart⟩ := List.pairwise_cons.mp apart
    have due : ∀ r ∈ rest, ∃ e j, s.DueHead r e j := fun r mem => due r (List.mem_cons_of_mem _ mem)
    have head : s.dueHead q.bank q.index = some q.telegram := by
      rw [State.dueHead, State.junctionAt, first.entry, Option.bind_some, junction?_of_point first.point, Option.bind_some,
        first.head]
    have offer := offerTelegram_of_mergesNone first.stands (none_ q (List.mem_cons_self ..))
    have noneRest : ∀ r ∈ rest, mergesNone r s.loop.queue := fun r mem => none_ r (List.mem_cons_of_mem _ mem)
    rw [List.map_cons, QueuedTelegram.place, offerHeads]
    by_cases full : 8 ≤ s.loop.queue.length
    · rw [takenHeads_full full]
      exact ⟨s, if_pos full, .nil s⟩
    · rw [if_neg (show ¬ Config.loopQueueSize ≤ s.loop.queue.length from full)]
      simp only [head, offer]
      by_cases free : s.loop.queue.length < 8 ∧ ∀ r ∈ s.loop.queue, r.telegram.junction ≠ q.telegram.junction
      · rw [takenHeads, if_pos free, if_pos free]
        have one := taken_one first
        obtain ⟨u, popped⟩ : ∃ u, u = afterTaken q.telegram q.bank q.index
          (({ s with loop.queue := s.loop.queue ++ [q] } : State).modJunction q.bank q.index
            fun j => { j with due := j.due.tail }) := ⟨_, rfl⟩
        rw [← popped] at one
        have queue : u.loop.queue = s.loop.queue ++ [q] := by rw [one.changes]
        have noneAfter : ∀ r ∈ rest, mergesNone r u.loop.queue := fun r mem cancel y inQueue junction => by
          rw [queue] at inQueue
          rcases List.mem_append.mp inQueue with inQueue | new
          · exact noneRest r mem cancel y inQueue junction
          · rw [List.mem_singleton.mp new, Bool.eq_false_iff]
            intro request
            have request := (after r mem).2 request
            simp [isRequest, cancel] at request
        have dueAfter : ∀ r ∈ rest, ∃ e j, u.DueHead r e j := fun r mem => by
          obtain ⟨e, j, head⟩ := due r mem
          exact ⟨e, j, one.dueHead head fun x single => List.mem_singleton.mp single ▸ (after r mem).1⟩
        obtain ⟨t, offered, taken⟩ := offerHeads_taken rest u dueAfter apart noneAfter
        rw [queue] at taken
        refine ⟨t, ?_, one.cons taken fun r mem => (after r (takenHeads_subset mem)).1⟩
        rw [popped] at offered
        exact offered
      · rw [takenHeads, if_neg free, if_neg free]
        exact offerHeads_taken rest s due apart noneRest

/-- The due heads offered again where none of them would merge (R90). -/
theorem offeredAgain_reoffer {u : State} (none_ : ∀ q ∈ u.dueHeads, mergesNone q u.loop.queue) :
    offeredAgain u (reoffer u) := by
  obtain ⟨t, offered, taken⟩ := offerHeads_taken u.dueHeads u (fun q => dueHead_of_mem) (dueHeads_pairwise u) none_
  have done : reoffer u = t := by
    rw [reoffer, offeringFuel, reofferWith, offeringOrder_eq, offered]
  rw [done]
  rintro l rfl
  exact ⟨taken.changes, taken.state, taken.others, taken.each⟩

/-! ### The completion (R113) -/

/-- A report of a transmission starts the stopped timer of the ASKED entry, or finds none (R91, R113). -/
theorem transmissionReport_cases (id : Nat) (n : BitVec 4) (s : State) :
    (∃ b i e j, s.hasJunction id b i e j ∧ (j.state = .asked ∧ j.number = n ∧ j.timer = .stopped)
        ∧ transmissionReport id n s
          = s.withSlot b i (some { e with point := .junction { j with timer := .running 8000 0 } }))
      ∨ ((∀ b i e j, s.hasJunction id b i e j → ¬ (j.state = .asked ∧ j.number = n ∧ j.timer = .stopped))
        ∧ transmissionReport id n s = s) := by
  unfold transmissionReport
  cases live : s.liveJunction id with
  | none => exact .inr ⟨fun b i e j has => absurd (live.symm.trans has.1) nofun, rfl⟩
  | some found =>
    obtain ⟨b, i, e⟩ := found
    have only : ∀ c k d j, s.hasJunction id c k d j → d = e := fun c k d j has =>
      (congrArg (fun x : BankName × Nat × Entry => x.2.2) (Option.some.inj (live.symm.trans has.1))).symm
    cases junction : e.junction? with
    | none =>
      refine .inr ⟨fun c k d j has => ?_, by simp [junction]⟩
      rw [only c k d j has] at has
      exact absurd (junction.symm.trans (junction?_of_point has.2)) nofun
    | some j =>
      by_cases asked : j.state = .asked ∧ j.number = n ∧ j.timer = .stopped
      · have has : s.hasJunction id b i e j := ⟨live, point_of_junction? junction⟩
        refine .inl ⟨b, i, e, j, has, asked, ?_⟩
        dsimp only
        rw [junction]
        exact (if_pos asked).trans (modJunction_of_hasJunction has _)
      · refine .inr ⟨fun c k d j' has => ?_, by simp [junction, asked]⟩
        rw [only c k d j' has] at has
        rwa [Option.some.inj ((junction?_of_point has.2).symm.trans junction)]

theorem sendBits_changes : ∀ (n : Nat) (x : Loop), ∃ t d o, sendBits n x = { x with transmitter := t, data := d, strobe := o }
  | 0, x => ⟨_, _, _, rfl⟩
  | n + 1, x => by
    have next : ∃ t d o, sendNextBit x = { x with transmitter := t, data := d, strobe := o } := by
      unfold sendNextBit driveBit
      split
      · split
        · split
          · exact ⟨_, _, _, rfl⟩
          · exact ⟨_, _, _, rfl⟩
        · exact ⟨_, _, _, rfl⟩
      · exact ⟨_, _, _, rfl⟩
    obtain ⟨t, d, o, next⟩ := next
    obtain ⟨t', d', o', rest⟩ := sendBits_changes n (sendNextBit x)
    exact ⟨t', d', o', by rw [sendBits, rest, next]⟩

/-- Once the 80 bits are out, none is left to send. -/
theorem sendBits_all {k : Nat} {x : Loop} (sending : x.transmitter = .sending k) (all : 80 ≤ k) : ∀ n, sendBits n x = x
  | 0 => rfl
  | n + 1 => by
    have next : sendNextBit x = x := by
      unfold sendNextBit
      split
      · next k' q rest sending' queue =>
        have same : k' = k := Transmitter.sending.inj (sending'.symm.trans sending)
        exact if_neg (by rw [same]; exact Nat.not_lt.mpr all)
      · rfl
    rw [sendBits, next]
    exact sendBits_all sending all n

theorem endTransmission_changes (x : Loop) : endTransmission x = { x with
    queue := x.queue.tail, transmitter := .gap 0, data := (endTransmission x).data, strobe := (endTransmission x).strobe } := by
  obtain ⟨t, d, o, sent⟩ := sendBits_changes frameBitCount x
  rw [endTransmission, sent]

/-- The due heads stay where what is due of each entry stays. -/
theorem mem_dueHeads_of {s u : State} (outline : u.outline = s.outline)
    (heads : ∀ q e j, u.DueHead q e j → ∃ e j, s.DueHead q e j) {q : QueuedTelegram} (mem : q ∈ u.dueHeads) :
    q ∈ s.dueHeads := by
  have sub : ∀ b r, q ∈ u.headsOf b r → q ∈ s.headsOf b r := fun b r mem => by
    obtain ⟨bank, kind, e, j, head⟩ := mem_headsOf.mp mem
    exact mem_headsOf.mpr ⟨bank, kind, heads q e j head⟩
  simp only [State.dueHeads, standby_of_outline outline, liveBank_of_outline outline, List.mem_append] at mem ⊢
  refine mem.imp (Or.imp (sub _ _) (sub _ _)) fun mem => ?_
  split
  · next dead => rwa [if_pos dead] at mem
  · next live =>
    rw [if_neg live] at mem
    exact sub _ _ mem

/-- A junction of the live plan changed but for its due list keeps its due head. -/
theorem dueHead_of_withSlot {s : State} {b : BankName} {i : Nat} {e : Entry} {j k : Junction} (entry : s.entryAt b i = some e)
    (point : e.point = .junction j) (due : k.due = j.due) {q : QueuedTelegram} {d : Entry} {l : Junction}
    (head : (s.withSlot b i (some { e with point := .junction k })).DueHead q d l) : ∃ e j, s.DueHead q e j := by
  by_cases same : (b, i) = q.place
  · obtain ⟨rfl, rfl⟩ := Prod.mk.inj same
    obtain rfl := Option.some.inj ((entryAt_withSlot_same _ entry).symm.trans head.entry)
    obtain rfl := Waypoint.junction.inj head.point
    exact ⟨e, j, head.stands, entry, point, due ▸ head.head⟩
  · exact ⟨d, l, head.stands, (entryAt_withSlot_ne _ same).symm.trans head.entry, head.point, head.head⟩

/-- The state in which the due heads are offered at a completion: a REQUEST has been reported (R91, R113). -/
def reported (q : QueuedTelegram) (s : State) : State :=
  if isRequest q.telegram then transmissionReport q.telegram.junction q.telegram.number s else s

theorem reported_cases (q : QueuedTelegram) (s : State) :
    (∃ b i e j, isRequest q.telegram = true ∧ s.hasJunction q.telegram.junction b i e j
        ∧ (j.state = .asked ∧ j.number = q.telegram.number ∧ j.timer = .stopped)
        ∧ reported q s = s.withSlot b i (some { e with point := .junction { j with timer := .running 8000 0 } }))
      ∨ ((isRequest q.telegram = true → ∀ b i e j, s.hasJunction q.telegram.junction b i e j →
          ¬ (j.state = .asked ∧ j.number = q.telegram.number ∧ j.timer = .stopped)) ∧ reported q s = s) := by
  unfold reported
  split
  · next request =>
    rcases transmissionReport_cases q.telegram.junction q.telegram.number s with ⟨b, i, e, j, has, asked, same⟩ | ⟨none_, same⟩
    · exact .inl ⟨b, i, e, j, request, has, asked, same⟩
    · exact .inr ⟨fun _ => none_, same⟩
  · next other => exact .inr ⟨fun request => absurd request other, rfl⟩

theorem isRequest_of_kind {m : Telegram} {leg : Leg} (kind : m.kind = .request leg) : isRequest m = true := by
  rw [isRequest, kind]

theorem kind_of_isRequest {m : Telegram} (request : isRequest m = true) : ∃ leg, m.kind = .request leg := by
  cases kind : m.kind with
  | request leg => exact ⟨leg, rfl⟩
  | _ => simp [isRequest, kind] at request

/-- Settles O22: LOOP after the transmission, the report, then the due heads offered. -/
theorem completionStartsTheExchangeTimer : Obligations.CompletionStartsTheExchangeTimer := by
  unfold Obligations.CompletionStartsTheExchangeTimer
  intro s k q rest sending queue none_
  obtain ⟨v, sent⟩ : ∃ v : State, v = { s with loop := endTransmission s.loop } := ⟨_, rfl⟩
  have completed : exec .transmissionCompletion s = .next (reoffer (reported q v)) := by
    refine congrArg Host.Outcome.next ?_
    rw [completeTransmission, sending, queue, sent]
    rfl
  have has : ∀ {b i e j}, v.hasJunction q.telegram.junction b i e j ↔ s.hasJunction q.telegram.junction b i e j := by
    rw [sent]
    exact Iff.rfl
  have loop : v.loop = { s.loop with
      queue := rest, transmitter := .gap 0, data := v.loop.data, strobe := v.loop.strobe } := by
    have ended := endTransmission_changes s.loop
    rw [queue] at ended
    rw [sent]
    exact ended
  have slots : ∀ b i x, (v.withSlot b i x).pth = (s.withSlot b i x).pth := fun b i x => by
    rw [sent]
    cases b <;> rfl
  obtain ⟨u, report⟩ : ∃ u, u = reported q v := ⟨_, rfl⟩
  have changes : u = { v with pth := u.pth } := by
    rcases reported_cases q v with ⟨b, i, e, j, -, -, -, same⟩ | ⟨-, same⟩
    · rw [report, same, withSlot_changes]
    · rw [report, same]
  have lines : u.loop = v.loop := by rw [changes]
  have asBefore : ∀ {x d l}, v.DueHead x d l → s.DueHead x d l := fun {x d l} head =>
    ⟨head.stands, by have entry := head.entry; rwa [sent, entryAt_setLoop] at entry, head.point, head.head⟩
  have heads : ∀ x ∈ u.dueHeads, mergesNone x u.loop.queue := by
    intro x mem cancel y inQueue
    rw [lines, loop] at inQueue
    have heads : ∀ x e j, u.DueHead x e j → ∃ e j, s.DueHead x e j := by
      rcases reported_cases q v with ⟨b, i, e, j, -, hasV, -, same⟩ | ⟨-, same⟩
      · rw [report, same]
        intro x d l head
        obtain ⟨d, l, head⟩ := dueHead_of_withSlot (k := { j with timer := .running 8000 0 }) (slot_of_liveJunction hasV.1).2.1 hasV.2 rfl head
        exact ⟨d, l, asBefore head⟩
      · rw [report, same]
        exact fun x d l head => ⟨d, l, asBefore head⟩
    have outline : u.outline = s.outline := by
      rw [report, reported]
      split
      · exact (transmissionReport_outline ..).trans (outline_of_pth (by rw [sent]))
      · exact outline_of_pth (by rw [sent])
    exact none_ x (mem_dueHeads_of outline heads mem) cancel y inQueue
  refine ⟨reoffer u, u, report ▸ completed, offeredAgain_reoffer heads, ?_, fun all => ?_, ?_, ?_⟩
  · rw [changes]
    dsimp only
    rw [loop, sent]
  · have same : v.loop.data = s.loop.data ∧ v.loop.strobe = s.loop.strobe := by
      rw [sent]
      dsimp only
      rw [endTransmission, sendBits_all sending all]
      exact ⟨rfl, rfl⟩
    rw [lines]
    exact same
  · intro b i e j leg kind hasS asked number timer
    rcases reported_cases q v with ⟨c, l, d, j', -, hasV, -, same⟩ | ⟨other, -⟩
    · obtain ⟨rfl, rfl, rfl⟩ : c = b ∧ l = i ∧ d = e := by
        simpa using Option.some.inj ((has.mp hasV).1.symm.trans hasS.1)
      obtain rfl := Waypoint.junction.inj (hasV.2.symm.trans hasS.2)
      rw [report, same, slots]
    · exact absurd ⟨asked, number, timer⟩ (other (isRequest_of_kind kind) b i e j (has.mpr hasS))
  · intro other
    rcases reported_cases q v with ⟨b, i, e, j, request, hasV, asked, -⟩ | ⟨-, same⟩
    · obtain ⟨leg, kind⟩ := kind_of_isRequest request
      exact absurd asked (other b i e j leg kind (has.mp hasV))
    · rw [report, same, sent]

end Sys2Proof.Machine
end

section
/-! PROOF. AUT's orders and watches: FORCE_RELEASE, the handover window, KEY, LEVER, the silence and vigilance watches
(R3 to R5, R10 to R15, R59 to R61, R154, R166). -/

namespace Sys2Proof.Machine

/-! ### The end of authority -/

theorem forceLetGo_changes (s : State) : forceLetGo s = { s with
    snd.bell := letGoChannel .bell s.snd.night s.snd.bell, snd.horn := letGoChannel .horn s.snd.night s.snd.horn } :=
  rfl

/-- Settles O42: the rows of FORCE_RELEASE and the expiry in OFFERED_n. -/
theorem authorityEndsByReleaseAndExpiry : Obligations.AuthorityEndsByReleaseAndExpiry := by
  unfold Obligations.AuthorityEndsByReleaseAndExpiry
  constructor
  · intro tag s ready
    refine ⟨fun moving => ?_, fun still vacant => ?_, fun still live => ?_⟩
    · exact exec_final ready nofun (if_pos (by simp [moving]))
    · refine exec_final ready nofun ((if_neg (by simp [still])).trans (if_pos vacant))
    · refine ⟨_, exec_final ready nofun ((if_neg (by simp [still])).trans (if_neg live)), rfl, rfl, ?_, ?_⟩
      · intro k left letGo stroke
        have same : letGoChannel .bell s.snd.night s.snd.bell = { s.snd.bell with state := .stroke k left true } := by
          rw [letGoChannel, stroke]
        exact same
      · intro n letGo blast short
        have same : letGoChannel .horn s.snd.night s.snd.horn = { s.snd.horn with state := .blast n true } := by
          rw [letGoChannel, blast]
          exact if_neg (Nat.not_le.mpr short)
        exact same
  · intro s c offered
    refine congrArg Host.Outcome.next ?_
    rw [handoverExpired, offered]

/-! ### LEVER -/

/-- A selector byte asks for another direction than the one taken (R60). -/
def directionChanges (taken : Direction) (x : Byte) : Prop :=
  (x = 0 ∧ taken = .reverse) ∨ (x = 2 ∧ taken = .forward)

/-- The rows of R59 in one: EFF after a LEVER, with the selector and the direction that each byte brings. -/
theorem takeLever_eff (l : Int) (x : Byte) (s : State) :
    ∃ sel dir, (takeLever l (readSelector x) s).1 = { s with eff := { s.eff with
        l := l, selector := sel, taken := dir, d := formD l sel
        settleCount := (takeLever l (readSelector x) s).1.eff.settleCount
        settleReason := (takeLever l (readSelector x) s).1.eff.settleReason } }
      ∧ (2 < x.toNat ∨ (directionChanges s.eff.taken x ∧ s.standstill = false) →
          (takeLever l (readSelector x) s).2 = .refused ∧ sel = s.eff.selector ∧ dir = s.eff.taken)
      ∧ (x = 1 → (takeLever l (readSelector x) s).2 = .done ∧ sel = .neutral ∧ dir = s.eff.taken)
      ∧ (x = 0 → ¬ directionChanges s.eff.taken x ∨ s.standstill = true →
          (takeLever l (readSelector x) s).2 = .done ∧ sel = .forward ∧ dir = .forward)
      ∧ (x = 2 → ¬ directionChanges s.eff.taken x ∨ s.standstill = true →
          (takeLever l (readSelector x) s).2 = .done ∧ sel = .reverse ∧ dir = .reverse)
      ∧ (directionChanges s.eff.taken x ∧ s.standstill = true ∧ s.eff.settleCount < 25 →
          (takeLever l (readSelector x) s).1.eff.settleCount = 25
            ∧ (takeLever l (readSelector x) s).1.eff.settleReason = .direction)
      ∧ (¬ (directionChanges s.eff.taken x ∧ s.standstill = true ∧ s.eff.settleCount < 25) →
          (takeLever l (readSelector x) s).1.eff.settleCount = s.eff.settleCount
            ∧ (takeLever l (readSelector x) s).1.eff.settleReason = s.eff.settleReason) := by
  by_cases small : s.eff.settleCount < 25
  all_goals
    by_cases zero : x = 0
    · subst zero
      cases taken : s.eff.taken with
      | forward => simp [takeLever, readSelector, directionChange, directionChanges, taken, setLever]
      | reverse =>
        cases still : s.standstill <;>
          simp [takeLever, readSelector, directionChange, directionChanges, taken, still, setLever, offerSettle, small]
    by_cases one : x = 1
    · subst one
      cases taken : s.eff.taken <;> simp [takeLever, readSelector, directionChange, directionChanges, taken, setLever]
    by_cases two : x = 2
    · subst two
      cases taken : s.eff.taken with
      | reverse => simp [takeLever, readSelector, directionChange, directionChanges, taken, setLever]
      | forward =>
        cases still : s.standstill <;>
          simp [takeLever, readSelector, directionChange, directionChanges, taken, still, setLever, offerSettle, small]
    · have above : 2 < x.toNat := by bv_omega
      have read : readSelector x = none := by rw [readSelector, if_neg zero, if_neg one, if_neg two]
      have refused : takeLever l (readSelector x) s = (setLever l s.eff.selector s.eff.taken s, .refused) := by
        simp only [takeLever, read]
      refine ⟨s.eff.selector, s.eff.taken, ?_⟩
      rw [refused]
      exact ⟨rfl, fun _ => ⟨rfl, rfl, rfl⟩, fun h => absurd h one, fun h => absurd h zero, fun h => absurd h two,
        fun h => h.1.elim (fun h => absurd h.1 zero) (fun h => absurd h.1 two), fun _ => ⟨rfl, rfl⟩⟩

/-- Settles O45: AUT's part, then the rows of R59 with D formed of what they leave (R61). -/
theorem leverIsTaken : Obligations.LeverIsTaken := by
  unfold Obligations.LeverIsTaken
  intro p tag l g x s change ready changes
  obtain ⟨u, held⟩ : ∃ u : State, u = { s.taken p with aut.gripHeld := readGrip g, aut.silence := .start silenceLimit } :=
    ⟨_, rfl⟩
  obtain ⟨r, row⟩ : ∃ r, r = takeLever (readL l) (readSelector x) u := ⟨_, rfl⟩
  have handled : handleOrder p tag (.lever l g x) (s.taken p) = (reviseVigilance r.1, plain r.2) := by
    rw [row, held]
    rfl
  have uEff : u.eff = s.eff := by rw [held, taken_eff]
  have still : u.standstill = s.standstill := by rw [held]; rfl
  have change_iff : directionChanges u.eff.taken x ↔ change := by rw [uEff]; exact changes.symm
  obtain ⟨sel, dir, keeps, refused, neutral, forward, reverse, offered, kept⟩ := takeLever_eff (readL l) x u
  rw [← row, change_iff, still] at refused offered kept
  rw [← row, change_iff, still] at forward reverse
  rw [← row] at keeps neutral
  have vigilant := vigilanceKept_reviseVigilance r.1
  obtain ⟨t, revised⟩ : ∃ t, t = reviseVigilance r.1 := ⟨_, rfl⟩
  have changes : t = { u with
      aut.vigilance := t.aut.vigilance, eff := { u.eff with
        l := readL l, selector := sel, taken := dir, d := formD (readL l) sel
        settleCount := t.eff.settleCount, settleReason := t.eff.settleReason } } := by
    rw [revised, reviseVigilance_changes, keeps]
  have l_eq : t.eff.l = readL l := by rw [changes]
  have sel_eq : t.eff.selector = sel := by rw [changes]
  have dir_eq : t.eff.taken = dir := by rw [changes]
  have count : t.eff.settleCount = r.1.eff.settleCount := by rw [revised, reviseVigilance_eff]
  have reason : t.eff.settleReason = r.1.eff.settleReason := by rw [revised, reviseVigilance_eff]
  have before : r.1.aut.vigilance = s.aut.vigilance := by rw [keeps, held]; rfl
  have outbound : (t.port p).outbound = (s.port p).outbound := by
    rw [changes, held]
    exact taken_outbound ..
  rw [before, ← revised] at vigilant
  rw [uEff] at refused neutral offered kept
  rw [← revised] at handled
  refine ⟨_, r.2, exec_final ready nofun handled, ?_, vigilanceKept_of_same vigilant rfl rfl rfl, l_eq, ?_, ?_, ?_, ?_, ?_, ?_,
    ?_, ?_, ?_, ?_, (sent_outbound ..).trans (congrArg (· ++ _) outbound), ?_⟩
  · rw [sent_aut, changes, held]
    rfl
  · rintro d rfl
    have formed : t.eff.d = formD t.eff.l t.eff.selector := by rw [l_eq, sel_eq, changes]
    exact formed
  · exact fun why => sel_eq ▸ dir_eq ▸ refused why
  · exact fun mid => sel_eq ▸ dir_eq ▸ neutral mid
  · exact fun zero same => sel_eq ▸ dir_eq ▸ forward zero (.inl same)
  · exact fun two same => sel_eq ▸ dir_eq ▸ reverse two (.inl same)
  · exact fun zero _ stands => sel_eq ▸ dir_eq ▸ forward zero (.inr stands)
  · exact fun two _ stands => sel_eq ▸ dir_eq ▸ reverse two (.inr stands)
  · rw [sent_eff, changes, uEff]
  · exact fun why => count ▸ reason ▸ offered why
  · exact fun why => count ▸ reason ▸ kept why
  · rw [changes, held]
    exact ⟨rfl, rfl, rfl, rfl, rfl, rfl, rfl⟩

end Sys2Proof.Machine
end

section
/-! PROOF. KEY and the lost key (R3 to R5), and the silence and vigilance watches (R13 to R15, R166). -/

namespace Sys2Proof.Machine

/-! ### STOP faults of the watches (R13, R15, R166) -/

theorem any_open_iff {k : FaultKind} {q : List FaultRecord} :
    q.any (isOpenStop k) = true ↔ ∃ r ∈ q, r.kind = k ∧ r.acked = some false := by
  simp [List.any_eq_true, isOpenStop]

/-- Making room takes no unacknowledged STOP record (R169). -/
theorem mem_makeRoom_of_open {q : List FaultRecord} {r : FaultRecord} (mem : r ∈ q) (cls : r.cls = .stop)
    (opened : r.acked = some false) : r ∈ makeRoom q := by
  have stays : ∀ f : FaultRecord → Bool, f r = false → r ∈ q.eraseP f := fun f none_ =>
    (List.mem_eraseP_of_neg (by simp [none_])).mpr mem
  unfold makeRoom
  split
  · exact mem
  · split
    · exact stays _ (by simp [cls])
    · split
      · exact stays _ (by simp [cls])
      · exact stays _ (by simp [mayRemove, opened])

/-- The rows of R166 outside HALT, as the watches meet them. -/
structure StopRaised (k : FaultKind) (key : FaultKey) (s t : State) : Prop where
  keeps : t = { s with eff := t.eff, flt := t.flt }
  first : (∀ r ∈ s.flt.queue, r.acked ≠ some false) → s.flt.latch = false →
    t.eff = s.eff ∧ t.flt.latch = true ∧ t.flt.halt = s.flt.halt
      ∧ ∃ room r, roomMade s.flt.queue room ∧ t.flt.queue = room ++ [r] ∧ r.kind = k ∧ r.cls = .stop ∧ r.key = key
        ∧ r.p = s.pth.p ∧ r.tag = none ∧ r.count = 1 ∧ r.acked = some false ∧ r.serial = s.flt.serial
  merged : (∃ r ∈ s.flt.queue, r.kind = k ∧ r.acked = some false) →
    t.eff = s.eff ∧ t.flt = { s.flt with
      queue := (s.flt.queue.map fun r =>
        if r.kind = k ∧ r.acked = some false then { r with count := min 255 (r.count + 1) } else r) }
  halted : (∀ r ∈ s.flt.queue, r.kind = k → r.acked ≠ some false) → s.flt.latch = true → s.flt.halt = false →
    t.flt.halt = true ∧ t.flt.latch = true
      ∧ t.eff = { s.eff with e := 0, c1 := 0, c2 := 0, held := true, emergencyBrake := true }
      ∧ ∃ a b first second, roomMade s.flt.queue first ∧ roomMade (first ++ [a]) second
        ∧ t.flt.queue = second ++ [b] ∧ a.kind = k ∧ a.key = key ∧ b.kind = .lockout
        ∧ b.key = .none ∧ a.cls = .stop ∧ b.cls = .stop ∧ a.acked = some false ∧ b.acked = some false ∧ b.p = s.pth.p
  opened : ∃ r ∈ t.flt.queue, r.kind = k ∧ r.acked = some false

theorem stopRaised_raiseStop (k : FaultKind) (key : FaultKey) (s : State) : StopRaised k key s (raiseStop k key s) := by
  have stored : newRecord k .stop key none s ∈ makeRoom s.flt.queue ++ [newRecord k .stop key none s] := by simp
  have absent : s.flt.queue.any (isOpenStop k) = false → ¬ ∃ r ∈ s.flt.queue, r.kind = k ∧ r.acked = some false :=
    fun any found => Bool.false_ne_true (any.symm.trans (any_open_iff.mpr found))
  rcases raiseStop_cases k key s with ⟨any, e⟩ | ⟨any, clear, e⟩ | ⟨any, set, run, e⟩ | ⟨any, set, halt, e⟩ <;> rw [e]
  · obtain ⟨r, mem, kind, opened⟩ := any_open_iff.mp any
    have same : (fun r => if isOpenStop k r then { r with count := min 255 (r.count + 1) } else r)
        = fun r : FaultRecord => if r.kind = k ∧ r.acked = some false then { r with count := min 255 (r.count + 1) } else r := by
      funext r
      simp [isOpenStop]
    refine ⟨rfl, fun none_ => absurd opened (none_ r mem), fun _ => ⟨rfl, ?_⟩, fun none_ => absurd opened (none_ r mem kind), ?_⟩
    · rw [← same]
      rfl
    · refine ⟨{ r with count := min 255 (r.count + 1) }, ?_, kind, opened⟩
      exact List.mem_map.mpr ⟨r, mem, if_pos (by simp [isOpenStop, kind, opened])⟩
  · refine ⟨rfl, fun _ _ => ⟨rfl, rfl, rfl, _, newRecord k .stop key none s, makeRoom_made _, rfl, rfl, rfl, rfl, rfl, rfl, rfl,
      rfl, rfl⟩, fun found => absurd found (absent any), fun _ set => ?_, _, stored, rfl, rfl⟩
    exact absurd (clear.symm.trans set) Bool.false_ne_true
  · refine ⟨rfl, fun _ clear => ?_, fun found => absurd found (absent any), fun _ _ _ => ⟨rfl, set, rfl,
      newRecord k .stop key none s, newRecord .lockout .stop .none none (storeFault k .stop key none s), _, _, makeRoom_made _,
      makeRoom_made _, rfl, rfl, rfl, rfl, rfl, rfl, rfl, rfl, rfl, rfl⟩, newRecord k .stop key none s, ?_, rfl, rfl⟩
    · exact absurd (clear.symm.trans set) Bool.false_ne_true
    · exact List.mem_append_left _ (mem_makeRoom_of_open stored rfl rfl)
  · refine ⟨rfl, fun _ clear => ?_, fun found => absurd found (absent any), fun _ _ run => ?_, _, stored, rfl, rfl⟩
    · exact absurd (clear.symm.trans set) Bool.false_ne_true
    · exact absurd (run.symm.trans halt) Bool.false_ne_true

/-- With a DESK_SILENT open the vigilance timer is stopped (R15). -/
theorem reviseVigilance_suspended {s : State} (opened : ∃ r ∈ s.flt.queue, r.kind = .deskSilent ∧ r.acked = some false) :
    (reviseVigilance s).aut.vigilance = .stopped := by
  have holds : s.vigilanceHolds = false := by
    rw [State.vigilanceHolds, State.suspended, any_open_iff.mpr opened]
    simp
  rw [reviseVigilance, holds]
  rfl

/-- The fault laws keep the vigilance conditions through what a count close notes. -/
theorem open_of_noted {kinds : List FaultKind} {f g : Flt} (noted : f.Noted kinds g)
    (field : ∀ r ∈ f.queue, r.cls = .stop ↔ r.acked.isSome = true) : g.queue.filter isOpen = f.queue.filter isOpen := by
  refine (noted.keeps (P := fun h => (∀ r ∈ h.queue, r.cls = .stop ↔ r.acked.isSome = true)
    ∧ h.queue.filter isOpen = f.queue.filter isOpen) ?_ ⟨field, rfl⟩).2
  rintro h r - cls acked ⟨field, same⟩
  refine ⟨fun x mem => ?_, ?_⟩
  · rcases mem_store mem with mem | rfl
    · exact field x mem
    · simp [cls, acked]
  · rw [Flt.store, List.filter_append, filter_open_makeRoom field, same]
    simp [isOpen, acked]

theorem vigilanceRuns_of_open {s t : State} (live : t.liveEnd = s.liveEnd) (grip : t.aut.gripHeld = s.aut.gripHeld)
    (speed : t.axl.record.v = s.axl.record.v) (opened : t.flt.queue.filter isOpen = s.flt.queue.filter isOpen) :
    t.vigilanceRuns ↔ s.vigilanceRuns := by
  have silent : ∀ u : State, (∀ r ∈ u.flt.queue, r.kind = .deskSilent → r.acked ≠ some false)
      ↔ ∀ r ∈ u.flt.queue.filter isOpen, r.kind ≠ .deskSilent := fun u => by
    simp only [List.mem_filter, isOpen, beq_iff_eq, and_imp, ne_eq]
    exact ⟨fun h r mem opened kind => h r mem kind opened, fun h r mem kind opened => h r mem opened kind⟩
  simp only [State.vigilanceRuns, live, grip, speed, silent, opened]

/-! ### AUT at a count close (R5, R14) -/

/-- What the count close has done when AUT takes its part (R52). -/
def beforeAuthority (s : State) : State :=
  advancePosition (axlClose (putConfigInForce s))

@[simp] theorem beforeAuthority_aut (s : State) : (beforeAuthority s).aut = s.aut := by
  simp [beforeAuthority]

@[simp] theorem beforeAuthority_eff (s : State) : (beforeAuthority s).eff = s.eff := by
  simp [beforeAuthority]

theorem beforeAuthority_record (s : State) : (beforeAuthority s).axl.record = (countClose s).axl.record := by
  rw [countClose_axl]
  simp [beforeAuthority]

theorem beforeAuthority_cfg (s : State) (q : Param) : (beforeAuthority s).cfg q = (countClose s).cfg q := by
  rw [countClose_cfg, State.cfg]
  simp [beforeAuthority, State.cfg]

theorem countClose_aut_eq (s : State) : (countClose s).aut = (autClose (beforeAuthority s)).aut :=
  countClose_aut s

/-- The key-lost condition ends at standstill (R5), and else stays. -/
theorem endKeyLost_cases (s : State) :
    (∃ c, s.liveEnd = some c ∧ s.aut.keyLost = true ∧ s.standstill = true ∧ endKeyLost s = offerAuthority c s)
      ∨ ((s.liveEnd = none ∨ s.aut.keyLost = false ∨ s.standstill = false) ∧ endKeyLost s = s) := by
  unfold endKeyLost
  cases live : s.liveEnd with
  | none => exact .inr ⟨.inl rfl, rfl⟩
  | some c =>
    cases lost : s.aut.keyLost <;> cases still : s.standstill <;> simp

/-- An end that has offered authority: AUT and the lever record (R5, R62). -/
theorem offerAuthority_aut_eq (c : CabEnd) (s : State) : (offerAuthority c s).aut = { s.aut with
    authority := .offered c, keyLost := false, handover := .running ((s.cfg .handoverTime).toNat * 4000) 0
    silence := .stopped, vigilance := .stopped } := by
  simp [offerAuthority, resetLever, setLever]
  rfl

theorem offerAuthority_eff_eq (c : CabEnd) (s : State) :
    (offerAuthority c s).eff = { s.eff with l := 0, selector := .neutral, taken := .forward, d := 0 } := by
  simp [offerAuthority, resetLever, setLever, formD]

theorem autClose_vigilance (s : State) : vigilanceKept s.aut.vigilance (autClose s) := by
  unfold autClose
  rcases endKeyLost_cases s with ⟨c, -, -, -, e⟩ | ⟨-, e⟩ <;> rw [e]
  · have kept := vigilanceKept_reviseVigilance (offerAuthority c s)
    refine ⟨fun runs => ?_, kept.2⟩
    have dead : (reviseVigilance (offerAuthority c s)).liveEnd = none := by
      rw [State.liveEnd, reviseVigilance_authority, offerAuthority_authority]
    exact absurd dead runs.1
  · exact vigilanceKept_reviseVigilance s

theorem beforeAuthority_noted (s : State) : Noted closeKinds s (beforeAuthority s) := by
  have axles : Noted closeKinds s (axlClose (putConfigInForce s)) :=
    .from_flt rfl ((axlClose_noted _).mono (by simp [closeKinds]))
  exact axles.trans ((advancePosition_noted _).mono (by simp [closeKinds]))

/-- What a count close leaves when AUT has taken its part: AUT, the speed and the open records are as it leaves them. -/
theorem vigilanceKept_of_open {before : Vigilance} {s t : State} (kept : vigilanceKept before s) (aut : t.aut = s.aut)
    (speed : t.axl.record.v = s.axl.record.v) (opened : t.flt.queue.filter isOpen = s.flt.queue.filter isOpen) :
    vigilanceKept before t := by
  have live : t.liveEnd = s.liveEnd := by rw [State.liveEnd, aut, State.liveEnd]
  unfold vigilanceKept at kept ⊢
  rwa [vigilanceRuns_of_open live (by rw [aut]) speed opened, aut]

/-- At a count close the vigilance timer is as R14 says of the state after it. -/
theorem countClose_vigilance {s : State} (kept : s.faultsKept) : vigilanceKept s.aut.vigilance (countClose s) := by
  obtain ⟨-, -, -, field, -⟩ := kept
  have vigilant := autClose_vigilance (beforeAuthority s)
  rw [beforeAuthority_aut] at vigilant
  refine vigilanceKept_of_open vigilant (countClose_aut_eq s) ?_ ?_
  · rw [← beforeAuthority_record]
    simp [autClose]
  · have faults : (autClose (beforeAuthority s)).flt = (beforeAuthority s).flt := by simp [autClose]
    rw [faults]
    exact (open_of_noted (countClose_noted s) field).trans (open_of_noted (beforeAuthority_noted s) field).symm

/-- Settles O43: STOP raised for the live end, and the vigilance timer at a count close. -/
theorem watchesRaiseStops : Obligations.WatchesRaiseStops := by
  unfold Obligations.WatchesRaiseStops
  refine ⟨fun s c command k live cause => ?_, fun s kept => ⟨_, rfl, countClose_vigilance kept⟩⟩
  rcases cause with ⟨rfl, rfl, runs⟩ | ⟨rfl, rfl, n, runs⟩
  · have raised := stopRaised_raiseStop .deskSilent (.cab c) { s with aut.silence := .stopped }
    obtain ⟨x, stop⟩ : ∃ x, x = raiseStop .deskSilent (.cab c) { s with aut.silence := .stopped } := ⟨_, rfl⟩
    rw [← stop] at raised
    have running : s.aut.silence.isRunning = true := by
      cases timer : s.aut.silence with
      | stopped => exact absurd timer runs
      | running => rfl
    have expired : silenceExpired s = forceLetGo (reviseVigilance x) := by
      rw [silenceExpired, live, stop]
      exact if_pos running
    have stopped := reviseVigilance_suspended raised.opened
    have keeps := raised.keeps
    have eff : (forceLetGo (reviseVigilance x)).eff = x.eff := by simp
    have flt : (forceLetGo (reviseVigilance x)).flt = x.flt := by simp
    refine ⟨_, congrArg Host.Outcome.next expired, ?_, ?_, ?_, ?_, ?_, ?_, ?_, fun _ => ⟨?_, ?_⟩, nofun, ?_, ?_, ?_⟩
    · rw [forceLetGo_aut, reviseVigilance_authority, keeps]
    · rw [forceLetGo_axl, reviseVigilance_axl, keeps]
    · rw [forceLetGo_pth, reviseVigilance_pth, keeps]
    · rw [forceLetGo_jct, reviseVigilance_jct, keeps]
    · rw [forceLetGo_loop, reviseVigilance_loop, keeps]
    · rw [forceLetGo_stp, reviseVigilance_stp, keeps]
    · rw [forceLetGo_ord, reviseVigilance_ord, keeps]
    · rw [forceLetGo_aut, reviseVigilance_changes, keeps]
    · rw [forceLetGo_aut, stopped]
    · rw [eff, flt]
      exact raised.first
    · rw [eff, flt]
      exact raised.merged
    · rw [eff, flt]
      exact raised.halted
  · have raised := stopRaised_raiseStop .vigilance (.cab c) { s with aut.vigilance := .expired }
    obtain ⟨x, stop⟩ : ∃ x, x = raiseStop .vigilance (.cab c) { s with aut.vigilance := .expired } := ⟨_, rfl⟩
    rw [← stop] at raised
    have expired : vigilanceExpired s = x := by
      rw [vigilanceExpired, runs, live, stop]
    have keeps := raised.keeps
    refine ⟨x, congrArg Host.Outcome.next expired, ?_, ?_, ?_, ?_, ?_, ?_, ?_, nofun, fun _ => ⟨?_, ?_⟩, raised.first,
      raised.merged, raised.halted⟩
    all_goals rw [keeps]

/-! ### KEY (R3 to R5) -/

theorem readKey_of_one_lt {k : Byte} (above : 1 < k.toNat) : readKey k = none := by
  have zero : k ≠ 0 := by rintro rfl; exact absurd above (by decide)
  have one : k ≠ 1 := by rintro rfl; exact absurd above (by decide)
  rw [readKey, if_neg zero, if_neg one]

theorem handleKey_of_le_one {p : Port} {k : Byte} {c : CabEnd} {s : State} (desk : deskEnd p = some c) (low : k.toNat ≤ 1) :
    handleKey p k s = (reportKey c (decide (k = 1)) s, plain .done) := by
  rw [handleKey, readKey_of_le_one low, desk]

/-- A key report that changes the key state of an end (R3). -/
theorem reportKey_of_change {c : CabEnd} {on : Bool} {s : State} (change : s.aut.keys.get c ≠ on) :
    reportKey c on s = keyEffect c on { s with aut.keys := s.aut.keys.set c on } :=
  if_neg change

/-- The lever record and D: what of EFF a lost authority resets, and no count close's computation touches (R62). -/
def Eff.lever (x : Eff) : Int × Selector × Direction × Int := (x.l, x.selector, x.taken, x.d)

theorem setEmergency_lever (seen1 seen2 : Bool) (s : State) : (setEmergency seen1 seen2 s).eff.lever = s.eff.lever := by
  cases seen1 <;> cases seen2 <;> simp [setEmergency, Eff.lever]

theorem clearEmergency_lever (s : State) : (clearEmergency s).eff.lever = s.eff.lever := by
  rw [clearEmergency, offerSettle_eff]
  rfl

theorem countSettle_lever (s : State) : (countSettle s).eff.lever = s.eff.lever := by
  unfold countSettle
  split <;> rfl

theorem noteOverspeed_lever (s : State) : (noteOverspeed s).eff.lever = s.eff.lever := by
  unfold noteOverspeed
  split
  · rw [raiseNotice_eff]
    rfl
  · rfl

theorem limitEffort_lever (e : Int) (s : State) : (limitEffort e s).eff.lever = s.eff.lever :=
  (noteOverspeed_lever _).trans (countSettle_lever s)

theorem reviseHold_lever (s : State) : (reviseHold s).eff.lever = s.eff.lever := by
  unfold reviseHold
  repeat' split
  · rfl
  · rfl
  · rw [raiseNotice_eff]
    rfl
  · rfl
  · rfl

theorem runEffort_lever (seen1 seen2 : Bool) (s : State) : (runEffort seen1 seen2 s).eff.lever = s.eff.lever := by
  unfold runEffort
  repeat' split
  · exact (limitEffort_lever ..).trans (clearEmergency_lever s)
  · rfl
  · exact setEmergency_lever ..
  · exact limitEffort_lever ..

theorem haltEmergency_lever (seen1 seen2 : Bool) (s : State) : (haltEmergency seen1 seen2 s).eff.lever = s.eff.lever := by
  unfold haltEmergency
  repeat' split
  · exact clearEmergency_lever s
  · rfl
  · exact setEmergency_lever ..
  · rfl

theorem effClose_lever (s : State) : (effClose s).eff.lever = s.eff.lever := by
  unfold effClose
  dsimp only
  repeat' split
  · rfl
  · exact haltEmergency_lever ..
  · exact (reviseHold_lever _).trans (runEffort_lever ..)

/-- The lever record and D after a count close are as AUT leaves them (R5, R62). -/
theorem countClose_lever (s : State) : (countClose s).eff.lever = (autClose (beforeAuthority s)).eff.lever := by
  have closed : (countClose s).eff = (effClose (closeBeforeEffort s)).eff := by simp [countClose, updateSand]
  have before : (closeBeforeEffort s).eff = (autClose (beforeAuthority s)).eff := by simp [closeBeforeEffort, beforeAuthority]
  rw [closed, effClose_lever, before]

theorem fields_of_lever {x y : Eff} (h : x.lever = y.lever) :
    x.l = y.l ∧ x.selector = y.selector ∧ x.taken = y.taken ∧ x.d = y.d := by
  simpa [Eff.lever] using h

/-- Settles O39: KEY row by row, and the key-lost condition at a count close. -/
theorem keysMoveAuthority : Obligations.KeysMoveAuthority := by
  unfold Obligations.KeysMoveAuthority
  constructor
  · intro p tag k c on s u ready desk on_eq u_eq
    have handled : ∀ t, k.toNat ≤ 1 → reportKey c on (s.taken p) = t →
        exec (.key p tag k) s = .next (t.sent p (finalReply tag (.key k) .done .none)) := fun t low report => by
      refine exec_final ready nofun ?_
      rw [← report, on_eq]
      exact handleKey_of_le_one desk low
    have changed : s.aut.keys.get c ≠ on → reportKey c on (s.taken p) = keyEffect c on u := fun change => by
      rw [u_eq]
      exact reportKey_of_change (s := s.taken p) change
    have uLive : u.liveEnd = s.liveEnd := by rw [u_eq]; rfl
    have uStill : u.standstill = s.standstill := by rw [u_eq]; rfl
    refine ⟨fun above => ?_, fun low same => ?_, fun low dead => ?_, fun one live off => ?_, fun zero live was still => ?_,
      fun zero live was moving clear none_ => ?_⟩
    · refine exec_final ready nofun ?_
      have refused : handleKey p k (s.taken p) = (s.taken p, plain .refused) := by
        rw [handleKey, readKey_of_one_lt above]
      exact refused
    · exact handled _ low (if_pos same)
    · refine handled _ low ?_
      by_cases same : s.aut.keys.get c = on
      · have kept : u = s.taken p := by
          rw [u_eq, ← same, set_get_end]
          rfl
        rw [kept]
        exact if_pos same
      · rw [changed same, keyEffect, if_neg (by rwa [uLive])]
    · have isOn : on = true := by rw [on_eq, one]; rfl
      refine handled _ (by rw [one]; decide) ?_
      rw [changed (by rw [off, isOn]; exact Bool.false_ne_true), keyEffect, if_pos (uLive.trans live), isOn]
      rfl
    · have isOff : on = false := by rw [on_eq, zero]; rfl
      have report : reportKey c on (s.taken p) = offerAuthority c u := by
        rw [changed (by rw [was, isOff]; exact Bool.false_ne_true.symm), keyEffect, if_pos (uLive.trans live), isOff,
          if_neg Bool.false_ne_true, if_pos (uStill.trans still)]
      refine ⟨_, handled _ (by rw [zero]; decide) report, ?_, ?_, ?_, ?_⟩
      · rw [sent_aut, offerAuthority_aut_eq, u_eq]
        rfl
      · rw [sent_eff, offerAuthority_eff_eq, u_eq]
        rfl
      · have ports : (offerAuthority c u).ord.ports = (s.taken p).ord.ports := by
          rw [offerAuthority_ord, u_eq]
        rw [sent_outbound, State.port, ports]
        exact congrArg (· ++ _) (taken_outbound s p)
      · have changes : offerAuthority c u = { u with
            aut := (offerAuthority c u).aut, eff := (offerAuthority c u).eff, snd.bell := (offerAuthority c u).snd.bell
            snd.horn := (offerAuthority c u).snd.horn } := rfl
        rw [changes, u_eq]
        exact ⟨rfl, rfl, rfl, rfl, rfl, rfl, rfl, rfl, rfl⟩
    · have isOff : on = false := by rw [on_eq, zero]; rfl
      have uFlt : u.flt = s.flt := by rw [u_eq]; rfl
      have lost := raiseStop_first (k := .keyOffMoving) (key := .cab c) (s := { u with aut.keyLost := true })
        (by rw [← clear, ← uFlt]) (by rw [uFlt]; exact none_)
      have report : reportKey c on (s.taken p) = raiseStop .keyOffMoving (.cab c) { u with aut.keyLost := true } := by
        rw [changed (by rw [was, isOff]; exact Bool.false_ne_true.symm), keyEffect, if_pos (uLive.trans live), isOff,
          if_neg Bool.false_ne_true, if_neg (by rw [uStill, moving]; exact Bool.false_ne_true)]
      refine ⟨_, newRecord .keyOffMoving .stop (.cab c) none { u with aut.keyLost := true },
        handled _ (by rw [zero]; decide) (report.trans lost), List.getLast?_concat .., rfl, rfl, rfl, ?_, rfl, rfl, rfl, ?_⟩
      · rw [u_eq]
        rfl
      · rw [u_eq]
        rfl
  · intro s
    have aut : (countClose s).aut = (autClose (beforeAuthority s)).aut := countClose_aut_eq s
    obtain ⟨l, sel, taken, d⟩ := fields_of_lever (countClose_lever s)
    have revised := reviseVigilance_changes (endKeyLost (beforeAuthority s))
    have live : (beforeAuthority s).liveEnd = s.liveEnd := by rw [State.liveEnd, beforeAuthority_aut, State.liveEnd]
    have still : (beforeAuthority s).standstill = (countClose s).standstill := by
      rw [State.standstill, beforeAuthority_record, State.standstill]
    refine ⟨_, rfl, fun c alive lost stands => ?_, fun stays => ?_⟩
    · rcases endKeyLost_cases (beforeAuthority s) with ⟨c', alive', -, -, e⟩ | ⟨stays, -⟩
      · obtain rfl : c' = c := Option.some.inj (alive'.symm.trans (live.trans alive))
        have stopped : (autClose (beforeAuthority s)).aut.vigilance = .stopped := by
          refine (autClose_vigilance (beforeAuthority s)).2 fun runs => runs.1 ?_
          rw [autClose, e, State.liveEnd, reviseVigilance_authority, offerAuthority_authority]
        rw [autClose] at aut stopped
        have eff : (autClose (beforeAuthority s)).eff = (offerAuthority c' (beforeAuthority s)).eff := by
          rw [autClose, reviseVigilance_eff, e]
        rw [l, sel, taken, d, eff, offerAuthority_eff_eq]
        refine ⟨?_, rfl, rfl, rfl, rfl⟩
        rw [aut, revised, stopped, e, offerAuthority_aut_eq, beforeAuthority_aut, beforeAuthority_cfg]
      · rw [live, alive, beforeAuthority_aut, lost, still, stands] at stays
        simp at stays
    · rcases endKeyLost_cases (beforeAuthority s) with ⟨c', alive', lost, stands, -⟩ | ⟨-, e⟩
      · rw [← live, alive', ← beforeAuthority_aut, lost, ← still, stands] at stays
        simp at stays
      · have eff : (autClose (beforeAuthority s)).eff = s.eff := by rw [autClose, reviseVigilance_eff, e, beforeAuthority_eff]
        rw [l, sel, taken, d, eff]
        refine ⟨?_, rfl, rfl, rfl, rfl⟩
        rw [aut, autClose, revised, e, beforeAuthority_aut]

end Sys2Proof.Machine
end

section
/-! PROOF. The count close as EFF meets it (R52, R63 to R69, R80 to R82): what its computation starts from, and what it leaves
out of service. -/

namespace Sys2Proof.Machine

/-! ### The state before EFF's computation -/

/-- Before EFF's computation a count close has changed of EFF the lever record alone (R5). -/
theorem closeBeforeEffort_eff (s : State) : (closeBeforeEffort s).eff = { s.eff with
    l := (closeBeforeEffort s).eff.l, selector := (closeBeforeEffort s).eff.selector
    taken := (closeBeforeEffort s).eff.taken, d := (closeBeforeEffort s).eff.d } := by
  have before : (closeBeforeEffort s).eff = (endKeyLost (beforeAuthority s)).eff := by
    simp [closeBeforeEffort, beforeAuthority, autClose]
  rw [before]
  rcases endKeyLost_cases (beforeAuthority s) with ⟨c, -, -, -, e⟩ | ⟨-, e⟩
  · rw [e, offerAuthority_eff_eq, beforeAuthority_eff]
  · rw [e, beforeAuthority_eff]

theorem closeBeforeEffort_settings (s : State) :
    (closeBeforeEffort s).ord.settings = (putConfigInForce s).ord.settings := by
  simp [closeBeforeEffort]

/-- SND but for the BELL, whose program 3 an approach asks for (R98). -/
def Snd.besideBell (x : Snd) : ChannelRecord × ChannelRecord × Bool := (x.horn, x.chime, x.night)

theorem fireMark_besideBell (b : BankName) (s : State) (m : Mark) :
    (fireMark b s m).snd.besideBell = s.snd.besideBell := by
  cases m with
  | approach i =>
    simp only [fireMark, passApproach]
    repeat' split
    all_goals simp [Snd.besideBell, askSound, requestProgram, programChannel, Snd.setChannel]
  | planEnd => rfl
  | _ => simp [fireMark]

theorem advancePosition_besideBell (s : State) : (advancePosition s).snd.besideBell = s.snd.besideBell := by
  unfold advancePosition
  rcases moveTo_cases _ _ with ⟨-, h⟩ | ⟨-, h⟩ <;> rw [h]
  · unfold fireMarks
    split
    · rfl
    · exact foldl_keeps (g := fun t : State => t.snd.besideBell) (fun t m => fireMark_besideBell _ t m) _ _

/-- Unless the key-lost condition ends, a count close leaves the HORN as it is until EFF's computation (R154). -/
theorem closeBeforeEffort_besideBell {s : State} (held : s.aut.keyLost = false) :
    (closeBeforeEffort s).snd.besideBell = s.snd.besideBell := by
  have before : (closeBeforeEffort s).snd = (endKeyLost (beforeAuthority s)).snd := by
    simp [closeBeforeEffort, beforeAuthority, autClose]
  rw [before]
  rcases endKeyLost_cases (beforeAuthority s) with ⟨c, -, lost, -, -⟩ | ⟨-, e⟩
  · rw [beforeAuthority_aut, held] at lost
    exact absurd lost Bool.false_ne_true
  · rw [e, beforeAuthority, advancePosition_besideBell]
    simp

/-! ### What follows EFF's computation -/

theorem countClose_eff (s : State) : (countClose s).eff = (effClose (closeBeforeEffort s)).eff := by
  simp [countClose, updateSand]

theorem countClose_snd (s : State) : (countClose s).snd = (effClose (closeBeforeEffort s)).snd := by
  simp [countClose, updateSand]

theorem countClose_stp (s : State) : (countClose s).stp = (closeBeforeEffort s).stp := by
  simp [countClose, updateSand]

theorem countClose_pth (s : State) : (countClose s).pth = (closeBeforeEffort s).pth := by
  simp [countClose, updateSand]

theorem countClose_loop (s : State) : (countClose s).loop = (closeBeforeEffort s).loop := by
  simp [countClose, updateSand]

theorem countClose_aut_before (s : State) : (countClose s).aut = (closeBeforeEffort s).aut := by
  simp [countClose, updateSand]

theorem countClose_axl_before (s : State) : (countClose s).axl
    = { (closeBeforeEffort s).axl with sand := (effClose (closeBeforeEffort s)).sandCondition } := by
  simp [countClose, updateSand]

/-- The sand output follows the state that a count close leaves (R56). -/
theorem countClose_sand (s : State) : (countClose s).axl.sand = true ↔ (countClose s).eff.latch = true
    ∨ ∃ b, ((countClose s).axl.bogie b).cut = false ∧ ((countClose s).axl.bogie b).adhesion < 700 := by
  have bogies : ∀ p : BogieState → Prop, (∃ b, p ((countClose s).axl.bogie b))
      ↔ p (countClose s).axl.bogie1 ∨ p (countClose s).axl.bogie2 := fun p =>
    ⟨fun ⟨b, h⟩ => by cases b with | b1 => exact .inl h | b2 => exact .inr h, fun h => h.elim (⟨.b1, ·⟩) (⟨.b2, ·⟩)⟩
  rw [bogies fun b => b.cut = false ∧ b.adhesion < 700, countClose_eff, countClose_axl_before]
  simp [State.sandCondition, or_comm]

/-! ### The stages one by one (R67 to R76) -/

theorem setEmergency_eff (seen1 seen2 : Bool) (s : State) :
    (setEmergency seen1 seen2 s).eff = { s.eff with latch := true } := by
  cases seen1 <;> cases seen2 <;> rfl

theorem clearEmergency_eff (s : State) : (clearEmergency s).eff = { s.eff with
    latch := false, settleCount := max 25 s.eff.settleCount
    settleReason := if s.eff.settleCount < 25 then .emergency else s.eff.settleReason } := by
  rw [clearEmergency, offerSettle_eff]

/-- The computation's limits leave of EFF all but E, the settle count and the overspeed-noted flag (R70 to R76). -/
theorem limitEffort_eff (e : Int) (s : State) : (limitEffort e s).eff = { s.eff with
    e := jerkLimit (s.cfg .jerkUp) (s.cfg .jerkDown) e s.effortTarget
    settleCount := s.eff.settleCount - 1
    settleReason := if s.eff.settleCount = 1 then .none else s.eff.settleReason
    overspeed := s.eff.overspeed || decide (s.eff.cap + 1400 < s.vSel) } := by
  have counted : (countSettle s).eff = { s.eff with
      settleCount := s.eff.settleCount - 1
      settleReason := if s.eff.settleCount = 1 then .none else s.eff.settleReason } := by
    unfold countSettle
    split
    · next zero => rw [if_neg (by omega), show s.eff.settleCount - 1 = s.eff.settleCount by omega]
    · rfl
  have speed : (countSettle s).vSel = s.vSel := by
    simp only [State.vSel, counted, countSettle_axl]
  unfold limitEffort noteOverspeed
  rw [speed]
  split
  · next above =>
    have high : s.eff.cap + 1400 < s.vSel := by simpa only [counted] using above.1
    simp [counted, high]
  · next low =>
    have same : (s.eff.overspeed || decide (s.eff.cap + 1400 < s.vSel)) = s.eff.overspeed := by
      simp only [counted, not_and, Bool.not_eq_false] at low
      by_cases high : s.eff.cap + 1400 < s.vSel
      · simp [low high]
      · simp [high]
    rw [same]
    dsimp only
    rw [counted]

/-- The rows of R82. -/
theorem reviseHold_cases (s : State) :
    (s.eff.held = true ∧ (150 ≤ s.eff.e ∧ s.eff.selector ≠ .neutral ∧ (s.eff.rollback = false ∨ s.standstill = true))
        ∧ reviseHold s = { s with eff.held := false, eff.rollback := false })
      ∨ (s.eff.held = true ∧ ¬ (150 ≤ s.eff.e ∧ s.eff.selector ≠ .neutral ∧ (s.eff.rollback = false ∨ s.standstill = true))
        ∧ reviseHold s = s)
      ∨ (s.eff.held = false ∧ (s.vSel < -150 ∧ 0 ≤ s.eff.d)
        ∧ reviseHold s = raiseNotice .rollback .none { s with eff.held := true, eff.rollback := true })
      ∨ (s.eff.held = false ∧ ¬ (s.vSel < -150 ∧ 0 ≤ s.eff.d)
        ∧ reviseHold s = { s with eff.held := decide (s.eff.runCounter = 10) }) := by
  unfold reviseHold
  cases held : s.eff.held with
  | true =>
    by_cases lifts : 150 ≤ s.eff.e ∧ s.eff.selector ≠ .neutral ∧ (s.eff.rollback = false ∨ s.standstill = true)
    · exact .inl ⟨rfl, lifts, if_pos lifts⟩
    · exact .inr (.inl ⟨rfl, lifts, if_neg lifts⟩)
  | false =>
    by_cases rolls : s.vSel < -150 ∧ 0 ≤ s.eff.d
    · exact .inr (.inr (.inl ⟨rfl, rolls, if_pos rolls⟩))
    · refine .inr (.inr (.inr ⟨rfl, rolls, (if_neg rolls).trans ?_⟩))
      by_cases ten : s.eff.runCounter = 10
      · rw [if_pos ten, decide_eq_true ten]
      · rw [if_neg ten, decide_eq_false ten, ← held]

/-- The state in which EFF's stages begin: the captures cleared, the cap in force formed (R66, R74, R80). -/
def capped (s : State) : State := formCap (clearCaptures s)

/-- Stage 1 in HALT, stages 1 to 8 else (R63, R65). -/
def firstStages (s : State) : State :=
  if s.flt.halt then haltEmergency (s.seenActive .one) (s.seenActive .two) (capped s)
  else runEffort (s.seenActive .one) (s.seenActive .two) (capped s)

theorem effClose_unconfigured {s : State} (unconfigured : s.ord.run = false) :
    effClose s = unconfiguredClose (s.seenActive .one || s.seenActive .two) (capped s) :=
  if_pos (by simp [unconfigured])

theorem effClose_halt {s : State} (run : s.ord.run = true) (halt : s.flt.halt = true) :
    effClose s = countStandstill { firstStages s with
      eff.e := 0, eff.c1 := 0, eff.c2 := 0, eff.held := true, eff.emergencyBrake := true } := by
  rw [firstStages, halt]
  exact (if_neg (by simp [run])).trans (if_pos halt)

/-- Stages 9 and 10 and the emergency brake after the first stages (R63, R69). -/
def codesFormed (s : State) : State :=
  { setCodes s with eff.emergencyBrake := s.eff.latch }

theorem effClose_service {s : State} (run : s.ord.run = true) (halt : s.flt.halt = false) :
    effClose s = reviseHold (countStandstill (codesFormed (firstStages s))) := by
  rw [firstStages, halt]
  exact (if_neg (by simp [run])).trans (if_neg (by simp [halt]))

theorem haltEmergency_rest (seen1 seen2 : Bool) (s : State) :
    ((haltEmergency seen1 seen2 s).eff.runCounter, (haltEmergency seen1 seen2 s).standstill)
      = (s.eff.runCounter, s.standstill) := by
  unfold haltEmergency
  repeat' split
  · simp [clearEmergency_eff, State.standstill]
  · rfl
  · simp [setEmergency_eff, State.standstill]
  · rfl

theorem runCounter_countStandstill (s : State) : (countStandstill s).eff.runCounter
    = if s.standstill = true ∧ s.eff.e ≤ 0 then min 10 (s.eff.runCounter + 1) else 0 := rfl

/-- Without power the run counter counts standstills (R81). -/
theorem runCounter_of_low {s : State} (low : s.eff.e ≤ 0) : (countStandstill s).eff.runCounter
    = if s.standstill = true then min 10 (s.eff.runCounter + 1) else 0 := by
  rw [runCounter_countStandstill]
  by_cases still : s.standstill = true
  · rw [if_pos ⟨still, low⟩, if_pos still]
  · rw [if_neg fun h => still h.1, if_neg still]

theorem countClose_standstill (s : State) : (countClose s).standstill = (closeBeforeEffort s).standstill := by
  rw [State.standstill, countClose_axl_before, State.standstill]

theorem closeBeforeEffort_run (s : State) : (closeBeforeEffort s).ord.run = s.ord.run :=
  (run_of_settings (closeBeforeEffort_settings s)).trans rfl

/-- Settles O48: the two branches out of service. -/
theorem effortIsZeroOutsideService : Obligations.EffortIsZeroOutsideService := by
  unfold Obligations.EffortIsZeroOutsideService
  intro s out
  obtain ⟨m, before⟩ : ∃ m, m = closeBeforeEffort s := ⟨_, rfl⟩
  have run : m.ord.run = s.ord.run := by rw [before, closeBeforeEffort_run]
  have halt : m.flt.halt = s.flt.halt := by rw [before]; exact Flt.Noted.halt (closeBeforeEffort_noted s)
  have eff := closeBeforeEffort_eff s
  rw [← before] at eff
  have tEff : (countClose s).eff = (effClose m).eff := by rw [before, countClose_eff]
  have still : (countClose s).standstill = m.standstill := by rw [before, countClose_standstill]
  have rest : (countClose s).ord.run = s.ord.run ∧ (countClose s).flt.halt = s.flt.halt :=
    ⟨countClose_run s, Flt.Noted.halt (countClose_noted s)⟩
  refine ⟨_, rfl, ?_⟩
  rw [tEff, still]
  cases configured : s.ord.run with
  | false =>
    rw [effClose_unconfigured (run.trans configured)]
    have seen : (m.seenActive .one || m.seenActive .two) = true
        ↔ ∃ c, (s.eff.inputs.get c).active = true ∨ (s.eff.inputs.get c).capture = true := by
      have inputs : m.eff.inputs = s.eff.inputs := by rw [eff]
      have ends : ∀ p : CabEnd → Prop, (∃ c, p c) ↔ p .one ∨ p .two := fun p =>
        ⟨fun ⟨c, h⟩ => by cases c with | one => exact .inl h | two => exact .inr h, fun h => h.elim (⟨_, ·⟩) (⟨_, ·⟩)⟩
      rw [ends]
      simp [State.seenActive, inputs]
    refine ⟨rfl, rfl, rfl, rfl, rest.1.trans configured, rest.2, ?_, fun _ => ⟨?_, ?_, seen⟩, nofun⟩
    · have counter : m.eff.runCounter = s.eff.runCounter := by rw [eff]
      rw [← counter]
      exact runCounter_of_low (le_refl 0)
    · exact (congrArg Eff.latch eff :)
    · exact (congrArg Eff.settleCount eff :)
  | true =>
    have halted : s.flt.halt = true := out.resolve_left (by rw [configured]; exact Bool.false_ne_true.symm)
    rw [effClose_halt (run.trans configured) (halt.trans halted)]
    refine ⟨rfl, rfl, rfl, rfl, rest.1.trans configured, rest.2, ?_, nofun, fun _ => rfl⟩
    have kept : (firstStages m).eff.runCounter = s.eff.runCounter ∧ (firstStages m).standstill = m.standstill := by
      rw [firstStages, if_pos (halt.trans halted)]
      have same := haltEmergency_rest (m.seenActive .one) (m.seenActive .two) (capped m)
      obtain ⟨counter, still⟩ := Prod.mk.inj same
      exact ⟨counter.trans (congrArg Eff.runCounter eff :), still⟩
    rw [← kept.1, ← kept.2]
    exact runCounter_of_low (le_refl 0)

end Sys2Proof.Machine
end

section
/-! PROOF. Doors (R133 to R141): DOORS, CLOSE, the door report and the ramp input. -/

namespace Sys2Proof.Machine

/-! ### The target (R125) -/

/-- The target stands in a slot of the live bank. -/
theorem slot_of_target {s : State} {i : Nat} {e : Entry} (target : s.target = some (i, e)) :
    ∃ b, s.liveBank = some b ∧ s.entryAt b i = some e := by
  have mem : (i, e) ∈ s.liveEntries := List.mem_of_find?_eq_some target
  unfold State.liveEntries at mem
  split at mem
  · next b live => exact ⟨b, live, mem_entries.mp mem⟩
  · exact absurd mem List.not_mem_nil

theorem stop?_of_point {e : Entry} {z : Stop} (point : e.point = .stop z) : e.stop? = some z := by
  rw [Entry.stop?, point]

theorem point_of_stop? {e : Entry} {z : Stop} (stop : e.stop? = some z) : e.point = .stop z := by
  unfold Entry.stop? at stop
  split at stop
  · cases stop
  · next y point => rw [point, Option.some.inj stop]

theorem modStop_of_entryAt {s : State} {b : BankName} {i : Nat} {e : Entry} {z : Stop} (f : Stop → Stop)
    (at_ : s.entryAt b i = some e) (point : e.point = .stop z) :
    s.modStop b i f = s.withSlot b i (some { e with point := .stop (f z) }) := by
  rw [State.modStop, modEntry_of_entryAt _ at_, Entry.modStop, point]

/-! ### DOORS (R133 to R135) -/

/-- The serving test finds no target in its window, or this dwell has served a stop (R134). -/
theorem serveTarget_none {d : DwellRecord} {s : State} (none_ : d.served ≠ none
    ∨ ∀ i e, s.target = some (i, e) → s.pth.p + s.cfgNat .stopWindow < e.distance
      ∨ e.distance + s.cfgNat .stopWindow ≤ s.pth.p) : serveTarget d s = (d, none, s) := by
  unfold serveTarget
  split
  · rfl
  · next unserved =>
    have away := none_.resolve_left (by simpa using unserved)
    split
    · next i e b target live =>
      have out : s.inWindow e = false := by
        have := away i e target
        simp only [State.inWindow, decide_eq_false_iff_not]
        omega
      split
      · rw [out]
        rfl
      · rfl
    · rfl

/-- The target in its window is served (R134). -/
theorem serveTarget_some {d : DwellRecord} {s : State} {i : Nat} {e : Entry} {z : Stop} {b : BankName}
    (unserved : d.served = none) (target : s.target = some (i, e)) (live : s.liveBank = some b) (point : e.point = .stop z)
    (window : s.inWindow e = true) : serveTarget d s = ({ d with served := some (e.id, z.side), wish := wishOf s.stp.request },
      some (e.id, s.stp.request), { s.modStop b i fun t => { t with state := .served } with stp.request := none }) := by
  unfold serveTarget
  simp [unserved, target, live, stop?_of_point point, window]

theorem grantRamp_keeps (ramp : Bool) (d : DwellRecord) :
    grantRamp ramp d = { d with ramp := (grantRamp ramp d).ramp } := by
  unfold grantRamp
  dsimp only
  repeat' split
  all_goals rfl

theorem grantRamp_held {ramp : Bool} {d : DwellRecord} (held : d.ramp ≠ none ∨ d.served = none) :
    (grantRamp ramp d).ramp = d.ramp := by
  unfold grantRamp
  split
  · rfl
  · next served =>
    have some_ : d.ramp ≠ none := held.resolve_right (by simp [served])
    exact congrArg DwellRecord.ramp (if_neg fun h => some_ (Option.isNone_iff_eq_none.mp h.1))

theorem rampSide_eq (side : Side) (wish : Wish) : rampSide side wish
    = if side = .right ∨ (side = .both ∧ wish.aR = true ∧ wish.aL = false) then .right else .left := by
  cases side <;> cases left : wish.aL <;> cases right : wish.aR <;> simp [rampSide, left, right]

theorem sidesHold_iff {sides : Option Side} {r : RampSide} : sidesHold sides r = true
    ↔ sides = some .both ∨ (sides = some .left ∧ r = .left) ∨ (sides = some .right ∧ r = .right) := by
  rcases sides with _ | (_ | _ | _) <;> cases r <;> simp [sidesHold]

theorem grantRamp_wanted {ramp : Bool} {d : DwellRecord} {id : Nat} {side : Side} (free : d.ramp = none)
    (served : d.served = some (id, side)) : (grantRamp ramp d).ramp
      = if (d.wish.aL = true ∨ d.wish.aR = true ∨ ramp = true) ∧ sidesHold d.sides (rampSide side d.wish) = true then
          some (rampSide side d.wish) else none := by
  unfold grantRamp
  rw [served]
  by_cases wanted : (d.wish.aL = true ∨ d.wish.aR = true ∨ ramp = true) ∧ sidesHold d.sides (rampSide side d.wish) = true
  · rw [if_pos wanted]
    simp [free, wanted.2, or_assoc, wanted.1]
  · rw [if_neg wanted]
    simp only [free, Option.isNone_none, Bool.or_eq_true, or_assoc, true_and]
    rw [if_neg wanted, free]

/-- The serving test leaves sides and ramp of the dwell record, and of the state all but PTH and the request record. -/
theorem serveTarget_keeps (d : DwellRecord) (s : State) :
    (serveTarget d s).1 = { d with served := (serveTarget d s).1.served, wish := (serveTarget d s).1.wish }
      ∧ (serveTarget d s).2.2
        = { s with pth := (serveTarget d s).2.2.pth, stp.request := (serveTarget d s).2.2.stp.request } := by
  unfold serveTarget
  repeat' split
  case h_1.isTrue b _ _ _ _ _ _ => cases b <;> exact ⟨rfl, rfl⟩
  all_goals exact ⟨rfl, rfl⟩

theorem wishOf_iff (r : Option RequestRecord) :
    ((wishOf r).aL = true ↔ ∃ q, r = some q ∧ q.zones.aL = true)
      ∧ ((wishOf r).aR = true ↔ ∃ q, r = some q ∧ q.zones.aR = true) := by
  cases r <;> simp [wishOf]

theorem unionSides_eq (held : Option Side) (x : Side) :
    unionSides held x = if held = none ∨ held = some x then x else .both := by
  rcases held with _ | (_ | _ | _) <;> cases x <;> rfl

/-- DOORS after its checks, with a side and the dwell record it starts from (R133). -/
theorem handleDoors_granted {x r : Byte} {side : Side} {d : DwellRecord} {s : State}
    (sides : (x, side) ∈ [(1, Side.left), (2, .right), (3, .both)]) (still : s.standstill = true) (low : s.eff.e ≤ 0)
    (record : (s.stp.dwell = .running ∧ d = { sides := none, ramp := none, served := none, wish := ⟨false, false⟩ })
      ∨ (s.stp.dwell = .dwell ∧ s.stp.dwellRecord = some d)) :
    handleDoors x r s = grantDoors (r != 0) { d with sides := some (unionSides d.sides side) } s := by
  have read : readSides x = some side := by
    simp only [List.mem_cons, Prod.mk.injEq, List.not_mem_nil, or_false] at sides
    rcases sides with ⟨rfl, rfl⟩ | ⟨rfl, rfl⟩ | ⟨rfl, rfl⟩ <;> rfl
  have unpowered : ¬ 0 < s.eff.e := by omega
  rcases record with ⟨running, rfl⟩ | ⟨dwell, record⟩
  · simp only [handleDoors, read, running, still, unpowered]
    rfl
  · simp only [handleDoors, read, dwell, still, unpowered, record]
    rfl

theorem handleDoors_refused {x r : Byte} {s : State} (bad : x = 0 ∨ 3 < x.toNat ∨ s.stp.dwell = .closing
    ∨ s.stp.dwell = .unsecured ∨ s.standstill = false ∨ 0 < s.eff.e) : handleDoors x r s = (s, plain .refused) := by
  unfold handleDoors
  cases read : readSides x with
  | none => rfl
  | some side =>
    have sides : x ≠ 0 ∧ ¬ 3 < x.toNat := by
      unfold readSides at read
      repeat' split at read
      all_goals simp_all
    rcases bad with zero | above | closing | unsecured | moving | power
    · exact absurd zero sides.1
    · exact absurd above sides.2
    · simp [closing]
    · simp [unsecured]
    · cases s.stp.dwell <;> simp [moving]
    · cases s.stp.dwell <;> simp [power]

/-- Settles O50: the checks, then the serving test and the ramp test on the dwell record. -/
theorem doorsGrantPermits : Obligations.DoorsGrantPermits := by
  unfold Obligations.DoorsGrantPermits
  intro p tag x r s ready
  refine ⟨fun bad => exec_final ready nofun (handleDoors_refused (s := s.taken p) bad), fun side d sides still low record => ?_⟩
  obtain ⟨d1, start⟩ : ∃ d1 : DwellRecord, d1 = { d with sides := some (unionSides d.sides side) } := ⟨_, rfl⟩
  obtain ⟨v, test⟩ : ∃ v, v = serveTarget d1 (s.taken p) := ⟨_, rfl⟩
  have handled : handleOrder p tag (.doors x r) (s.taken p)
      = ({ v.2.2 with stp.dwell := .dwell, stp.dwellRecord := some (grantRamp (r != 0) v.1) },
        doneWith (.doors (grantRamp (r != 0) v.1).sides (grantRamp (r != 0) v.1).ramp v.2.1)) := by
    rw [test, start]
    exact handleDoors_granted (s := s.taken p) sides still low record
  obtain ⟨record_, changes⟩ := serveTarget_keeps d1 (s.taken p)
  rw [← test] at record_ changes
  obtain ⟨d', ramp⟩ : ∃ d', d' = grantRamp (r != 0) v.1 := ⟨_, rfl⟩
  have kept := grantRamp_keeps (r != 0) v.1
  rw [← ramp] at handled kept
  have ramp1 : v.1.ramp = d.ramp := by rw [record_, start]
  have wish1 : d'.wish = v.1.wish := by rw [kept]
  have served1 : d'.served = v.1.served := by rw [kept]
  have sides1 : d'.sides = some (unionSides d.sides side) := by rw [kept, record_, start]
  have unserved1 : d1.served = d.served := by rw [start]
  refine ⟨_, d', v.2.1, exec_final ready nofun handled, rfl, rfl, ?_, ?_, ?_, ?_, ?_, ?_, ?_, ?_⟩
  · rw [sides1, unionSides_eq]
    split <;> rfl
  · rw [sent_outbound, changes]
    exact congrArg (· ++ _) (taken_outbound s p)
  · intro unserved i e z target point lower upper
    obtain ⟨b, live, entry⟩ := slot_of_target target
    have window : (s.taken p).inWindow e = true := decide_eq_true ⟨lower, upper⟩
    have hit := serveTarget_some (s := s.taken p) (unserved1.trans unserved) target live point window
    rw [← test] at hit
    have wish : d'.wish = wishOf s.stp.request := by rw [wish1, hit]; rfl
    refine ⟨by rw [served1, hit], by rw [hit]; rfl, ?_, ?_, ?_, b, live, ?_⟩
    · rw [sent_stp, hit]
    · rw [wish, (wishOf_iff _).1]
    · rw [wish, (wishOf_iff _).2]
    · have changed := modStop_of_entryAt (s := s.taken p) (fun t => { t with state := .served }) entry point
      rw [sent_pth, hit]
      dsimp only
      rw [changed, taken_withSlot_pth]
  · intro none_
    have miss := serveTarget_none (d := d1) (s := s.taken p) (none_.imp (by rw [unserved1]; exact id) id)
    rw [← test] at miss
    refine ⟨by rw [served1, miss, unserved1], by rw [wish1, miss, start], by rw [miss], ?_, ?_⟩
    · rw [sent_stp, miss]
      rfl
    · rw [sent_pth, miss]
      rfl
  · intro held
    rw [ramp, grantRamp_held (.inl (ramp1 ▸ held)), ramp1]
  · intro unserved
    rw [ramp, grantRamp_held (.inr (served1 ▸ unserved)), ramp1]
  · rintro id platform side' free served rfl
    have wanted := grantRamp_wanted (ramp := r != 0) (ramp1.trans free) (served1.symm.trans served)
    have sidesV : v.1.sides = d'.sides := by rw [kept]
    rw [← ramp, ← wish1, rampSide_eq, sidesV] at wanted
    rw [wanted]
    simp only [sidesHold_iff, bne_iff_ne, ne_eq]
  · rw [changes]
    exact ⟨rfl, rfl, rfl, rfl, rfl, rfl, rfl⟩

end Sys2Proof.Machine
end

section
/-! PROOF. Closing and securing (R137 to R141): CLOSE, the door report, the ramp input and the check of a count close. -/

namespace Sys2Proof.Machine

/-- What a door report and a change of the ramp input do once recorded (R139, R140). -/
def doorCheck (closed : Bool) (s : State) : State :=
  if closed then endClosing s else if s.stp.dwell = .running then foundOpen s else s

theorem doorReport_eq (locked : Bool) (s : State) :
    doorReport locked s = doorCheck locked { s with stp.doorsLocked := locked } := rfl

theorem rampChange_eq {stowed : Bool} {s : State} (change : s.stp.rampStowed ≠ stowed) :
    rampChange stowed s = doorCheck stowed { s with stp.rampStowed := stowed } :=
  if_neg change

theorem offerSettle_changes (r : SettleReason) (n : Nat) (s : State) : offerSettle r n s = { s with
    eff.settleCount := max n s.eff.settleCount
    eff.settleReason := if s.eff.settleCount < n then r else s.eff.settleReason } := by
  rcases offerSettle_cases r n s with ⟨less, e⟩ | ⟨more, e⟩
  · rw [e, if_pos less, max_eq_left less.le]
  · rw [e, if_neg (Nat.not_lt.mpr more), max_eq_right more]

/-- CLOSING or UNSECURED ends once doors and ramp are secure (R138). -/
theorem doorCheck_secure {s : State} (locked : s.stp.doorsLocked = true) (stowed : s.stp.rampStowed = true)
    (closing : s.stp.dwell = .closing ∨ s.stp.dwell = .unsecured) :
    doorCheck true s = { s with
        stp.dwell := .running, stp.dwellRecord := none
        eff.settleCount := max 5 s.eff.settleCount
        eff.settleReason := (if s.eff.settleCount < 5 then .doors else s.eff.settleReason)
        snd := (doorCheck true s).snd }
      ∧ (s.stp.dwell = .unsecured → (doorCheck true s).snd = s.snd)
      ∧ (s.stp.dwell = .closing → (doorCheck true s).snd = (askSound 2 s).snd) := by
  have ended : ∀ bell, doorCheck true s = secureTram bell s → doorCheck true s = { s with
        stp.dwell := .running, stp.dwellRecord := none
        eff.settleCount := max 5 s.eff.settleCount
        eff.settleReason := (if s.eff.settleCount < 5 then .doors else s.eff.settleReason)
        snd := (doorCheck true s).snd } := fun bell same => by
    rw [same, secureTram, offerSettle_changes]
    cases bell <;> rfl
  rcases closing with closing | unsecured
  · have same : doorCheck true s = secureTram true s := by simp [doorCheck, endClosing, locked, stowed, closing]
    refine ⟨ended true same, fun other => absurd (closing.symm.trans other) nofun, fun _ => ?_⟩
    rw [same, secureTram, offerSettle_changes]
    rfl
  · have same : doorCheck true s = secureTram false s := by simp [doorCheck, endClosing, locked, stowed, unsecured]
    refine ⟨ended false same, fun _ => ?_, fun other => absurd (unsecured.symm.trans other) nofun⟩
    rw [same, secureTram, offerSettle_changes]
    rfl

/-- A report that neither secures a CLOSING or UNSECURED tram nor opens one in RUNNING is recorded alone. -/
theorem doorCheck_keeps {closed : Bool} {s : State} (stays : s.stp.dwell = .dwell
    ∨ (s.stp.dwell ≠ .running ∧ (closed = true → s.stp.doorsLocked = false ∨ s.stp.rampStowed = false))
    ∨ (s.stp.dwell = .running ∧ closed = true)) : doorCheck closed s = s := by
  cases closed with
  | false =>
    have apart : s.stp.dwell ≠ .running := by
      rcases stays with dwell | ⟨other, -⟩ | ⟨-, open_⟩
      · rw [dwell]
        nofun
      · exact other
      · exact absurd open_ Bool.false_ne_true
    exact (if_neg Bool.false_ne_true).trans (if_neg apart)
  | true =>
    rw [doorCheck, if_pos rfl, endClosing]
    rcases stays with dwell | ⟨-, one⟩ | ⟨running, -⟩
    · simp [dwell]
    · rcases one rfl with open_ | out <;> simp [*]
    · simp [running]

/-- A door or the ramp found open in RUNNING (R139, R140). -/
theorem doorCheck_open {s : State} (running : s.stp.dwell = .running) :
    if s.standstill = true ∧ s.eff.e ≤ 0 then doorCheck false s = { s with stp.dwell := .unsecured }
    else s.flt.latch = false → (∀ r ∈ s.flt.queue, r.acked ≠ some false) →
      doorCheck false s = { storeFault .doorOpenMoving .stop .none none s with flt.latch := true } := by
  have found : doorCheck false s = foundOpen s := (if_neg Bool.false_ne_true).trans (if_pos running)
  rw [found, foundOpen]
  split
  · rfl
  · exact raiseStop_first

/-- An IDLE bell starts its departure program (R138, R147). -/
theorem askSound_departure {s : State} (idle : s.snd.bell.state = .idle) (queue : s.snd.bell.queue = []) :
    (askSound 2 s).snd.bell = { s.snd.bell with state := .program 2 1 600 false, tone := .high, full := !s.snd.night } := by
  have started : (requestOn .bell s.snd.night 2 s.snd.bell).1
      = { s.snd.bell with state := .program 2 1 600 false, tone := .high, full := !s.snd.night } := by
    simp [requestOn, idle, queue, takeUp, startProgramStep, programSteps, ms, ticksPerMs, driveFull]
  exact started

/-- What a recorded report brings, the state `u` holding the record (R138 to R140). -/
theorem doorCheck_rows {closed : Bool} {s u : State} (stp : u.stp.dwell = s.stp.dwell)
    (others : u.standstill = s.standstill ∧ u.eff = s.eff ∧ u.flt = s.flt ∧ u.snd = s.snd ∧ u.pth = s.pth)
    (reported : u.stp.doorsLocked = true → u.stp.rampStowed = true → s.stp.dwell = .closing ∨ s.stp.dwell = .unsecured →
      closed = true) :
    (u.stp.doorsLocked = true → u.stp.rampStowed = true → s.stp.dwell = .closing ∨ s.stp.dwell = .unsecured →
      doorCheck closed u = { u with
        stp.dwell := .running, stp.dwellRecord := none
        eff.settleCount := max 5 s.eff.settleCount
        eff.settleReason := (if s.eff.settleCount < 5 then .doors else s.eff.settleReason)
        snd := (doorCheck closed u).snd }
      ∧ (s.stp.dwell = .unsecured → (doorCheck closed u).snd = s.snd)
      ∧ (s.stp.dwell = .closing → s.snd.bell.state = .idle → s.snd.bell.queue = [] →
          (doorCheck closed u).snd.bell = { s.snd.bell with
            state := .program 2 1 600 false, tone := .high, full := !s.snd.night }))
      ∧ (s.stp.dwell = .closing ∨ s.stp.dwell = .unsecured ∨ s.stp.dwell = .dwell →
          u.stp.doorsLocked = false ∨ u.stp.rampStowed = false ∨ s.stp.dwell = .dwell → doorCheck closed u = u)
      ∧ (s.stp.dwell = .running → closed = true → doorCheck closed u = u)
      ∧ (s.stp.dwell = .running → closed = false →
          if s.standstill = true ∧ s.eff.e ≤ 0 then doorCheck closed u = { u with stp.dwell := .unsecured }
          else s.flt.latch = false → (∀ r ∈ s.flt.queue, r.acked ≠ some false) →
            doorCheck closed u = { u with flt := (doorCheck closed u).flt }
              ∧ (doorCheck closed u).flt.latch = true ∧ (doorCheck closed u).flt.halt = s.flt.halt
              ∧ ∃ r, (doorCheck closed u).flt.queue.getLast? = some r ∧ r.kind = .doorOpenMoving ∧ r.cls = .stop
                  ∧ r.key = .none ∧ r.p = s.pth.p ∧ r.tag = none ∧ r.acked = some false) := by
  obtain ⟨still, eff, flt, snd, pth⟩ := others
  refine ⟨fun locked stowed ending => ?_, fun mode one => ?_, fun running shut => ?_, fun running open_ => ?_⟩
  · rw [reported locked stowed ending]
    obtain ⟨changes, kept, bell⟩ := doorCheck_secure locked stowed (stp ▸ ending)
    rw [eff] at changes
    rw [snd, stp] at kept
    refine ⟨by rw [eff]; exact changes, kept, fun closing idle queue => ?_⟩
    rw [bell (stp.trans closing), askSound_departure (by rw [snd]; exact idle) (by rw [snd]; exact queue), snd]
  · refine doorCheck_keeps ?_
    rw [stp]
    rcases mode with closing | unsecured | dwell
    · exact .inr (.inl ⟨by rw [closing]; nofun, fun _ => one.imp_right fun h => h.resolve_right (by rw [closing]; nofun)⟩)
    · exact .inr (.inl ⟨by rw [unsecured]; nofun, fun _ => one.imp_right fun h => h.resolve_right (by rw [unsecured]; nofun)⟩)
    · exact .inl dwell
  · exact doorCheck_keeps (.inr (.inr ⟨stp.trans running, shut⟩))
  · have opened := doorCheck_open (stp.trans running)
    rw [open_]
    split
    · next stands => rwa [if_pos (by rw [still, eff]; exact stands)] at opened
    · next moving =>
      rw [if_neg (by rw [still, eff]; exact moving)] at opened
      intro clear none_
      rw [opened (by rw [flt]; exact clear) (by rw [flt]; exact none_)]
      exact ⟨rfl, rfl, (congrArg Flt.halt flt :), _, List.getLast?_concat .., rfl, rfl, rfl, (congrArg Pth.p pth :), rfl, rfl⟩

/-- STP at a count close: the check of R141, and what the marks and a switch do to the request record. -/
theorem countClose_stp_eq (s : State) : (countClose s).stp = { s.stp with
    request := (countClose s).stp.request
    dwell := if s.stp.dwell = .running ∧ (countClose s).standstill = true ∧ s.eff.e ≤ 0
        ∧ (s.stp.doorsLocked = false ∨ s.stp.rampStowed = false) then .unsecured else s.stp.dwell } := by
  obtain ⟨u, before⟩ : ∃ u, u = autClose (beforeAuthority s) := ⟨_, rfl⟩
  have after : (countClose s).stp.unasked = (dwellCheck u).stp.unasked := by
    rw [countClose_stp, before]
    simp [closeBeforeEffort, beforeAuthority]
  have unasked : u.stp.unasked = s.stp.unasked := by
    rw [before]
    simp [autClose, beforeAuthority]
  have still : u.standstill = (countClose s).standstill := by
    rw [State.standstill, State.standstill, ← beforeAuthority_record, before]
    simp [autClose]
  have e : u.eff.e = s.eff.e := by
    rw [before, autClose, reviseVigilance_eff]
    exact (e_of_drive (endKeyLost_drive _)).trans (by simp)
  have same := stp_of_unasked unasked
  have checked : (dwellCheck u).stp = { u.stp with dwell :=
      if s.stp.dwell = .running ∧ (countClose s).standstill = true ∧ s.eff.e ≤ 0
        ∧ (s.stp.doorsLocked = false ∨ s.stp.rampStowed = false) then .unsecured else s.stp.dwell } := by
    have cond : (u.stp.dwell = .running ∧ u.standstill = true ∧ u.eff.e ≤ 0 ∧ (u.stp.doorsLocked && u.stp.rampStowed) = false)
        ↔ (s.stp.dwell = .running ∧ (countClose s).standstill = true ∧ s.eff.e ≤ 0
          ∧ (s.stp.doorsLocked = false ∨ s.stp.rampStowed = false)) := by
      rw [still, e, same, Bool.and_eq_false_iff]
    unfold dwellCheck
    by_cases open_ : s.stp.dwell = .running ∧ (countClose s).standstill = true ∧ s.eff.e ≤ 0
        ∧ (s.stp.doorsLocked = false ∨ s.stp.rampStowed = false)
    · rw [if_pos (cond.mpr open_), if_pos open_]
    · rw [if_neg (mt cond.mp open_), if_neg open_, same]
  rw [stp_of_unasked after, checked, same]

/-- Settles O51: CLOSE, a recorded report, and the check of a count close. -/
theorem closingSecuresTheTram : Obligations.ClosingSecuresTheTram := by
  unfold Obligations.ClosingSecuresTheTram
  refine ⟨fun p tag s ready => ⟨fun other => ?_, fun d dwell record => ?_⟩, fun command s u cause => ?_, fun s => ?_⟩
  · refine exec_final ready nofun ?_
    have refused : handleClose (s.taken p) = (s.taken p, plain .refused) := by
      unfold handleClose
      split
      · next dwell => exact absurd dwell other
      all_goals rfl
    exact refused
  · refine exec_final ready nofun ?_
    simp only [handleOrder, handleClose, taken_stp, dwell, record]
    rfl
  · rcases cause with ⟨tag, k, rfl, ready, rfl⟩ | ⟨stowed, rfl, change, rfl⟩
    · obtain ⟨x, recorded⟩ : ∃ x : State, x = { s.taken .vehicle with stp.doorsLocked := decide (k = 1) } := ⟨_, rfl⟩
      have handled : handleOrder .vehicle tag (.doorState k) (s.taken .vehicle) = (doorCheck (decide (k = 1)) x, plain .done) := by
        rw [recorded]
        rfl
      have dwell : x.stp.dwell = s.stp.dwell := by rw [recorded]; rfl
      have stp : x.stp.doorsLocked = decide (k = 1) := by rw [recorded]
      obtain ⟨secure, keeps, shut, opened⟩ := doorCheck_rows (closed := decide (k = 1)) dwell
        (by rw [recorded]; exact ⟨rfl, rfl, rfl, rfl, rfl⟩) fun locked _ _ => stp.symm.trans locked
      rw [← recorded]
      refine ⟨_, exec_final ready nofun handled, fun locked stowed ending => ?_, fun mode one => ?_, fun running again => ?_,
        fun running again => ?_⟩
      · obtain ⟨changes, kept, bell⟩ := secure locked stowed ending
        refine ⟨?_, kept, bell⟩
        exact (congrArg (State.sent · _ _) changes).trans rfl
      · rw [keeps mode one]
      · have one : k = 1 := by
          rcases again with again | ⟨tag', again⟩
          · cases again
          · cases again
            rfl
        rw [shut running (decide_eq_true one)]
      · have other : k ≠ 1 := by
          rcases again with again | ⟨tag', k', other, again⟩
          · cases again
          · cases again
            exact other
        have opened := opened running (decide_eq_false other)
        split
        · next stands =>
          rw [if_pos stands] at opened
          rw [opened]
          rfl
        · next moving =>
          rw [if_neg moving] at opened
          intro clear none_
          obtain ⟨changes, rest⟩ := opened clear none_
          refine ⟨?_, rest⟩
          exact (congrArg (State.sent · _ _) changes).trans rfl
    · obtain ⟨x, recorded⟩ : ∃ x : State, x = { s with stp.rampStowed := stowed } := ⟨_, rfl⟩
      have handled : exec (.rampStowedChange stowed) s = .next (doorCheck stowed x) := by
        rw [recorded, ← rampChange_eq (Ne.symm change)]
        rfl
      have dwell : x.stp.dwell = s.stp.dwell := by rw [recorded]
      have stp : x.stp.rampStowed = stowed := by rw [recorded]
      obtain ⟨secure, keeps, shut, opened⟩ := doorCheck_rows (closed := stowed) dwell
        (by rw [recorded]; exact ⟨rfl, rfl, rfl, rfl, rfl⟩) fun _ in_ _ => stp.symm.trans in_
      rw [← recorded]
      refine ⟨_, handled, secure, keeps, fun running again => shut running ?_, fun running again => opened running ?_⟩
      · rcases again with again | ⟨tag, again⟩
        · exact Instr.rampStowedChange.inj again
        · cases again
      · rcases again with again | ⟨tag, k, -, again⟩
        · exact Instr.rampStowedChange.inj again
        · cases again
  · have latched := countClose_noted s
    refine ⟨_, rfl, ?_, Flt.Noted.latch latched, Flt.Noted.halt latched⟩
    exact countClose_stp_eq s

end Sys2Proof.Machine
end

section
/-! PROOF. The emergency inputs and the emergency latch (R56, R65 to R69). -/

namespace Sys2Proof.Machine

/-! ### What stages 9 and 10 and the hold brake leave -/

/-- The emergency latch with what a count close decides with it, before the code words and the hold state (R66 to R75). -/
def Eff.watch (x : Eff) : Bool × Nat × SettleReason × Bool × PerEnd EmergencyInput :=
  (x.latch, x.settleCount, x.settleReason, x.overspeed, x.inputs)

theorem reviseHold_watch (s : State) : (reviseHold s).eff.watch = s.eff.watch := by
  rcases reviseHold_cases s with ⟨-, -, e⟩ | ⟨-, -, e⟩ | ⟨-, -, e⟩ | ⟨-, -, e⟩ <;> rw [e] <;> rfl

theorem effClose_watch {s : State} (run : s.ord.run = true) : (effClose s).eff.watch = (firstStages s).eff.watch := by
  cases halt : s.flt.halt with
  | true => rw [effClose_halt run halt]; rfl
  | false =>
    rw [effClose_service run halt]
    exact reviseHold_watch _

theorem reviseHold_drive (s : State) : (reviseHold s).eff.e = s.eff.e ∧ (reviseHold s).eff.c1 = s.eff.c1
    ∧ (reviseHold s).eff.c2 = s.eff.c2 ∧ (reviseHold s).eff.emergencyBrake = s.eff.emergencyBrake
    ∧ (reviseHold s).eff.runCounter = s.eff.runCounter := by
  rcases reviseHold_cases s with ⟨-, -, e⟩ | ⟨-, -, e⟩ | ⟨-, -, e⟩ | ⟨-, -, e⟩ <;> rw [e] <;> exact ⟨rfl, rfl, rfl, rfl, rfl⟩

/-- E and the emergency brake after the first stages (R65, R69). -/
theorem effClose_brake {s : State} (run : s.ord.run = true) :
    (effClose s).eff.e = (if s.flt.halt = true then 0 else (firstStages s).eff.e)
      ∧ (effClose s).eff.emergencyBrake = (s.flt.halt || (firstStages s).eff.latch) := by
  cases halt : s.flt.halt with
  | true =>
    rw [effClose_halt run halt]
    exact ⟨rfl, rfl⟩
  | false =>
    rw [effClose_service run halt]
    obtain ⟨e, -, -, brake, -⟩ := reviseHold_drive (countStandstill (codesFormed (firstStages s)))
    exact ⟨e, brake⟩

theorem effClose_snd {s : State} (run : s.ord.run = true) : (effClose s).snd = (firstStages s).snd := by
  cases halt : s.flt.halt with
  | true => rw [effClose_halt run halt]; rfl
  | false =>
    rw [effClose_service run halt]
    exact reviseHold_snd _

theorem effClose_noted_hold {s : State} (run : s.ord.run = true) : Noted [.rollback] (firstStages s) (effClose s) := by
  cases halt : s.flt.halt with
  | true => rw [effClose_halt run halt]; exact .of_flt rfl
  | false =>
    rw [effClose_service run halt]
    have kept : (countStandstill (codesFormed (firstStages s))).flt = (firstStages s).flt := rfl
    exact .from_flt kept (reviseHold_noted _)

/-! ### The first stage (R67, R68) -/

/-- Some input is seen. -/
def State.anySeen (s : State) : Bool := s.seenActive .one || s.seenActive .two

/-- The latch may be cleared, the cap formed making no difference. -/
def State.mayClear (s : State) : Bool := s.emergencyMayClear (s.seenActive .one) (s.seenActive .two)

/-- With an input seen and the latch clear it is set (R67). -/
theorem firstStages_set {s : State} (clear : s.eff.latch = false) (seen : s.anySeen = true) :
    ∃ x : State, x = setEmergency (s.seenActive .one) (s.seenActive .two) (capped s)
      ∧ firstStages s = { x with eff.e := if s.flt.halt = true then x.eff.e else -1000 } := by
  refine ⟨_, rfl, ?_⟩
  have unset : (capped s).eff.latch = false := clear
  have any : (s.seenActive .one || s.seenActive .two) = true := seen
  rw [firstStages]
  cases halt : s.flt.halt
  · have staged : runEffort (s.seenActive .one) (s.seenActive .two) (capped s)
        = { setEmergency (s.seenActive .one) (s.seenActive .two) (capped s) with eff.e := -1000 } := by
      simp only [runEffort, unset, any, if_true, Bool.false_eq_true, if_false]
    exact staged
  · have staged : haltEmergency (s.seenActive .one) (s.seenActive .two) (capped s)
        = setEmergency (s.seenActive .one) (s.seenActive .two) (capped s) := by
      simp only [haltEmergency, unset, any, if_true, Bool.false_eq_true, if_false]
    exact staged

/-- A latch that may not be cleared stays (R68). -/
theorem firstStages_held {s : State} (set : s.eff.latch = true) (held : s.mayClear = false) :
    firstStages s = { capped s with eff.e := if s.flt.halt = true then (capped s).eff.e else -1000 } := by
  have set : (capped s).eff.latch = true := set
  have held : (capped s).emergencyMayClear (s.seenActive .one) (s.seenActive .two) = false := held
  rw [firstStages]
  cases halt : s.flt.halt
  · have staged : runEffort (s.seenActive .one) (s.seenActive .two) (capped s) = { capped s with eff.e := -1000 } := by
      simp only [runEffort, set, held, if_true, Bool.false_eq_true, if_false]
    exact staged
  · have staged : haltEmergency (s.seenActive .one) (s.seenActive .two) (capped s) = capped s := by
      simp only [haltEmergency, set, held, if_true, Bool.false_eq_true, if_false]
    exact staged

/-- A latch that may be cleared is cleared before the other stages (R68). -/
theorem firstStages_cleared {s : State} (set : s.eff.latch = true) (clears : s.mayClear = true) :
    firstStages s = if s.flt.halt = true then clearEmergency (capped s) else limitEffort (-1000) (clearEmergency (capped s)) := by
  have set : (capped s).eff.latch = true := set
  have clears : (capped s).emergencyMayClear (s.seenActive .one) (s.seenActive .two) = true := clears
  rw [firstStages]
  cases halt : s.flt.halt
  · have staged : runEffort (s.seenActive .one) (s.seenActive .two) (capped s)
        = limitEffort (-1000) (clearEmergency (capped s)) := by
      simp only [runEffort, set, clears, if_true]
    exact staged
  · have staged : haltEmergency (s.seenActive .one) (s.seenActive .two) (capped s) = clearEmergency (capped s) := by
      simp only [haltEmergency, set, clears, if_true]
    exact staged

/-- A record stored while room is left stands behind the others. -/
theorem storeFault_room {k : FaultKind} {c : FaultClass} {key : FaultKey} {tag : Option Byte} {s : State}
    (room : (storeFault k c key tag s).flt.queue.length < 16) :
    s.flt.queue.length < 16 ∧ (storeFault k c key tag s).flt.queue = s.flt.queue ++ [newRecord k c key tag s] := by
  have queue : (storeFault k c key tag s).flt.queue = makeRoom s.flt.queue ++ [newRecord k c key tag s] := rfl
  rw [queue, List.length_append, List.length_singleton] at room
  have atMostOne := length_le_makeRoom s.flt.queue
  have less : s.flt.queue.length < 16 := by omega
  exact ⟨less, by rw [queue, (makeRoom_made _).1 less]⟩

/-- The ends whose inputs are seen, End 1 first. -/
def seenEnds (seen1 seen2 : Bool) : List CabEnd :=
  (if seen1 then [.one] else []) ++ (if seen2 then [.two] else [])

/-- The records of R67 while room is left. -/
theorem setEmergency_room {seen1 seen2 : Bool} {s : State} (room : (setEmergency seen1 seen2 s).flt.queue.length < 16) :
    ∃ rs : List FaultRecord, (setEmergency seen1 seen2 s).flt.queue = s.flt.queue ++ rs
      ∧ rs.map (fun r => (r.kind, r.cls, r.key))
        = (seenEnds seen1 seen2).map (fun c => (FaultKind.emergencyBrake, FaultClass.notice, FaultKey.cab c))
      ∧ ∀ r ∈ rs, r.p = s.pth.p ∧ r.tag = none := by
  have one : ∀ (c : CabEnd) (t : State), (raiseNotice .emergencyBrake (.cab c) t).flt.queue.length < 16 →
      t.flt.queue.length < 16 ∧ (raiseNotice .emergencyBrake (.cab c) t).flt.queue
        = t.flt.queue ++ [newRecord .emergencyBrake .notice (.cab c) none t] := fun c t room => storeFault_room room
  cases seen1 <;> cases seen2
  · exact ⟨[], by simp [setEmergency], rfl, by simp⟩
  · have stored := (one .two _ room).2
    exact ⟨[_], stored, rfl, by simp [newRecord]⟩
  · have stored := (one .one _ room).2
    exact ⟨[_], stored, rfl, by simp [newRecord]⟩
  · obtain ⟨room, second⟩ := one .two _ room
    obtain ⟨-, first⟩ := one .one _ room
    refine ⟨[_, _], second.trans ((congrArg (· ++ _) first).trans (List.append_assoc ..)), rfl, ?_⟩
    simp [newRecord]

/-! ### The count close -/

theorem fields_of_watch {x y : Eff} (h : x.watch = y.watch) : x.latch = y.latch ∧ x.settleCount = y.settleCount
    ∧ x.settleReason = y.settleReason ∧ x.overspeed = y.overspeed ∧ x.inputs = y.inputs := by
  simpa [Eff.watch] using h

/-- What EFF's computation finds of EFF is what the count close found, but for the lever record. -/
theorem closeBeforeEffort_watch (s : State) : (closeBeforeEffort s).eff.watch = s.eff.watch := by
  rw [closeBeforeEffort_eff]
  rfl

/-- The captures are cleared and the levels kept, in every mode (R66). -/
theorem effClose_inputs (s : State) (c : CabEnd) : ((effClose s).eff.inputs.get c).capture = false
    ∧ ((effClose s).eff.inputs.get c).active = (s.eff.inputs.get c).active := by
  have cleared : (effClose s).eff.inputs = (capped s).eff.inputs := by
    cases run : s.ord.run with
    | false => rw [effClose_unconfigured run]; rfl
    | true =>
      obtain ⟨-, -, -, -, inputs⟩ := fields_of_watch (effClose_watch run)
      rw [inputs, firstStages]
      have settled : ∀ seen1 seen2 x, (haltEmergency seen1 seen2 x).eff.inputs = x.eff.inputs := fun seen1 seen2 x => by
        unfold haltEmergency
        repeat' split
        · rw [clearEmergency_eff]
        · rfl
        · rw [setEmergency_eff]
        · rfl
      have driven : ∀ seen1 seen2 x, (runEffort seen1 seen2 x).eff.inputs = x.eff.inputs := fun seen1 seen2 x => by
        unfold runEffort
        repeat' split
        · rw [limitEffort_eff, clearEmergency_eff]
        · rfl
        · have set : (setEmergency seen1 seen2 x).eff.inputs = x.eff.inputs := by rw [setEmergency_eff]
          exact set
        · rw [limitEffort_eff]
      split
      · exact settled ..
      · exact driven ..
  rw [cleared]
  cases c <;> exact ⟨rfl, rfl⟩

/-- What a count close in RUN takes over from EFF's first stages (R63, R65, R69). -/
structure Staged (m w t : State) : Prop where
  watch : t.eff.watch = w.eff.watch
  e : t.eff.e = if m.flt.halt = true then 0 else w.eff.e
  brake : t.eff.emergencyBrake = (m.flt.halt || w.eff.latch)
  snd : t.snd = w.snd
  noted : Noted [.rollback] w t

theorem staged_countClose {s : State} (run : s.ord.run = true) :
    Staged (closeBeforeEffort s) (firstStages (closeBeforeEffort s)) (countClose s) where
  watch := by rw [countClose_eff, effClose_watch ((closeBeforeEffort_run s).trans run)]
  e := by rw [countClose_eff, (effClose_brake ((closeBeforeEffort_run s).trans run)).1]
  brake := by rw [countClose_eff, (effClose_brake ((closeBeforeEffort_run s).trans run)).2]
  snd := by rw [countClose_snd, effClose_snd ((closeBeforeEffort_run s).trans run)]
  noted := by
    have noted := effClose_noted_hold ((closeBeforeEffort_run s).trans run)
    rw [Noted, ← countClose_flt] at noted
    exact noted

/-- The inputs seen and the clearing test, as the count close finds them and as the state after it shows them. -/
theorem mayClear_iff {s : State} {seen : CabEnd → Prop} {clears : Prop}
    (seen_iff : ∀ c, seen c ↔ (s.eff.inputs.get c).active = true ∨ (s.eff.inputs.get c).capture = true)
    (clears_iff : clears ↔ (countClose s).standstill = true ∧ (∀ c, ¬ seen c)
      ∧ ((countClose s).liveEnd = none ∨ (countClose s).eff.d = -1000)) :
    (∀ c, (closeBeforeEffort s).seenActive c = true ↔ seen c) ∧ ((closeBeforeEffort s).mayClear = true ↔ clears) := by
  have inputs : (closeBeforeEffort s).eff.inputs = s.eff.inputs := by rw [closeBeforeEffort_eff]
  have active : ∀ c, (closeBeforeEffort s).seenActive c = true ↔ seen c := fun c => by
    rw [seen_iff, State.seenActive, inputs, Bool.or_eq_true]
  refine ⟨active, ?_⟩
  have still := countClose_standstill s
  have live : (countClose s).liveEnd = (closeBeforeEffort s).liveEnd := by
    rw [State.liveEnd, countClose_aut_before, State.liveEnd]
  have d : (countClose s).eff.d = (closeBeforeEffort s).eff.d := by
    rw [countClose_eff]
    exact (fields_of_lever (effClose_lever _)).2.2.2
  have ends : (∀ c, ¬ seen c) ↔ (closeBeforeEffort s).seenActive .one = false ∧ (closeBeforeEffort s).seenActive .two = false := by
    simp only [← active, Bool.not_eq_true]
    exact ⟨fun h => ⟨h .one, h .two⟩, fun h c => by cases c; exacts [h.1, h.2]⟩
  rw [clears_iff, still, live, d, ends]
  simp [State.mayClear, State.emergencyMayClear, and_assoc]

theorem setEmergency_horn (seen1 seen2 : Bool) (s : State) :
    (setEmergency seen1 seen2 s).snd.horn = (requestOn .horn s.snd.night 6 s.snd.horn).1 := by
  cases seen1 <;> cases seen2 <;> rfl

theorem mem_seenEnds {seen1 seen2 : Bool} {c : CabEnd} :
    c ∈ seenEnds seen1 seen2 ↔ (c = .one ∧ seen1 = true) ∨ (c = .two ∧ seen2 = true) := by
  cases seen1 <;> cases seen2 <;> simp [seenEnds]

theorem seenEnds_sublist (seen1 seen2 : Bool) : (seenEnds seen1 seen2).Sublist [.one, .two] := by
  cases seen1 <;> cases seen2 <;> simp [seenEnds]

/-- The latch set by a count close (R67), with the records and the horn request. -/
theorem setEmergency_closes {s : State} (run : s.ord.run = true) (clear : s.eff.latch = false)
    (any : (closeBeforeEffort s).anySeen = true) :
    (countClose s).eff.latch = true ∧ (countClose s).eff.emergencyBrake = true
      ∧ (countClose s).eff.e = (if s.flt.halt = true then 0 else -1000)
      ∧ (countClose s).eff.settleCount = s.eff.settleCount
      ∧ (s.aut.keyLost = false → programAsked .horn s.snd.night 6 s.snd.horn (countClose s).snd.horn)
      ∧ ((countClose s).flt.queue.length < 16 → ∃ (a rs z : List FaultRecord),
          (countClose s).flt.queue = a ++ rs ++ z
            ∧ rs.map (fun r => (r.kind, r.cls, r.key))
              = (seenEnds ((closeBeforeEffort s).seenActive .one) ((closeBeforeEffort s).seenActive .two)).map
                  (fun c => (FaultKind.emergencyBrake, FaultClass.notice, FaultKey.cab c))
            ∧ (∀ r ∈ rs, r.p = (countClose s).pth.p ∧ r.tag = none) ∧ ∀ r ∈ z, r.kind = .rollback) := by
  have staged := staged_countClose run
  obtain ⟨latch, count, -, -, -⟩ := fields_of_watch staged.watch
  obtain ⟨mLatch, mCount, -, -, -⟩ := fields_of_watch (closeBeforeEffort_watch s)
  have halt : (closeBeforeEffort s).flt.halt = s.flt.halt := Flt.Noted.halt (closeBeforeEffort_noted s)
  have position := countClose_pth s
  have horn := fun held => closeBeforeEffort_besideBell (s := s) held
  obtain ⟨m, before⟩ : ∃ m, m = closeBeforeEffort s := ⟨_, rfl⟩
  obtain ⟨t, after⟩ : ∃ t, t = countClose s := ⟨_, rfl⟩
  rw [← before] at staged latch count mLatch mCount halt position any horn
  rw [← after] at staged latch count position
  rw [← before, ← after]
  obtain ⟨x, set, w⟩ := firstStages_set (mLatch.trans clear) any
  have e := staged.e
  have brake := staged.brake
  have snd := staged.snd
  have noted := staged.noted
  have xEff : x.eff = { (capped m).eff with latch := true } := by rw [set, setEmergency_eff]
  have wLatch : (firstStages m).eff.latch = true := by rw [w, xEff]
  refine ⟨latch.trans wLatch, by rw [brake, wLatch, Bool.or_true], ?_, ?_, fun held => ?_, fun room => ?_⟩
  · rw [e, w, halt]
    cases s.flt.halt <;> rfl
  · rw [count, w, xEff]
    exact mCount
  · obtain ⟨sameHorn, -, night⟩ : m.snd.horn = s.snd.horn ∧ m.snd.chime = s.snd.chime ∧ m.snd.night = s.snd.night := by
      simpa [Snd.besideBell] using horn held
    have asked : t.snd.horn = (requestOn .horn s.snd.night 6 s.snd.horn).1 := by
      rw [snd, w, ← sameHorn, ← night]
      dsimp only
      rw [set, setEmergency_horn]
      rfl
    rw [asked]
    exact requestOn_asked .horn s.snd.night 6 s.snd.horn
  · obtain ⟨z, queue, kinds⟩ := Flt.Noted.joined noted room
    have wFlt : (firstStages m).flt = x.flt := by rw [w]
    have xRoom : x.flt.queue.length < 16 := by
      rw [queue, List.length_append, wFlt] at room
      omega
    rw [set] at xRoom
    obtain ⟨rs, stored, records, at_⟩ := setEmergency_room xRoom
    refine ⟨_, rs, z, by rw [queue, wFlt, set, stored], records, ?_, fun r mem => List.mem_singleton.mp (kinds r mem)⟩
    rw [position]
    exact at_

section
variable {s m t : State} (staged : Staged m (firstStages m) t) (watch : m.eff.watch = s.eff.watch)
  (halt : m.flt.halt = s.flt.halt) (set : s.eff.latch = true)
include staged watch halt set

/-- A latch that stays (R68). -/
theorem Staged.held (stays : m.mayClear = false) :
    t.eff.latch = true ∧ t.eff.emergencyBrake = true ∧ t.eff.e = (if s.flt.halt = true then 0 else -1000)
      ∧ t.eff.settleCount = s.eff.settleCount ∧ (t.eff.overspeed = true → s.eff.overspeed = true) := by
  obtain ⟨latch, count, -, noted, -⟩ := fields_of_watch staged.watch
  obtain ⟨mLatch, mCount, -, mNoted, -⟩ := fields_of_watch watch
  have w := firstStages_held (mLatch.trans set) stays
  have wLatch : (firstStages m).eff.latch = true := by rw [w]; exact mLatch.trans set
  refine ⟨latch.trans wLatch, by rw [staged.brake, wLatch, Bool.or_true], ?_, ?_, fun fast => ?_⟩
  · rw [staged.e, w, halt]
    cases s.flt.halt <;> rfl
  · rw [count, w]
    exact mCount
  · rw [noted, w] at fast
    rw [← mNoted]
    exact (Bool.and_eq_true_iff.mp fast).1

/-- A latch cleared, with its settle offer before the other stages (R68). -/
theorem Staged.cleared (clears : m.mayClear = true) :
    t.eff.latch = false ∧ t.eff.emergencyBrake = s.flt.halt ∧ (s.flt.halt = true → t.eff.e = 0)
      ∧ t.eff.settleCount = (if s.flt.halt = true then max 25 s.eff.settleCount else max 25 s.eff.settleCount - 1)
      ∧ (s.eff.settleCount < 25 → t.eff.settleReason = .emergency) := by
  obtain ⟨latch, count, reason, -, -⟩ := fields_of_watch staged.watch
  obtain ⟨mLatch, mCount, -, -, -⟩ := fields_of_watch watch
  have w := firstStages_cleared (mLatch.trans set) clears
  have cleared := clearEmergency_eff (capped m)
  have before : (capped m).eff.settleCount = s.eff.settleCount := mCount
  rw [before] at cleared
  rw [latch, staged.brake, staged.e, count, reason, w, halt]
  cases s.flt.halt with
  | true =>
    rw [if_pos rfl, cleared]
    exact ⟨rfl, rfl, fun _ => rfl, rfl, fun few => if_pos few⟩
  | false =>
    rw [if_neg Bool.false_ne_true, limitEffort_eff, cleared]
    refine ⟨rfl, rfl, nofun, rfl, fun few => ?_⟩
    have larger : max 25 s.eff.settleCount ≠ 1 := by omega
    simp only [if_neg larger, if_pos few]

omit halt in
/-- With the latch set a count close notes no EMERGENCY_BRAKE and asks for no horn (R67, R68). -/
theorem Staged.quiet : t.snd = m.snd ∧ Noted [.overspeed, .rollback] m t := by
  obtain ⟨mLatch, -, -, -, -⟩ := fields_of_watch watch
  have first : (firstStages m).snd = m.snd ∧ Noted [.overspeed, .rollback] m (firstStages m) := by
    cases may : m.mayClear with
    | false =>
      rw [firstStages_held (mLatch.trans set) may]
      exact ⟨rfl, .of_flt rfl⟩
    | true =>
      rw [firstStages_cleared (mLatch.trans set) may]
      split
      · exact ⟨clearEmergency_snd _, .of_flt (clearEmergency_flt _)⟩
      · exact ⟨(limitEffort_snd ..).trans (clearEmergency_snd _),
          .from_flt (clearEmergency_flt (capped m)) ((limitEffort_noted ..).mono (by simp))⟩
  exact ⟨staged.snd.trans first.1, first.2.trans (staged.noted.mono (by simp))⟩

end

/-- Settles O46: an input's change; then the captures, the sand and the latch at a count close. -/
theorem emergencyInputsBrake : Obligations.EmergencyInputsBrake := by
  unfold Obligations.EmergencyInputsBrake
  refine ⟨fun c active s => ⟨_, rfl, ?_⟩, fun s => ⟨_, rfl, fun c => ?_, countClose_sand s, ?_⟩⟩
  · cases c <;> cases active <;> simp [emergencyChange, PerEnd.set, PerEnd.get, otherEnd]
  · rw [countClose_eff]
    have cleared := effClose_inputs (closeBeforeEffort s) c
    rwa [show (closeBeforeEffort s).eff.inputs = s.eff.inputs by rw [closeBeforeEffort_eff]] at cleared
  · intro seen clears seen_iff clears_iff run
    obtain ⟨active, may⟩ := mayClear_iff seen_iff clears_iff
    have staged := staged_countClose run
    have watch := closeBeforeEffort_watch s
    have halt : (closeBeforeEffort s).flt.halt = s.flt.halt := Flt.Noted.halt (closeBeforeEffort_noted s)
    refine ⟨fun clear any => ?_, fun set stays => ?_, fun set clears_ => ?_, fun set => ⟨fun held => ?_, fun room => ?_⟩⟩
    · have some_ : (closeBeforeEffort s).anySeen = true := by
        obtain ⟨c, sees⟩ := any
        rw [State.anySeen, Bool.or_eq_true]
        cases c with
        | one => exact .inl ((active .one).mpr sees)
        | two => exact .inr ((active .two).mpr sees)
      obtain ⟨latched, braked, effort, settle, horn, records⟩ := setEmergency_closes run clear some_
      refine ⟨latched, braked, effort, settle, horn, fun room => ?_⟩
      obtain ⟨a, rs, z, queue, kinds, at_, last⟩ := records room
      refine ⟨a, rs, z, _, queue, seenEnds_sublist _ _, fun c => ?_, kinds, at_, last⟩
      rw [mem_seenEnds]
      cases c <;> simp [active]
    · exact staged.held watch halt set (Bool.eq_false_iff.mpr fun may_ => stays (may.mp may_))
    · exact staged.cleared watch halt set (may.mpr clears_)
    · obtain ⟨horn, -, -⟩ : (closeBeforeEffort s).snd.horn = s.snd.horn ∧ (closeBeforeEffort s).snd.chime = s.snd.chime
          ∧ (closeBeforeEffort s).snd.night = s.snd.night := by
        simpa [Snd.besideBell] using closeBeforeEffort_besideBell held
      rw [(staged.quiet watch set).1, horn]
    · have first : Noted (closeKinds ++ [.overspeed, .rollback]) s (closeBeforeEffort s) :=
        (closeBeforeEffort_noted s).mono (by simp)
      have noted : Noted (closeKinds ++ [.overspeed, .rollback]) s (countClose s) :=
        first.trans ((staged.quiet watch set).2.mono (by simp))
      obtain ⟨rs, queue, kinds⟩ := Flt.Noted.joined noted room
      have others : rs.filter (fun r => r.kind == .emergencyBrake) = [] := List.filter_eq_nil_iff.mpr fun r mem emergency => by
        have kind := kinds r mem
        rw [beq_iff_eq.mp emergency] at kind
        simp [closeKinds, speedKinds, planKinds] at kind
      rw [queue, List.filter_append, others, List.append_nil]

end Sys2Proof.Machine
end

section
/-! PROOF. The effort of a count close in RUN (R70 to R82), with the cap in force (R74, R100). -/

namespace Sys2Proof.Machine

/-! ### The zone cap and the cap in force (R74, R100) -/

theorem zoneContribution_eq_some {s : State} {e : Entry} {j : Junction} {x : Int} :
    s.zoneContribution e j = some x ↔ j.state ≠ .passed
      ∧ min (e.distance - s.cfgNat .approachLen) (e.distance - s.cfgNat .standLen) ≤ s.pth.p
      ∧ s.pth.p ≤ min 16777215 (e.distance + s.cfgNat .tramLen)
      ∧ x = (if j.state = .locked then (j.limit : Int)
        else if j.state = .onSight ∨ s.pth.p < e.distance - s.cfgNat .standLen then s.cfg .crawl
        else 0) := by
  unfold State.zoneContribution
  by_cases passed : j.state = .passed
  · simp [passed]
  by_cases inside : min (s.approachStart e) (s.standStart e) ≤ s.pth.p ∧ s.pth.p ≤ s.clearance e
  · rw [if_neg passed, if_pos inside]
    refine Iff.trans ?_ ⟨fun value => ⟨passed, inside.1, inside.2, value⟩, fun h => h.2.2.2⟩
    have stand : s.standStart e = e.distance - s.cfgNat .standLen := rfl
    rw [stand]
    cases state : j.state <;> simp [eq_comm]
    all_goals split <;> simp
  · rw [if_neg passed, if_neg inside]
    exact ⟨nofun, fun h => absurd ⟨h.2.1, h.2.2.1⟩ inside⟩

theorem mem_zoneContributions {s : State} {x : Int} : x ∈ s.zoneContributions ↔ s.zoneValue x := by
  have point : ∀ e : Entry, (e.junction?.bind fun j => s.zoneContribution e j) = some x
      ↔ ∃ j, e.point = .junction j ∧ s.zoneContribution e j = some x := fun e => by
    unfold Entry.junction?
    cases e.point <;> simp
  simp only [State.zoneContributions, List.mem_filterMap, point, zoneContribution_eq_some, State.zoneValue]
  constructor
  · rintro ⟨⟨i, e⟩, mem, j, at_, value⟩
    exact ⟨i, e, j, mem, at_, value⟩
  · rintro ⟨i, e, j, mem, at_, value⟩
    exact ⟨⟨i, e⟩, mem, j, at_, value⟩

theorem minOver_le : ∀ (l : List Int) (m x : Int), x = m ∨ x ∈ l → minOver m l ≤ x
  | [], m, x, h => by
    obtain rfl : x = m := by simpa using h
    exact le_refl x
  | y :: rest, m, x, h => by
    rw [minOver]
    rcases h with rfl | h
    · exact (minOver_le rest _ _ (.inl rfl)).trans (min_le_left x y)
    · rcases List.mem_cons.mp h with rfl | h
      · exact (minOver_le rest _ _ (.inl rfl)).trans (min_le_right m x)
      · exact minOver_le rest _ _ (.inr h)

theorem minOver_mem : ∀ (l : List Int) (m : Int), minOver m l = m ∨ minOver m l ∈ l
  | [], _ => .inl rfl
  | y :: rest, m => by
    rw [minOver]
    rcases minOver_mem rest (min m y) with same | mem
    · rw [same]
      rcases min_choice m y with left | right
      · exact .inl left
      · exact .inr (by rw [right]; exact List.mem_cons_self ..)
    · exact .inr (List.mem_cons_of_mem _ mem)

theorem isZoneCap_zoneCap (s : State) : s.isZoneCap s.zoneCap := by
  unfold State.isZoneCap State.zoneCap
  simp only [← mem_zoneContributions]
  cases s.zoneContributions with
  | nil => exact ⟨fun x mem => absurd mem List.not_mem_nil, .inr ⟨fun x mem => absurd mem List.not_mem_nil, rfl⟩⟩
  | cons x rest =>
    exact ⟨fun y mem => minOver_le rest x y (List.mem_cons.mp mem), .inl (List.mem_cons.mpr (minOver_mem rest x))⟩

/-- The cap in force as R74 forms it. -/
theorem formedCap_eq (s : State) : s.formedCap
    = min (min (s.cfg .lineSpeed) (if s.eff.selector = .reverse then s.cfg .crawl else s.zoneCap))
        (if s.axl.record.unknown = true ∨ s.liveBank = none ∨ s.pth.planEnd = true then s.cfg .crawl
          else s.cfg .lineSpeed) := by
  have crawl : s.planCrawl = true ↔ s.liveBank = none ∨ s.pth.planEnd = true := by
    simp [State.planCrawl, Option.isNone_iff_eq_none]
  simp only [State.formedCap, State.capValues, ← crawl]
  cases s.eff.selector <;> cases s.axl.record.unknown <;> cases s.planCrawl <;> simp [minOver]

/-! ### What the first stages leave -/

/-- The hold record, the run counter and the cap, which the first stages leave (R63). -/
def Eff.rest (x : Eff) : Bool × Bool × Nat × Int × CabEnd := (x.held, x.rollback, x.runCounter, x.cap, x.sense)

theorem fields_of_rest {x y : Eff} (h : x.rest = y.rest) : x.held = y.held ∧ x.rollback = y.rollback
    ∧ x.runCounter = y.runCounter ∧ x.cap = y.cap ∧ x.sense = y.sense := by
  simpa [Eff.rest] using h

theorem firstStages_rest (s : State) : (firstStages s).eff.rest = (capped s).eff.rest := by
  have set : ∀ seen1 seen2 x, (setEmergency seen1 seen2 x).eff.rest = x.eff.rest := fun seen1 seen2 x => by
    rw [setEmergency_eff]
    rfl
  have limit : ∀ e x, (limitEffort e x).eff.rest = x.eff.rest := fun e x => by
    rw [limitEffort_eff]
    rfl
  have clear : ∀ x, (clearEmergency x).eff.rest = x.eff.rest := fun x => by
    rw [clearEmergency_eff]
    rfl
  unfold firstStages haltEmergency runEffort
  repeat' split
  · exact clear _
  · rfl
  · exact set ..
  · rfl
  · exact (limit ..).trans (clear _)
  · rfl
  · exact set ..
  · exact limit ..

theorem firstStages_lever (s : State) : (firstStages s).eff.lever = s.eff.lever := by
  unfold firstStages
  split
  · exact haltEmergency_lever ..
  · exact runEffort_lever ..

/-- The overspeed-noted flag stands only above the cap (R75). -/
theorem firstStages_overspeed {s : State} (noted : (firstStages s).eff.overspeed = true) : (capped s).eff.cap < s.vSel := by
  have before : (capped s).eff.overspeed = true → (capped s).eff.cap < s.vSel := fun flag =>
    of_decide_eq_true (Bool.and_eq_true_iff.mp flag).2
  have limit : ∀ (e : Int) (x : State), x.eff.cap = (capped s).eff.cap → x.vSel = s.vSel →
      (x.eff.overspeed = true → (capped s).eff.cap < s.vSel) → (limitEffort e x).eff.overspeed = true →
      (capped s).eff.cap < s.vSel := fun e x cap speed flag noted => by
    rw [limitEffort_eff] at noted
    rcases Bool.or_eq_true_iff.mp noted with flagged | fast
    · exact flag flagged
    · have fast := of_decide_eq_true fast
      rw [cap, speed] at fast
      omega
  unfold firstStages haltEmergency runEffort at noted
  repeat' split at noted
  · rw [clearEmergency_eff] at noted
    exact before noted
  · exact before noted
  · rw [setEmergency_eff] at noted
    exact before noted
  · exact before noted
  · refine limit _ _ ?_ ?_ (fun flag => before ?_) noted
    · rw [clearEmergency_eff]
    · simp only [State.vSel, clearEmergency_eff, clearEmergency_axl]
      rfl
    · rw [clearEmergency_eff] at flag
      exact flag
  · exact before noted
  · have same : (setEmergency (s.seenActive .one) (s.seenActive .two) (capped s)).eff.overspeed
        = (capped s).eff.overspeed := by rw [setEmergency_eff]
    exact before (same.symm.trans noted)
  · exact limit _ _ rfl rfl before noted

theorem reviseHold_cap (s : State) :
    (reviseHold s).eff.cap = s.eff.cap ∧ (reviseHold s).eff.sense = s.eff.sense := by
  rcases reviseHold_cases s with ⟨-, -, e⟩ | ⟨-, -, e⟩ | ⟨-, -, e⟩ | ⟨-, -, e⟩ <;> rw [e] <;> exact ⟨rfl, rfl⟩

/-- The cap, the travel sense and the overspeed-noted flag after EFF's computation, in every mode (R74, R75, R80). -/
theorem effClose_cap (s : State) : (effClose s).eff.cap = s.formedCap ∧ (effClose s).eff.sense = s.travelSense
    ∧ ((effClose s).eff.overspeed = true → s.formedCap < s.vSel) := by
  have formed : (capped s).eff.cap = s.formedCap ∧ (capped s).eff.sense = s.travelSense := ⟨rfl, rfl⟩
  cases run : s.ord.run with
  | false =>
    rw [effClose_unconfigured run]
    exact ⟨formed.1, formed.2, fun flag => of_decide_eq_true (Bool.and_eq_true_iff.mp flag).2⟩
  | true =>
    have fast : (effClose s).eff.overspeed = true → s.formedCap < s.vSel := fun flag =>
      firstStages_overspeed ((fields_of_watch (effClose_watch run)).2.2.2.1.symm.trans flag)
    have kept : (effClose s).eff.cap = (firstStages s).eff.cap ∧ (effClose s).eff.sense = (firstStages s).eff.sense := by
      cases halt : s.flt.halt with
      | true => rw [effClose_halt run halt]; exact ⟨rfl, rfl⟩
      | false =>
        rw [effClose_service run halt]
        exact reviseHold_cap (countStandstill (codesFormed (firstStages s)))
    obtain ⟨-, -, -, cap, sense⟩ := fields_of_rest (firstStages_rest s)
    exact ⟨kept.1.trans cap, kept.2.trans sense, fast⟩

/-! ### What a count close in RUN leaves, out of what EFF's computation finds -/

theorem formedCap_of_same {s t : State} (pth : t.pth = s.pth) (config : t.ord.config = s.ord.config)
    (record : t.axl.record = s.axl.record) (selector : t.eff.selector = s.eff.selector) : t.formedCap = s.formedCap := by
  have same : ({ s with
      pth := t.pth, ord.config := t.ord.config, axl.record := t.axl.record, eff.selector := t.eff.selector } : State) = s := by
    rw [pth, config, record, selector]
  have formed := congrArg State.formedCap same
  exact formed

/-- What EFF's computation finds (`m`) and what it leaves (`t`), as far as its stages read it. -/
structure Beside (m t : State) : Prop where
  aut : t.aut = m.aut
  pth : t.pth = m.pth
  stp : t.stp = m.stp
  config : t.ord.config = m.ord.config
  record : t.axl.record = m.axl.record
  bogies : ∀ b, t.axl.bogie b = m.axl.bogie b
  lever : t.eff.lever = m.eff.lever
  latch : t.flt.latch = m.flt.latch

theorem bogie_sand (x : Axl) (wet : Bool) (b : Bogie) : ({ x with sand := wet } : Axl).bogie b = x.bogie b := by
  cases b <;> rfl

theorem latch_of_noted {kinds : List FaultKind} {s t : State} (noted : Noted kinds s t) : t.flt.latch = s.flt.latch :=
  Flt.Noted.latch noted

theorem beside_countClose (s : State) : Beside (closeBeforeEffort s) (countClose s) where
  aut := countClose_aut_before s
  pth := countClose_pth s
  stp := countClose_stp s
  config := by
    obtain ⟨after, -⟩ := countClose_sameConfig s
    obtain ⟨before, -⟩ := closeBeforeEffort_sameConfig s
    rw [after, before]
  record := by rw [countClose_axl_before]
  bogies b := by
    rw [countClose_axl_before, bogie_sand]
  lever := by rw [countClose_eff, effClose_lever]
  latch := by
    rw [countClose_flt]
    exact latch_of_noted (effClose_noted (closeBeforeEffort s))

theorem Beside.selector {m t : State} (beside : Beside m t) : t.eff.selector = m.eff.selector :=
  (fields_of_lever beside.lever).2.1

theorem Beside.vSel {m t : State} (beside : Beside m t) : t.vSel = m.vSel := by
  simp only [State.vSel, beside.selector, beside.record]

theorem Beside.liveEnd {m t : State} (beside : Beside m t) : t.liveEnd = m.liveEnd := by
  simp only [State.liveEnd, beside.aut]

theorem Beside.cfg {m t : State} (beside : Beside m t) (q : Param) : t.cfg q = m.cfg q := by
  simp only [State.cfg, beside.config]

theorem Beside.formedCap {m t : State} (beside : Beside m t) : t.formedCap = m.formedCap :=
  formedCap_of_same beside.pth beside.config beside.record beside.selector

theorem travelSense_eq (s : State) :
    s.travelSense = if s.eff.selector = .reverse then otherEnd s.directionEnd else s.directionEnd := by
  unfold State.travelSense
  cases s.eff.selector <;> rfl

/-- The cap in force, the travel sense and the overspeed-noted flag after every count close (R74, R75, R80). -/
theorem countClose_cap (s : State) : (countClose s).eff.cap = (countClose s).formedCap
    ∧ (countClose s).eff.sense = (countClose s).travelSense
    ∧ ((countClose s).eff.overspeed = true → (countClose s).eff.cap < (countClose s).vSel) := by
  have beside := beside_countClose s
  obtain ⟨cap, sense, fast⟩ := effClose_cap (closeBeforeEffort s)
  rw [← countClose_eff] at cap sense fast
  refine ⟨cap.trans beside.formedCap.symm, ?_, fun flag => ?_⟩
  · have direction : (countClose s).directionEnd = (closeBeforeEffort s).directionEnd := by
      simp only [State.directionEnd, beside.aut]
    rw [sense, travelSense_eq, travelSense_eq, beside.selector, direction]
  · rw [cap, beside.vSel]
    exact fast flag

end Sys2Proof.Machine
end

section
/-! PROOF. The stages of a count close in service (R70 to R82). -/

namespace Sys2Proof.Machine

/-! ### The code words (R78, R79) -/

theorem roundDiv_thousand (n : Int) : roundDiv n 1000 = n.sign * (((n.natAbs + 500) / 1000 : Nat) : Int) := by
  have halves : (2 * n.natAbs + 1000) / (2 * 1000) = (n.natAbs + 500) / 1000 := by omega
  unfold roundDiv
  rw [halves]
  rcases Int.lt_trichotomy n 0 with neg | rfl | pos
  · simp [neg, Int.sign_eq_neg_one_of_neg neg]
  · rfl
  · simp [Int.not_lt.mpr (Int.le_of_lt pos), Int.sign_eq_one_of_pos pos]

theorem bogieCode_eq {trim e x : Int} {y : BogieState} (share : x = Int.tdiv (e * y.adhesion) 1000 * 2047) :
    (bogieCode trim e y : Int) = if y.cut = true then 0
      else max 1 (min 4095 (2048 + trim + x.sign * (((x.natAbs + 500) / 1000 : Nat) : Int))) := by
  unfold bogieCode
  split
  · rfl
  · have low : 0 ≤ max 1 (min 4095 (2048 + trim + x.sign * (((x.natAbs + 500) / 1000 : Nat) : Int))) :=
      Int.le_trans (by decide) (le_max_left 1 _)
    have share : bogieShare e y.adhesion * 2047 = x := share.symm
    rw [codeWord, share, roundDiv_thousand, clampInt, Int.toNat_of_nonneg low]

/-! ### The computation's end -/

/-- The state in which the hold state is revised (R82). -/
def beforeHold (m : State) : State := countStandstill (codesFormed (firstStages m))

/-- Stages 9 and 10 and the run counter set no more than the code words, the emergency brake and the counter. -/
theorem countStandstill_codesFormed (y : State) :
    (countStandstill (codesFormed y)).axl = y.axl ∧ (countStandstill (codesFormed y)).pth = y.pth
      ∧ (countStandstill (codesFormed y)).flt = y.flt
      ∧ (countStandstill (codesFormed y)).eff.lever = y.eff.lever
      ∧ (countStandstill (codesFormed y)).eff.held = y.eff.held
      ∧ (countStandstill (codesFormed y)).eff.rollback = y.eff.rollback := ⟨rfl, rfl, rfl, rfl, rfl, rfl⟩

/-- What a count close in service leaves (`t`), out of what EFF's computation finds (`m`). -/
structure InService (m t : State) : Prop where
  beside : Beside m t
  eff : t.eff = (reviseHold (beforeHold m)).eff
  flt : t.flt = (reviseHold (beforeHold m)).flt

theorem inService_countClose {s : State} (run : s.ord.run = true) (halt : s.flt.halt = false) :
    InService (closeBeforeEffort s) (countClose s) := by
  have closed := effClose_service ((closeBeforeEffort_run s).trans run)
    ((Flt.Noted.halt (closeBeforeEffort_noted s)).trans halt)
  refine ⟨beside_countClose s, ?_, ?_⟩
  · rw [countClose_eff, closed]
    rfl
  · rw [countClose_flt, closed]
    rfl

theorem firstStages_axl (m : State) : (firstStages m).axl = m.axl := by
  unfold firstStages haltEmergency
  repeat' split
  all_goals simp [capped]

theorem firstStages_pth (m : State) : (firstStages m).pth = m.pth := by
  unfold firstStages haltEmergency
  repeat' split
  all_goals simp [capped]

theorem firstStages_ord (m : State) : (firstStages m).ord = m.ord := by
  unfold firstStages haltEmergency
  repeat' split
  all_goals simp [capped]

section
variable {m t : State} (served : InService m t)
include served

theorem InService.e : t.eff.e = (firstStages m).eff.e := by
  rw [served.eff]
  exact (reviseHold_drive (beforeHold m)).1

/-- Stages 9 and 10 (R78, R79). -/
theorem InService.codes : t.eff.c1 = bogieCode (t.cfg .trim) t.eff.e (t.axl.bogie .b1)
    ∧ t.eff.c2 = bogieCode (t.cfg .trim) t.eff.e (t.axl.bogie .b2) := by
  obtain ⟨-, c1, c2, -⟩ := reviseHold_drive (beforeHold m)
  have bogie1 : (firstStages m).axl.bogie1 = t.axl.bogie1 := by
    rw [firstStages_axl]
    exact (served.beside.bogies .b1).symm
  have bogie2 : (firstStages m).axl.bogie2 = t.axl.bogie2 := by
    rw [firstStages_axl]
    exact (served.beside.bogies .b2).symm
  have trim : (firstStages m).cfg .trim = t.cfg .trim := by
    rw [served.beside.cfg, State.cfg, firstStages_ord, State.cfg]
  have first : t.eff.c1 = bogieCode (t.cfg .trim) t.eff.e t.axl.bogie1 := by
    rw [served.e, ← trim, ← bogie1]
    rw [served.eff]
    exact c1
  have second : t.eff.c2 = bogieCode (t.cfg .trim) t.eff.e t.axl.bogie2 := by
    rw [served.e, ← trim, ← bogie2]
    rw [served.eff]
    exact c2
  exact ⟨first, second⟩

theorem InService.standstill : (beforeHold m).standstill = t.standstill := by
  obtain ⟨axl, -⟩ := countStandstill_codesFormed (firstStages m)
  have record : (beforeHold m).axl = m.axl := axl.trans (firstStages_axl m)
  rw [State.standstill, record, State.standstill, served.beside.record]

/-- The run counter (R81). -/
theorem InService.runCounter : t.eff.runCounter
    = if t.standstill = true ∧ t.eff.e ≤ 0 then min 10 (m.eff.runCounter + 1) else 0 := by
  obtain ⟨-, -, -, -, counter⟩ := reviseHold_drive (beforeHold m)
  obtain ⟨-, -, before, -, -⟩ := fields_of_rest (firstStages_rest m)
  have value := runCounter_countStandstill (codesFormed (firstStages m))
  have still : (codesFormed (firstStages m)).standstill = t.standstill := served.standstill
  have e : (codesFormed (firstStages m)).eff.e = t.eff.e := served.e.symm
  have held : (codesFormed (firstStages m)).eff.runCounter = m.eff.runCounter := before
  rw [still, e, held] at value
  exact (congrArg Eff.runCounter served.eff).trans (counter.trans value)

/-- The hold state (R82). -/
theorem InService.hold :
    (m.eff.held = false → t.vSel < -150 → 0 ≤ t.eff.d →
        t.eff.held = true ∧ t.eff.rollback = true ∧ ∃ r, t.flt.queue.getLast? = some r ∧ r.kind = .rollback
          ∧ r.cls = .notice ∧ r.key = .none ∧ r.p = t.pth.p ∧ r.tag = none)
      ∧ (m.eff.held = false → ¬ (t.vSel < -150 ∧ 0 ≤ t.eff.d) →
        (t.eff.held = true ↔ t.eff.runCounter = 10) ∧ t.eff.rollback = m.eff.rollback)
      ∧ (m.eff.held = true → ∀ lifts : Prop,
        (lifts ↔ 150 ≤ t.eff.e ∧ t.eff.selector ≠ .neutral ∧ (m.eff.rollback = false ∨ t.standstill = true)) →
        (lifts → t.eff.held = false ∧ t.eff.rollback = false)
          ∧ (¬ lifts → t.eff.held = true ∧ t.eff.rollback = m.eff.rollback))
      ∧ (¬ (t.vSel < -150 ∧ 0 ≤ t.eff.d) → t.flt = (firstStages m).flt) := by
  obtain ⟨axl, path, flt, levers, holds, rolled⟩ := countStandstill_codesFormed (firstStages m)
  obtain ⟨first, firstRoll, -, -, -⟩ := fields_of_rest (firstStages_rest m)
  have held : (beforeHold m).eff.held = m.eff.held := holds.trans first
  have rollback : (beforeHold m).eff.rollback = m.eff.rollback := rolled.trans firstRoll
  have lever : (beforeHold m).eff.lever = t.eff.lever :=
    levers.trans ((firstStages_lever m).trans served.beside.lever.symm)
  have pth : (beforeHold m).pth = t.pth := path.trans ((firstStages_pth m).trans served.beside.pth.symm)
  have record : (beforeHold m).axl.record = t.axl.record :=
    (congrArg Axl.record (axl.trans (firstStages_axl m)) :).trans served.beside.record.symm
  have still := served.standstill
  have flt : (beforeHold m).flt = (firstStages m).flt := flt
  have tEff := served.eff
  have tFlt := served.flt
  obtain ⟨z, before⟩ : ∃ z, z = beforeHold m := ⟨_, rfl⟩
  rw [← before] at held rollback lever pth record still flt tEff tFlt
  obtain ⟨-, sel, -, d⟩ := fields_of_lever lever
  have speed : z.vSel = t.vSel := by simp only [State.vSel, sel, record]
  obtain ⟨e, -, -, -, counter⟩ := reviseHold_drive z
  rw [← tEff] at e counter
  rcases reviseHold_cases z with ⟨was, lift, same⟩ | ⟨was, keep, same⟩ | ⟨was, rolls, same⟩ | ⟨was, stands, same⟩
  · have set : m.eff.held = true := held.symm.trans was
    refine ⟨fun off => absurd (off.symm.trans set) Bool.false_ne_true, fun off => absurd (off.symm.trans set) Bool.false_ne_true,
      fun _ lifts lifts_iff => ⟨fun _ => ?_, fun not => absurd (lifts_iff.mpr ?_) not⟩, fun _ => by rw [tFlt, same]; exact flt⟩
    · rw [tEff, same]
      exact ⟨rfl, rfl⟩
    · rw [e, ← sel, ← rollback, ← still]
      exact lift
  · have set : m.eff.held = true := held.symm.trans was
    refine ⟨fun off => absurd (off.symm.trans set) Bool.false_ne_true, fun off => absurd (off.symm.trans set) Bool.false_ne_true,
      fun _ lifts lifts_iff => ⟨fun lift => absurd (lifts_iff.mp lift) ?_, fun _ => ?_⟩, fun _ => by rw [tFlt, same]; exact flt⟩
    · rw [e, ← sel, ← rollback, ← still]
      exact keep
    · rw [tEff, same]
      exact ⟨was, rollback⟩
  · have off : m.eff.held = false := held.symm.trans was
    have rolling : t.vSel < -150 ∧ 0 ≤ t.eff.d := by
      rw [← speed, ← d]
      exact rolls
    refine ⟨fun _ _ _ => ?_, fun _ not => absurd rolling not, fun set => absurd (off.symm.trans set) Bool.false_ne_true,
      fun not => absurd rolling not⟩
    · rw [tEff, tFlt, same]
      refine ⟨rfl, rfl, _, List.getLast?_concat .., rfl, rfl, rfl, ?_, rfl⟩
      rw [← pth]
      rfl
  · have off : m.eff.held = false := held.symm.trans was
    refine ⟨fun _ low up => absurd (by rw [speed, d]; exact ⟨low, up⟩) stands, fun _ _ => ⟨?_, ?_⟩,
      fun set => absurd (off.symm.trans set) Bool.false_ne_true, fun _ => by rw [tFlt, same]; exact flt⟩
    · rw [counter, tEff, same]
      exact decide_eq_true_iff
    · rw [tEff, same]
      exact rollback

omit served in
/-- Far above the cap OVERSPEED is noted, unless it stands noted (R75). -/
theorem limitEffort_notes {y : State} (held : Int) (fast : y.eff.cap + 1400 < y.vSel) (clear : y.eff.overspeed = false) :
    ∃ r, (limitEffort held y).flt.queue.getLast? = some r
      ∧ r.kind = .overspeed ∧ r.cls = .notice ∧ r.key = .none ∧ r.p = y.pth.p ∧ r.tag = none := by
  obtain ⟨c, counted⟩ : ∃ c, c = countSettle y := ⟨_, rfl⟩
  have same : c.eff.cap = y.eff.cap ∧ c.eff.overspeed = y.eff.overspeed ∧ c.vSel = y.vSel ∧ c.pth = y.pth := by
    rw [counted]
    unfold countSettle
    split <;> exact ⟨rfl, rfl, rfl, rfl⟩
  obtain ⟨cap, flag, speed, pth⟩ := same
  have noted : (limitEffort held y).flt = (raiseNotice .overspeed .none { c with eff.overspeed := true }).flt := by
    have above : c.eff.cap + 1400 < c.vSel ∧ c.eff.overspeed = false := by
      rw [cap, flag, speed]
      exact ⟨fast, clear⟩
    have note : noteOverspeed c = raiseNotice .overspeed .none { c with eff.overspeed := true } := if_pos above
    rw [limitEffort, ← counted]
    exact (congrArg State.flt note :)
  rw [noted, ← pth]
  exact ⟨_, List.getLast?_concat .., rfl, rfl, rfl, rfl, rfl⟩

/-- The stages limit E from `held`, the emergency latch being clear and the settle count `count` (R63, R68). -/
structure LimitsFrom (m : State) (held : Int) (count : Nat) (y : State) : Prop where
  staged : firstStages m = limitEffort held y
  keeps : y = { capped m with eff := y.eff }
  latch : y.eff.latch = false
  count : y.eff.settleCount = count
  flag : y.eff.overspeed = (capped m).eff.overspeed
  cap : y.eff.cap = (capped m).eff.cap
  lever : y.eff.lever = m.eff.lever

omit served in
theorem limitsFrom_of {held : Int} {count : Nat} (unseen : m.anySeen = false)
    (start : (m.eff.latch = false ∧ held = m.eff.e ∧ count = m.eff.settleCount)
      ∨ (m.eff.latch = true ∧ m.mayClear = true ∧ m.flt.halt = false ∧ held = -1000 ∧ count = max 25 m.eff.settleCount))
    (halt : m.flt.halt = false) : ∃ y, LimitsFrom m held count y := by
  rcases start with ⟨clear, rfl, rfl⟩ | ⟨set, may, -, rfl, rfl⟩
  · refine ⟨capped m, ?_, rfl, clear, rfl, rfl, rfl, rfl⟩
    have unset : (capped m).eff.latch = false := clear
    have none_ : (m.seenActive .one || m.seenActive .two) = false := unseen
    rw [firstStages, halt, if_neg Bool.false_ne_true, runEffort, unset, none_]
    rfl
  · have cleared := clearEmergency_eff (capped m)
    refine ⟨clearEmergency (capped m), (firstStages_cleared set may).trans (by rw [halt]; rfl), ?_, ?_, ?_, ?_, ?_, ?_⟩
    · rw [clearEmergency, offerSettle_changes]
    all_goals rw [cleared]
    all_goals rfl

/-- The computation's limits as R70 to R76 state them. -/
theorem InService.limited {held : Int} {count : Nat} {y : State} (from_ : LimitsFrom m held count y) :
    t.eff.latch = false ∧ t.eff.emergencyBrake = false ∧ t.eff.settleCount = count - 1
      ∧ (t.eff.overspeed = true ↔ t.eff.cap + 1400 < t.vSel ∨ (m.eff.overspeed = true ∧ t.eff.cap < t.vSel))
      ∧ (t.eff.cap + 1400 < t.vSel → m.eff.overspeed = false → ∃ r, (firstStages m).flt.queue.getLast? = some r
          ∧ r.kind = .overspeed ∧ r.cls = .notice ∧ r.key = .none ∧ r.p = t.pth.p ∧ r.tag = none)
      ∧ t.eff.e = jerkLimit (t.cfg .jerkUp) (t.cfg .jerkDown) held (capLimit t.vSel t.eff.cap
          (settleLimit count (dwellLimit t.stp.dwell
            (if t.flt.latch = true then -1000 else if t.liveEnd = none then -200 else t.eff.d)))) := by
  have w := limitEffort_eff held y
  rw [← from_.staged] at w
  have watch : t.eff.watch = (firstStages m).eff.watch := by
    rw [served.eff]
    exact reviseHold_watch (beforeHold m)
  obtain ⟨latch, settle, -, flag, -⟩ := fields_of_watch watch
  obtain ⟨-, -, -, brake, -⟩ := reviseHold_drive (beforeHold m)
  have braked : t.eff.emergencyBrake = (firstStages m).eff.latch := (congrArg Eff.emergencyBrake served.eff).trans brake
  have capM : t.eff.cap = (capped m).eff.cap := by
    obtain ⟨-, -, -, cap, -⟩ := fields_of_rest (firstStages_rest m)
    exact ((congrArg Eff.cap served.eff).trans (reviseHold_cap (beforeHold m)).1).trans cap
  have capY : y.eff.cap = t.eff.cap := from_.cap.trans capM.symm
  obtain ⟨-, sel, -, d⟩ := fields_of_lever (from_.lever.trans served.beside.lever.symm)
  have record : y.axl.record = t.axl.record := by
    rw [from_.keeps]
    exact served.beside.record.symm
  have speed : y.vSel = t.vSel := by simp only [State.vSel, sel, record]
  have config : y.ord.config = t.ord.config := by
    rw [from_.keeps]
    exact served.beside.config.symm
  have cfg : ∀ q, y.cfg q = t.cfg q := fun q => by simp only [State.cfg, config]
  have live : y.liveEnd = t.liveEnd := by
    have aut : y.aut = t.aut := by
      rw [from_.keeps]
      exact served.beside.aut.symm
    simp only [State.liveEnd, aut]
  have dwell : y.stp.dwell = t.stp.dwell := by
    rw [from_.keeps]
    exact congrArg Stp.dwell served.beside.stp.symm
  have brakes : y.flt.latch = t.flt.latch := by
    rw [from_.keeps]
    exact served.beside.latch.symm
  have flagY : y.eff.overspeed = true ↔ m.eff.overspeed = true ∧ t.eff.cap < t.vSel := by
    have mSpeed : m.vSel = t.vSel := served.beside.vSel.symm
    have formed : (capped m).eff.overspeed = (m.eff.overspeed && decide ((capped m).eff.cap < m.vSel)) := rfl
    rw [from_.flag, formed, ← capM, mSpeed, Bool.and_eq_true, decide_eq_true_eq]
  refine ⟨by rw [latch, w]; exact from_.latch, by rw [braked, w]; exact from_.latch, ?_, ?_, fun fast unflagged => ?_, ?_⟩
  · rw [settle, w, from_.count]
  · rw [flag, w, Bool.or_eq_true, decide_eq_true_eq, capY, speed, flagY, or_comm]
  · have clear : y.eff.overspeed = false := Bool.eq_false_iff.mpr fun set =>
      absurd ((flagY.mp set).1.symm.trans unflagged) Bool.false_ne_true.symm
    have pth : y.pth = t.pth := by
      rw [from_.keeps]
      exact served.beside.pth.symm
    rw [from_.staged, ← pth]
    exact limitEffort_notes held (by rw [capY, speed]; exact fast) clear
  · have target : y.requestTarget = if t.flt.latch = true then -1000 else if t.liveEnd = none then -200 else t.eff.d := by
      rw [State.requestTarget, brakes, live, d]
      simp only [Option.isNone_iff_eq_none]
    rw [served.e, w]
    simp only [State.effortTarget, target, cfg, speed, capY, from_.count, dwell]

end

/-- Settles O47: the cap in force; then the stages, the code words and the hold state in service. -/
theorem effortFollowsTheStages : Obligations.EffortFollowsTheStages := by
  unfold Obligations.EffortFollowsTheStages
  refine ⟨fun s => ?_, fun s run halt => ?_⟩
  · obtain ⟨cap, sense, fast⟩ := countClose_cap s
    refine ⟨_, (countClose s).zoneCap, rfl, isZoneCap_zoneCap _, cap.trans (formedCap_eq _), sense.trans (travelSense_eq _),
      fun low => Bool.eq_false_iff.mpr fun flag => absurd (fast flag) (Int.not_lt.mpr low)⟩
  · have served := inService_countClose run halt
    have watch := closeBeforeEffort_watch s
    have mEff := closeBeforeEffort_eff s
    have haltM : (closeBeforeEffort s).flt.halt = false := (Flt.Noted.halt (closeBeforeEffort_noted s)).trans halt
    obtain ⟨m, before⟩ : ∃ m, m = closeBeforeEffort s := ⟨_, rfl⟩
    obtain ⟨t, after⟩ : ∃ t, t = countClose s := ⟨_, rfl⟩
    have taken : exec .countClose s = .next t := by rw [after]; rfl
    rw [← before] at served watch mEff haltM
    rw [← after] at served
    obtain ⟨latch, count, -, flag, inputs⟩ := fields_of_watch watch
    have held : m.eff.held = s.eff.held ∧ m.eff.rollback = s.eff.rollback ∧ m.eff.runCounter = s.eff.runCounter
        ∧ m.eff.e = s.eff.e := by
      rw [mEff]
      exact ⟨rfl, rfl, rfl, rfl⟩
    obtain ⟨mHeld, mRollback, mCounter, mE⟩ := held
    obtain ⟨rolls, stands, lifted, noRoll⟩ := served.hold
    rw [mHeld, mRollback] at stands lifted
    rw [mHeld] at rolls
    refine ⟨t, taken, fun e n quiet start => ?_, fun b code x is share => ?_, ?_, rolls, stands, lifted⟩
    · have unseen : m.anySeen = false := by
        simp only [State.anySeen, State.seenActive, inputs, quiet, Bool.or_self]
      have may : t.standstill = true → (t.liveEnd = none ∨ t.eff.d = -1000) → m.mayClear = true := fun still free => by
        have stillM : m.standstill = true := by
          rw [← still, State.standstill, State.standstill, served.beside.record]
        have d := (fields_of_lever served.beside.lever).2.2.2
        rw [served.beside.liveEnd, d] at free
        have none_ : m.seenActive .one = false ∧ m.seenActive .two = false := Bool.or_eq_false_iff.mp unseen
        simpa [State.mayClear, State.emergencyMayClear, stillM, none_] using free
      obtain ⟨y, from_⟩ := limitsFrom_of (held := e) (count := n) unseen (by
        rw [latch, mE, count]
        exact start.imp_right fun h => ⟨h.1, may h.2.1 h.2.2.1, haltM, h.2.2.2⟩) haltM
      obtain ⟨clear, braked, settle, fast, notes, effort⟩ := served.limited from_
      rw [flag] at fast notes
      refine ⟨clear, braked, settle, fast, fun above positive unflagged => ?_, ?_⟩
      · rw [noRoll fun rolling => by omega]
        exact notes above unflagged
      · rintro t1 t2 t3 target rfl rfl rfl rfl
        exact effort
    · have coded : code = bogieCode (t.cfg .trim) t.eff.e (t.axl.bogie b) := by
        rw [is]
        cases b
        · exact served.codes.1
        · exact served.codes.2
      rw [coded]
      exact bogieCode_eq share
    · rw [served.runCounter, mCounter]

end Sys2Proof.Machine
end

section
/-! PROOF. Slip and adhesion at a count close (R53 to R55). -/

namespace Sys2Proof.Machine

/-- AXL gives each bogie its slip result, out of the axles and the record that it sets (R53 to R55). -/
theorem axlClose_bogie (s : State) (b : Bogie) : (axlClose s).axl.bogie b
    = reviseAdhesion (slipResult s.eff.e (axlClose s).axl.record s.axl.record.v (axlClose s).axl.axles b) (s.axl.bogie b) := by
  unfold axlClose
  dsimp only
  cases b <;> split <;> simp [Axl.bogie]

/-- A bogie at a count close: its factor revised by its slip result, out of the tested axles. -/
theorem countClose_bogie (s : State) (b : Bogie) : (countClose s).axl.bogie b
    = reviseAdhesion (slipResult s.eff.e (speedRecord s.eff.e s.directionEnd s.testedAxles) s.axl.record.v s.testedAxles b)
        (s.axl.bogie b) := by
  rw [countClose_axl]
  cases b
  · exact axlClose_bogie (putConfigInForce s) .b1
  · exact axlClose_bogie (putConfigInForce s) .b2

theorem reviseAdhesion_cut (r : SlipResult) (x : BogieState) : (reviseAdhesion r x).cut = x.cut := rfl

theorem reviseAdhesion_slip (r : SlipResult) (x : BogieState) : (reviseAdhesion r x).slip = r := rfl

/-- R55, by the slip result. -/
theorem reviseAdhesion_adhesion (r : SlipResult) (x : BogieState) : (reviseAdhesion r x).adhesion
    = if x.cut = true then x.adhesion else if r = .slipping then max 250 (x.adhesion - 125)
      else if r = .notSlipping then min 1000 (x.adhesion + 10) else x.adhesion := by
  unfold reviseAdhesion
  cases r <;> simp

section
variable {e : Int} {v : Nat} {t : PerAxle AxleState} {b c : Bogie}

theorem mem_ownAxles {x : Axle × AxleState} : x ∈ (validAxles t).filter (fun x => bogieOfAxle x.1 == b)
    ↔ x.2 = t.get x.1 ∧ (t.get x.1).mark = .valid ∧ bogieOfAxle x.1 = b := by
  rw [List.mem_filter, validAxles, List.mem_filter, mem_axles]
  constructor
  · rintro ⟨⟨value, valid⟩, own⟩
    exact ⟨value, by simpa [value] using valid, by simpa using own⟩
  · rintro ⟨value, valid, own⟩
    exact ⟨⟨value, by simpa [value] using valid⟩, by simpa using own⟩

/-- Without a VALID axle a bogie has no result of its own (R53). -/
theorem ownSlip_none (bare : ∀ a, bogieOfAxle a = b → (t.get a).mark ≠ .valid) : ownSlip e v t b = none := by
  have nil : (validAxles t).filter (fun x => bogieOfAxle x.1 == b) = [] :=
    List.eq_nil_iff_forall_not_mem.mpr fun x mem =>
      have ⟨_, valid, own⟩ := mem_ownAxles.mp mem
      bare x.1 own valid
  rw [ownSlip, nil]
  rfl

/-- With one, its result is whether one of its VALID axles departs by more than the threshold (R53). -/
theorem ownSlip_some (found : ∃ a, bogieOfAxle a = b ∧ (t.get a).mark = .valid) : ∃ r, ownSlip e v t b = some r
    ∧ (r = true ↔ ∃ a, bogieOfAxle a = b ∧ (t.get a).mark = .valid ∧ slipThreshold v < departure e v (t.get a)) := by
  obtain ⟨a, own, valid⟩ := found
  have notNil : ((validAxles t).filter fun x => bogieOfAxle x.1 == b).isEmpty = false :=
    List.isEmpty_eq_false_iff_exists_mem.mpr ⟨(a, t.get a), mem_ownAxles.mpr ⟨rfl, valid, own⟩⟩
  refine ⟨_, if_neg (by rw [notNil]; exact Bool.false_ne_true), ?_⟩
  rw [List.any_eq_true]
  constructor
  · rintro ⟨x, mem, departs⟩
    obtain ⟨value, valid, own⟩ := mem_ownAxles.mp mem
    exact ⟨x.1, own, valid, by simpa [value] using departs⟩
  · rintro ⟨a, own, valid, departs⟩
    exact ⟨(a, t.get a), mem_ownAxles.mpr ⟨rfl, valid, own⟩, by simpa using departs⟩

/-- The result that R53 takes for a bogie, its own or the other's. -/
theorem shownSlip_eq (found : ∃ a, bogieOfAxle a = c ∧ (t.get a).mark = .valid)
    (takes : c = b ∨ ∀ a, bogieOfAxle a = b → (t.get a).mark ≠ .valid) :
    (ownSlip e v t b).getD ((ownSlip e v t (otherBogie b)).getD false) = true
      ↔ ∃ a, bogieOfAxle a = c ∧ (t.get a).mark = .valid ∧ slipThreshold v < departure e v (t.get a) := by
  obtain ⟨r, shown, r_iff⟩ := ownSlip_some (e := e) (v := v) found
  rw [← r_iff]
  by_cases own : c = b
  · rw [← own, shown, Option.getD_some]
  · have bare := takes.resolve_left own
    have other : otherBogie b = c := by
      revert own
      cases b <;> cases c <;> simp [otherBogie]
    rw [ownSlip_none bare, other, shown, Option.getD_none, Option.getD_some]

end

/-- Settles O7: the bogie of a count close has the slip result of R53 and R54 and the factor of R55. -/
theorem adhesionFollowsSlip : Obligations.AdhesionFollowsSlip := by
  unfold Obligations.AdhesionFollowsSlip
  intro s b
  refine ⟨countClose s, rfl, ?_⟩
  rw [countClose_bogie, countClose_record]
  simp only [countClose_markOf, countClose_speedOf]
  generalize speedRecord s.eff.e s.directionEnd s.testedAxles = r
  generalize s.testedAxles = t
  generalize s.axl.record.v = prev
  refine ⟨reviseAdhesion_cut _ _, ?_, ?_, ?_, ?_, reviseAdhesion_adhesion _ _⟩
  all_goals rw [reviseAdhesion_slip, slipResult]
  · cases r.unknown
    · simp only [Bool.false_eq_true, if_false]
      repeat' split
      all_goals simp
    · simp
  · intro known still
    rw [if_neg (by simp [known]), if_pos still]
  · intro known power rise
    rw [if_neg (by simp [known]), if_neg (by omega), if_pos ⟨power, rise⟩]
  · intro known moves calm c found takes
    rw [if_neg (by simp [known]), if_neg moves, if_neg calm]
    have shown := shownSlip_eq (e := s.eff.e) (v := r.v) found takes
    have threshold : ((300 + r.v / 16 : Nat) : Int) = slipThreshold r.v := rfl
    rw [threshold]
    refine Iff.trans ?_ shown
    dsimp only
    split
    · exact iff_of_true rfl ‹_›
    · exact iff_of_false nofun ‹_›

end Sys2Proof.Machine
end

section
/-! PROOF. The passenger buttons: a sample of their levels, presses and STUCK marks (R122, R123, R127). -/

namespace Sys2Proof.Machine

/-! ### The sample -/

/-- A sample takes each button's debouncer with its own level (R122). -/
theorem sampleAll_eq_zipWith : ∀ {ds : List Debouncer} {ls : List Bool}, ls.length = ds.length →
    sampleAll ds ls = ds.zipWith (fun d l => sampleDebouncer l d) ls
  | [], _, _ => by simp [sampleAll]
  | _ :: _, [], h => by simp at h
  | d :: ds, l :: ls, h => by
    rw [sampleAll, sampleAll_eq_zipWith (by simpa using h), List.zipWith_cons_cons]

theorem holdLevels_eq : ∀ {xs ls : List Bool}, ls.length = xs.length → holdLevels xs ls = ls
  | [], [], _ => rfl
  | [], _ :: _, h => by simp at h
  | _ :: _, [], h => by simp at h
  | _ :: xs, l :: ls, h => by rw [holdLevels, holdLevels_eq (by simpa using h)]

/-- The picked numbers are those of the positions that pass, in their order. -/
theorem pickButtons_eq (f : Debouncer → Debouncer → Bool) : ∀ (k : Nat) (as bs : List Debouncer),
    pickButtons f k as bs
      = ((List.range as.length).filter fun n => (as[n]?).any fun a => (bs[n]?).any fun b => f a b).map (· + k)
  | k, [], bs => by simp [pickButtons]
  | k, _ :: _, [] => by simp [pickButtons]
  | k, a :: as, b :: bs => by
    have rest : pickButtons f (k + 1) as bs = (((List.range as.length).map Nat.succ).filter fun n =>
        ((a :: as)[n]?).any fun x => ((b :: bs)[n]?).any fun y => f x y).map (· + k) := by
      rw [pickButtons_eq f (k + 1) as bs, List.filter_map, List.map_map]
      refine congrArg₂ _ (funext fun n => ?_) (List.filter_congr fun n _ => ?_)
      · simp only [Function.comp]
        omega
      · simp
    rw [pickButtons, rest, List.length_cons, List.range_succ_eq_map, List.filter_cons]
    by_cases picked : f a b = true
    · simp [picked]
    · simp [picked]

section
variable {l : Bool} {d : Debouncer}

/-- A press is the third pressed sample of a released button (R122). -/
theorem isPress_sampleDebouncer : isPress d (sampleDebouncer l d) = (!d.pressed && decide (2 ≤ d.run) && l) := by
  unfold isPress sampleDebouncer
  by_cases three : d.run < 2
  · have short : ¬ 2 ≤ d.run := by omega
    cases l <;> cases pressed : d.pressed <;> simp [three, short]
  · have long : 2 ≤ d.run := by omega
    cases l <;> cases pressed : d.pressed <;> simp [three, long]

/-- The third sample in a row at the other level changes the state (R122). -/
theorem sampleDebouncer_changed (differs : l ≠ d.pressed) (third : 2 ≤ d.run) :
    sampleDebouncer l d = { pressed := l, run := 0, time := 0, stuck := false } := by
  rw [sampleDebouncer, if_neg differs, if_neg (by omega)]

/-- Any other sample counts and times (R122, R123). -/
theorem sampleDebouncer_kept (keeps : l = d.pressed ∨ d.run < 2) : sampleDebouncer l d = { d with
    run := if l = d.pressed then 0 else d.run + 1
    time := if d.pressed = true then min 2000 (d.time + 1) else 0 } := by
  by_cases same : l = d.pressed
  · rw [sampleDebouncer, if_pos same, if_pos same]
    rfl
  · rw [sampleDebouncer, if_neg same, if_pos (keeps.resolve_left same), if_neg same]
    rfl

/-- A mark is due at 2000 samples of pressed time, where the button stays pressed (R123; log entry 25). -/
theorem isDueStuck_sampleDebouncer : isDueStuck d (sampleDebouncer l d) = true
    ↔ d.pressed = true ∧ d.stuck = false ∧ 2000 ≤ d.time + 1 ∧ (l = true ∨ d.run < 2) := by
  by_cases keeps : l = d.pressed ∨ d.run < 2
  · rw [sampleDebouncer_kept keeps]
    have still : d.pressed = true → (l = true ∨ d.run < 2) := fun pressed => pressed ▸ keeps
    cases pressed : d.pressed with
    | false => simp [isDueStuck]
    | true =>
      have still : l = true ∨ d.run ≤ 1 := (still pressed).imp_right Nat.le_of_lt_succ
      simp [isDueStuck, stuckSamples, still]
  · obtain ⟨differs, third⟩ := not_or.mp keeps
    rw [sampleDebouncer_changed differs (by omega)]
    constructor
    · simp [isDueStuck, stuckSamples]
    · rintro ⟨pressed, -, -, still⟩
      exact absurd (still.imp_left fun level => level.trans pressed.symm) keeps

end

/-- A debouncer that gets its mark (R123). -/
def marked (e : Debouncer) : Debouncer :=
  { e with stuck := true, time := stuckSamples }

/-- A sample of one button, with the mark where it is due (R122, R123). -/
theorem marked_sampleDebouncer {l : Bool} {d : Debouncer} (keeps : l = d.pressed ∨ d.run < 2) :
    (if isDueStuck d (sampleDebouncer l d) = true then marked (sampleDebouncer l d) else sampleDebouncer l d)
      = { d with
          run := if l = d.pressed then 0 else d.run + 1
          time := if d.pressed = true then min 2000 (d.time + 1) else 0
          stuck := d.stuck || (d.pressed && decide (2000 ≤ d.time + 1)) } := by
  have still : d.pressed = true → (l = true ∨ d.run < 2) := fun pressed => pressed ▸ keeps
  by_cases due : isDueStuck d (sampleDebouncer l d) = true
  · obtain ⟨pressed, unmarked, full, -⟩ := isDueStuck_sampleDebouncer.mp due
    rw [if_pos due, sampleDebouncer_kept keeps]
    simp [marked, pressed, full, stuckSamples]
  · have held : d.stuck = (d.stuck || (d.pressed && decide (2000 ≤ d.time + 1))) := by
      rw [isDueStuck_sampleDebouncer] at due
      cases pressed : d.pressed with
      | false => simp
      | true =>
        cases unmarked : d.stuck with
        | true => rfl
        | false =>
          have short : ¬ 2000 ≤ d.time + 1 := fun full => due ⟨pressed, unmarked, full, still pressed⟩
          simp [short]
    rw [if_neg due, sampleDebouncer_kept keeps]
    exact congrArg (fun mark => ({ d with
      run := if l = d.pressed then 0 else d.run + 1
      time := if d.pressed = true then min 2000 (d.time + 1) else 0
      stuck := mark } : Debouncer)) held

/-! ### Marks (R123) -/

section
variable {n : Nat} {d : Debouncer} {s : State}

theorem stickButton_succ (found : s.stp.buttons[n]? = some d) (pressed : d.pressed = true) (unmarked : d.stuck = false) :
    stickButton (n + 1) s = raiseNotice .buttonStuck (.button (n + 1))
      { s with stp.buttons := s.stp.buttons.set n (marked d) } := by
  have found : s.stp.buttons[n + 1 - 1]? = some d := found
  unfold stickButton
  rw [found]
  exact if_pos ⟨pressed, unmarked, Nat.le_add_left 1 n⟩

end

/-- A BUTTON_STUCK record of the state `s` (R123, R164). -/
def IsStuckRecord (s : State) (r : FaultRecord) : Prop :=
  r.kind = .buttonStuck ∧ r.cls = .notice ∧ r.p = s.pth.p ∧ r.tag = none

/-- Marks made one after another: each button named gets its mark and its record. -/
theorem stickButtons_spec : ∀ (l : List Nat) (s : State), l.Nodup →
    (∀ n ∈ l, ∃ d, s.stp.buttons[n]? = some d ∧ d.pressed = true ∧ d.stuck = false) →
    ∀ t, t = (l.map (· + 1)).foldl (fun s n => stickButton n s) s →
      t.stp = { s.stp with buttons := t.stp.buttons } ∧ t.stp.buttons.length = s.stp.buttons.length
        ∧ (∀ n d, s.stp.buttons[n]? = some d → t.stp.buttons[n]? = some (if n ∈ l then marked d else d))
        ∧ ∃ rs : List FaultRecord, t.flt = rs.foldl Flt.store s.flt
            ∧ rs.map FaultRecord.key = l.map (fun n => .button (n + 1)) ∧ ∀ r ∈ rs, IsStuckRecord s r
  | [], s, _, _ => fun t made => by
    subst made
    exact ⟨rfl, rfl, fun n d found => by simpa using found, [], rfl, rfl, by simp⟩
  | n :: l, s, distinct, stay => fun t made => by
    obtain ⟨fresh, distinct⟩ := List.nodup_cons.mp distinct
    obtain ⟨d, found, pressed, unmarked⟩ := stay n List.mem_cons_self
    have first := stickButton_succ found pressed unmarked
    obtain ⟨u, isU⟩ : ∃ u, u = stickButton (n + 1) s := ⟨_, rfl⟩
    have stp : u.stp = { s.stp with buttons := s.stp.buttons.set n (marked d) } := by rw [isU, first]; rfl
    have flt : u.flt = s.flt.store (newRecord .buttonStuck .notice (.button (n + 1)) none s) := by rw [isU, first]; rfl
    have pth : u.pth = s.pth := by rw [isU]; exact stickButton_pth _ _
    have buttons : u.stp.buttons = s.stp.buttons.set n (marked d) := by rw [stp]
    have others : ∀ m, m ≠ n → u.stp.buttons[m]? = s.stp.buttons[m]? := fun m other => by
      rw [buttons, List.getElem?_set_ne (Ne.symm other)]
    have stayLater : ∀ m ∈ l, ∃ d, u.stp.buttons[m]? = some d ∧ d.pressed = true ∧ d.stuck = false := fun m mem => by
      rw [others m fun same => fresh (same ▸ mem)]
      exact stay m (List.mem_cons_of_mem _ mem)
    obtain ⟨rest, length, each, rs, stored, keys, records⟩ := stickButtons_spec l u distinct stayLater t (by
      rw [made, isU, List.map_cons, List.foldl_cons])
    refine ⟨by rw [rest, stp], by rw [length, buttons, List.length_set], fun m e at_ => ?_,
      newRecord .buttonStuck .notice (.button (n + 1)) none s :: rs, by rw [stored, flt, List.foldl_cons],
      by rw [List.map_cons, List.map_cons, keys]; rfl, fun r mem => ?_⟩
    · by_cases same : m = n
      · subst same
        have value : e = d := Option.some.inj (at_.symm.trans found)
        rw [if_pos List.mem_cons_self, each m (marked d), if_neg fresh, value]
        rw [buttons, List.getElem?_set_self (List.getElem?_eq_some_iff.mp found).1]
      · rw [each m e ((others m same).trans at_)]
        simp [same]
    · rcases List.mem_cons.mp mem with rfl | later
      · exact ⟨rfl, rfl, rfl, rfl⟩
      · obtain ⟨kind, cls, p, tag⟩ := records r later
        exact ⟨kind, cls, p.trans (congrArg Pth.p pth :), tag⟩

/-! ### The records of a queue with room -/

/-- Where the queue is not full after a record, it gave up none for it (R169). -/
theorem queue_store {f : Flt} {r : FaultRecord} (room : (f.store r).queue.length < 16) :
    (f.store r).queue = f.queue ++ [r] := by
  have most := length_le_makeRoom f.queue
  simp only [Flt.store, List.length_append, List.length_singleton] at room
  have free : f.queue.length < Config.faultQueueSize := by
    show f.queue.length < 16
    omega
  rw [Flt.store, makeRoom, if_pos free]

theorem queue_foldl_store : ∀ (rs : List FaultRecord) (f : Flt), (rs.foldl Flt.store f).queue.length < 16 →
    (rs.foldl Flt.store f).queue = f.queue ++ rs
  | [], f, _ => by simp
  | r :: rs, f, room => by
    rw [List.foldl_cons] at room ⊢
    have later := queue_foldl_store rs (f.store r) room
    have shorter : (f.store r).queue.length < 16 := by
      rw [later, List.length_append] at room
      omega
    rw [later, queue_store shorter, List.append_assoc, List.singleton_append]

theorem latch_foldl_store (rs : List FaultRecord) (f : Flt) : (rs.foldl Flt.store f).latch = f.latch := by
  induction rs generalizing f with
  | nil => rfl
  | cons r rs ih => rw [List.foldl_cons, ih]; rfl

end Sys2Proof.Machine
end

section
/-! PROOF. Presses on the request record (R127), and the button obligation. -/

namespace Sys2Proof.Machine

/-! ### The request record -/

/-- A request record with a press of button `n` (R127). -/
def RequestRecord.press (r : RequestRecord) (n : Nat) : RequestRecord :=
  { r with
    ordinary := r.ordinary || !isAccess n
    access := r.access || isAccess n
    zones := addZone n r.zones
    count := min 255 (r.count + 1) }

/-- A request record before its first press (R126). -/
def blankRequest (p : Nat) : RequestRecord :=
  ⟨false, false, noZones, p, 0⟩

theorem isAccess_succ (n : Nat) : isAccess (n + 1) = decide (24 ≤ n) := by
  simp [isAccess]

theorem addZone_succ {n : Nat} (low : n < 26) (z : Zones) : addZone (n + 1) z =
    { z1 := z.z1 || decide (n < 6)
      z2 := z.z2 || (decide (6 ≤ n) && decide (n < 12))
      z3 := z.z3 || (decide (12 ≤ n) && decide (n < 18))
      z4 := z.z4 || (decide (18 ≤ n) && decide (n < 24))
      aL := z.aL || n == 24
      aR := z.aR || n == 25 } := by
  cases z
  interval_cases n <;> simp [addZone]

/-- What several presses leave of a record (R127). -/
theorem foldl_press : ∀ (l : List Nat) (r : RequestRecord), (∀ n ∈ l, n < 26) → l ≠ [] ∨ r.count ≤ 255 →
    l.foldl (fun r n => r.press (n + 1)) r =
      { ordinary := r.ordinary || l.any (· < 24)
        access := r.access || l.any (24 ≤ ·)
        zones :=
          { z1 := r.zones.z1 || l.any (· < 6)
            z2 := r.zones.z2 || l.any (fun n => 6 ≤ n && n < 12)
            z3 := r.zones.z3 || l.any (fun n => 12 ≤ n && n < 18)
            z4 := r.zones.z4 || l.any (fun n => 18 ≤ n && n < 24)
            aL := r.zones.aL || l.any (· == 24)
            aR := r.zones.aR || l.any (· == 25) }
        firstP := r.firstP
        count := min 255 (r.count + l.length) }
  | [], r, _, small => by
    have small : r.count ≤ 255 := small.resolve_left fun h => h rfl
    simp [Nat.min_eq_right small]
  | n :: l, r, low, _ => by
    have ordinary : (!decide (24 ≤ n)) = decide (n < 24) := by
      rw [← decide_not, decide_eq_decide]
      omega
    have counted : min 255 (min 255 (r.count + 1) + l.length) = min 255 (r.count + (l.length + 1)) := by omega
    rw [List.foldl_cons, foldl_press l _ (fun m mem => low m (List.mem_cons_of_mem _ mem)) (.inr (Nat.min_le_left _ _))]
    simp only [RequestRecord.press, isAccess_succ, addZone_succ (low n List.mem_cons_self), List.any_cons, Bool.or_assoc,
      List.length_cons, ordinary, counted]

/-! ### Presses -/

/-- The sounders with a chime program asked for (R147). -/
def Snd.chimed (x : Snd) (n : Nat) : Snd :=
  { x with chime := (requestOn .chime x.night n x.chime).1 }

/-- The chime that a press asks for on a record that stands: program 9 at the first ACCESS press (R127). -/
def chimedAt (r : RequestRecord) (access : Bool) (x : Snd) : Snd :=
  if access = true ∧ r.access = false then x.chimed 9 else x

section
variable {n : Nat} {s : State} {r : RequestRecord}

theorem registerPress_some (found : s.stp.request = some r) :
    registerPress n s = { s with stp.request := some (r.press n), snd := chimedAt r (isAccess n) s.snd } := by
  unfold registerPress chimedAt
  rw [found]
  dsimp only
  split <;> rfl

/-- The press that creates the record is a press on a blank one, after CHIME program 8 (R127). -/
theorem registerPress_none (absent : s.stp.request = none) : registerPress n s
    = registerPress n { s with stp.request := some (blankRequest s.pth.p), snd := s.snd.chimed 8 } := by
  have created : ({ s with stp.request := some (blankRequest s.pth.p), snd := s.snd.chimed 8 } : State).stp.request
      = some (blankRequest s.pth.p) := rfl
  rw [registerPress_some created]
  unfold registerPress chimedAt
  rw [absent]
  dsimp only
  cases access : isAccess n <;> simp [RequestRecord.press, blankRequest, access] <;> rfl

theorem pressButton_of_registers (running : s.stp.dwell = .running) (target : s.target ≠ none) :
    pressButton n s = registerPress n s :=
  if_pos ⟨running, Option.isSome_iff_ne_none.mpr target⟩

/-- Without a target or outside RUNNING no press is registered (R127). -/
theorem pressButtons_ignored (ignored : s.stp.dwell ≠ .running ∨ s.target = none) : ∀ l : List Nat,
    l.foldl (fun s n => pressButton n s) s = s
  | [] => rfl
  | n :: l => by
    have same : pressButton n s = s := if_neg fun ⟨running, target⟩ =>
      ignored.elim (· running) fun none => by simp [none] at target
    rw [List.foldl_cons, same, pressButtons_ignored ignored l]

end

/-- Presses on a record that stands. -/
theorem pressButtons_some : ∀ (l : List Nat) {s : State} {r : RequestRecord}, s.stp.dwell = .running → s.target ≠ none →
    s.stp.request = some r → (l.map (· + 1)).foldl (fun s n => pressButton n s) s
      = { s with
          stp.request := some (l.foldl (fun r n => r.press (n + 1)) r)
          snd := chimedAt r (l.any fun n => 24 ≤ n) s.snd }
  | [], s, r, _, _, found => by
    simp only [List.map_nil, List.foldl_nil, List.any_nil, chimedAt, Bool.false_eq_true, false_and, if_false, ← found]
  | n :: l, s, r, running, target, found => by
    rw [List.map_cons, List.foldl_cons, pressButton_of_registers running target, registerPress_some found]
    obtain ⟨u, made⟩ : ∃ u : State, u = { s with
        stp.request := some (r.press (n + 1)), snd := chimedAt r (isAccess (n + 1)) s.snd } := ⟨_, rfl⟩
    have runningU : u.stp.dwell = .running := by rw [made]; exact running
    have targetU : u.target ≠ none := by rw [made]; exact target
    rw [← made, pressButtons_some l runningU targetU (r := r.press (n + 1)) (by rw [made])]
    have chimes : chimedAt (r.press (n + 1)) (l.any fun n => 24 ≤ n) (chimedAt r (isAccess (n + 1)) s.snd)
        = chimedAt r ((n :: l).any fun n => 24 ≤ n) s.snd := by
      rw [List.any_cons, isAccess_succ]
      cases held : r.access <;> cases access : decide (24 ≤ n) <;>
        simp [chimedAt, RequestRecord.press, isAccess_succ, held, access]
    rw [made]
    simp only [chimes, List.foldl_cons]

/-- Presses that create the record. -/
theorem pressButtons_none {l : List Nat} {s : State} (running : s.stp.dwell = .running) (target : s.target ≠ none)
    (absent : s.stp.request = none) (some_ : l ≠ []) : (l.map (· + 1)).foldl (fun s n => pressButton n s) s
      = { s with
          stp.request := some (l.foldl (fun r n => r.press (n + 1)) (blankRequest s.pth.p))
          snd := chimedAt (blankRequest s.pth.p) (l.any fun n => 24 ≤ n) (s.snd.chimed 8) } := by
  obtain ⟨n, rest, rfl⟩ := List.exists_cons_of_ne_nil some_
  obtain ⟨u, made⟩ : ∃ u : State, u = { s with stp.request := some (blankRequest s.pth.p), snd := s.snd.chimed 8 } := ⟨_, rfl⟩
  have runningU : u.stp.dwell = .running := by rw [made]; exact running
  have targetU : u.target ≠ none := by rw [made]; exact target
  have first : pressButton (n + 1) s = pressButton (n + 1) u := by
    rw [pressButton_of_registers running target, pressButton_of_registers runningU targetU, registerPress_none absent, made]
  have all := pressButtons_some (n :: rest) runningU targetU (r := blankRequest s.pth.p) (by rw [made])
  rw [List.map_cons, List.foldl_cons] at all ⊢
  rw [first, all, made]

end Sys2Proof.Machine
end

section
/-! PROOF. The button obligation, O49 (R122, R123, R127). -/

namespace Sys2Proof.Machine

section
variable {s : State} {levels : List Bool}

/-- The buttons pressed at a sample, counted from 0 (R122). -/
def State.pressesAt (s : State) (levels : List Bool) : List Nat :=
  (List.range 26).filter fun n => (s.stp.buttons[n]?).any fun d =>
    !d.pressed && decide (2 ≤ d.run) && (levels[n]?).getD false

/-- The buttons whose mark is due at a sample, counted from 0 (R123). -/
def State.marksAt (s : State) (levels : List Bool) : List Nat :=
  (List.range 26).filter fun n => (s.stp.buttons[n]?).any fun d =>
    (levels[n]?).any fun l => isDueStuck d (sampleDebouncer l d)

/-- The state after a sample's levels, before its presses and marks. -/
def debounced (levels : List Bool) (s : State) : State :=
  { s with stp.buttons := sampleAll s.stp.buttons levels, stp.levels := holdLevels s.stp.levels levels, stp.sampleTicks := 0 }

theorem getElem?_sampleAll (same : levels.length = s.stp.buttons.length) (n : Nat) :
    (sampleAll s.stp.buttons levels)[n]?
      = (s.stp.buttons[n]?).bind fun d => (levels[n]?).map fun l => sampleDebouncer l d := by
  rw [sampleAll_eq_zipWith same, List.getElem?_zipWith]
  cases s.stp.buttons[n]? <;> cases levels[n]? <;> rfl

theorem length_sampleAll (same : levels.length = s.stp.buttons.length) :
    (sampleAll s.stp.buttons levels).length = s.stp.buttons.length := by
  rw [sampleAll_eq_zipWith same, List.length_zipWith, same, Nat.min_self]

theorem sampleButtons_eq (count : levels.length = 26) (buttons : s.stp.buttons.length = 26) : sampleButtons levels s
    = ((s.marksAt levels).map (· + 1)).foldl (fun s n => stickButton n s)
        (((s.pressesAt levels).map (· + 1)).foldl (fun s n => pressButton n s) (debounced levels s)) := by
  have same : levels.length = s.stp.buttons.length := count.trans buttons.symm
  have presses : pickButtons isPress 1 s.stp.buttons (sampleAll s.stp.buttons levels) = (s.pressesAt levels).map (· + 1) := by
    rw [pickButtons_eq, buttons]
    refine congrArg _ (List.filter_congr fun n mem => ?_)
    rw [getElem?_sampleAll same]
    have inside : n < levels.length := count.symm ▸ List.mem_range.mp mem
    rw [List.getElem?_eq_getElem inside]
    cases s.stp.buttons[n]? with
    | none => rfl
    | some d => simp [isPress_sampleDebouncer]
  have marks : pickButtons isDueStuck 1 s.stp.buttons (sampleAll s.stp.buttons levels) = (s.marksAt levels).map (· + 1) := by
    rw [pickButtons_eq, buttons]
    refine congrArg _ (List.filter_congr fun n _ => ?_)
    rw [getElem?_sampleAll same]
    cases s.stp.buttons[n]? <;> cases levels[n]? <;> rfl
  rw [sampleButtons, presses, marks]
  rfl

theorem mem_marksAt {n : Nat} : n ∈ s.marksAt levels ↔ n < 26 ∧ ∃ d x, s.stp.buttons[n]? = some d ∧ levels[n]? = some x
    ∧ d.pressed = true ∧ d.stuck = false ∧ 2000 ≤ d.time + 1 ∧ (x = true ∨ d.run < 2) := by
  simp only [State.marksAt, List.mem_filter, List.mem_range, Option.any_eq_true, isDueStuck_sampleDebouncer]
  constructor
  · rintro ⟨low, d, found, x, level, due⟩
    exact ⟨low, d, x, found, level, due⟩
  · rintro ⟨low, d, x, found, level, due⟩
    exact ⟨low, d, found, x, level, due⟩

theorem pressesAt_low : ∀ n ∈ s.pressesAt levels, n < 26 := fun _ mem =>
  List.mem_range.mp (List.mem_filter.mp mem).1

/-- What the presses of a sample do (R127). -/
theorem pressButtons_debounced (u : State)
    (made : u = ((s.pressesAt levels).map (· + 1)).foldl (fun s n => pressButton n s) (debounced levels s)) :
    u.stp = { (debounced levels s).stp with request := u.stp.request } ∧ u.pth = s.pth ∧ u.flt = s.flt
      ∧ (s.stp.dwell ≠ .running ∨ s.target = none ∨ s.pressesAt levels = [] →
          u.stp.request = s.stp.request ∧ u.snd = s.snd)
      ∧ (s.stp.dwell = .running → s.target ≠ none → s.pressesAt levels ≠ [] → ∀ old : RequestRecord,
          old = s.stp.request.getD (blankRequest s.pth.p) →
          u.stp.request = some ((s.pressesAt levels).foldl (fun r n => r.press (n + 1)) old)
          ∧ u.snd = chimedAt old ((s.pressesAt levels).any fun n => 24 ≤ n)
              (if s.stp.request = none then s.snd.chimed 8 else s.snd)) := by
  obtain ⟨z, isZ⟩ : ∃ z, z = debounced levels s := ⟨_, rfl⟩
  have dwell : z.stp.dwell = s.stp.dwell := by rw [isZ]; rfl
  have target : z.target = s.target := by rw [isZ]; rfl
  have request : z.stp.request = s.stp.request := by rw [isZ]; rfl
  have pth : z.pth = s.pth := by rw [isZ]; rfl
  have snd : z.snd = s.snd := by rw [isZ]; rfl
  have flt : z.flt = s.flt := by rw [isZ]; rfl
  rw [← isZ] at made ⊢
  rw [← dwell, ← target, ← request, ← pth, ← snd, ← flt]
  by_cases ignored : z.stp.dwell ≠ .running ∨ z.target = none ∨ s.pressesAt levels = []
  · have same : u = z := by
      rw [made]
      rcases ignored with stands | none | empty
      · exact pressButtons_ignored (.inl stands) _
      · exact pressButtons_ignored (.inr none) _
      · rw [empty]; rfl
    subst same
    refine ⟨rfl, rfl, rfl, fun _ => ⟨rfl, rfl⟩, fun running target some_ => ?_⟩
    exact absurd ignored (by simp [running, target, some_])
  · obtain ⟨running, target, some_⟩ : z.stp.dwell = .running ∧ z.target ≠ none ∧ s.pressesAt levels ≠ [] := by
      simpa [not_or] using ignored
    cases held : z.stp.request with
    | none =>
      rw [made, pressButtons_none running target held some_]
      refine ⟨rfl, rfl, rfl, fun h => absurd h ignored, fun _ _ _ old same => ?_⟩
      rw [same, if_pos rfl]
      exact ⟨rfl, rfl⟩
    | some r =>
      rw [made, pressButtons_some _ running target held]
      refine ⟨rfl, rfl, rfl, fun h => absurd h ignored, fun _ _ _ old same => ?_⟩
      rw [same, if_neg (Option.some_ne_none r)]
      exact ⟨rfl, rfl⟩

theorem chimed_asked (x : Snd) (n : Nat) : programAsked .chime x.night n x.chime (x.chimed n).chime :=
  requestOn_asked .chime x.night n x.chime

theorem chimedAt_asked (old : RequestRecord) (access : Bool) (x : Snd) :
    chimedAt old access x = { x with chime := (chimedAt old access x).chime }
      ∧ if access = true ∧ old.access = false then programAsked .chime x.night 9 x.chime (chimedAt old access x).chime
        else (chimedAt old access x).chime = x.chime := by
  unfold chimedAt
  by_cases first : access = true ∧ old.access = false
  · rw [if_pos first, if_pos first]
    exact ⟨rfl, chimed_asked x 9⟩
  · rw [if_neg first, if_neg first]
    exact ⟨rfl, rfl⟩

end

/-- Settles O49: a sample is the debouncers' samples, then its presses, then its marks, each a lemma of its own. -/
theorem buttonsAreDebounced : Obligations.ButtonsAreDebounced := by
  unfold Obligations.ButtonsAreDebounced
  refine ⟨fun s levels count buttons wires => ?_, fun s n d found pressed unmarked => ?_⟩
  · have same : levels.length = s.stp.buttons.length := count.trans buttons.symm
    obtain ⟨u, isU⟩ : ∃ u, u = ((s.pressesAt levels).map (· + 1)).foldl (fun s n => pressButton n s) (debounced levels s) :=
      ⟨_, rfl⟩
    obtain ⟨t, isT⟩ : ∃ t, t = sampleButtons levels s := ⟨_, rfl⟩
    obtain ⟨stpU, pthU, fltU, ignored, registered⟩ := pressButtons_debounced u isU
    have buttonsU : u.stp.buttons = sampleAll s.stp.buttons levels := by rw [stpU]; rfl
    have sampled : ∀ n d x, s.stp.buttons[n]? = some d → levels[n]? = some x →
        u.stp.buttons[n]? = some (sampleDebouncer x d) := fun n d x found level => by
      rw [buttonsU, getElem?_sampleAll same, found, level]
      rfl
    have due : ∀ n ∈ s.marksAt levels, ∃ e, u.stp.buttons[n]? = some e ∧ e.pressed = true ∧ e.stuck = false := fun n mem => by
      obtain ⟨-, d, x, found, level, mark⟩ := mem_marksAt.mp mem
      have due := isDueStuck_sampleDebouncer.mpr mark
      simp only [isDueStuck, Bool.and_eq_true, Bool.not_eq_true'] at due
      exact ⟨_, sampled n d x found level, due.1.1, due.1.2⟩
    obtain ⟨stp, length, each, rs, stored, keys, records⟩ := stickButtons_spec (s.marksAt levels) u
      (List.nodup_range.filter _) due t (by rw [isT, isU, sampleButtons_eq count buttons])
    have request : t.stp.request = u.stp.request := by rw [stp]
    have snd : t.snd = u.snd := by rw [isT, sampleButtons_eq count buttons, stickButtons_snd, isU]
    refine ⟨t, congrArg Host.Outcome.next isT.symm, by rw [stp, stpU]; exact holdLevels_eq (count.trans wires.symm),
      by rw [length, buttonsU, length_sampleAll same, buttons], fun n d x found level => ?_, fun stuck stuck_iff => ?_,
      fun press isPress => ?_, by rw [stp, stpU]; rfl, by rw [stp, stpU]; rfl, by rw [isT]; exact sampleButtons_aut ..,
      by rw [isT]; exact sampleButtons_axl .., by rw [isT]; exact sampleButtons_pth .., by rw [isT]; exact sampleButtons_eff ..,
      by rw [isT]; exact sampleButtons_jct .., by rw [isT]; exact sampleButtons_loop .., by rw [isT]; exact sampleButtons_ord ..,
      by rw [stored, latch_foldl_store, fltU]⟩
    · have low : n < 26 := buttons ▸ (List.getElem?_eq_some_iff.mp found).1
      have mark_iff : n ∈ s.marksAt levels ↔ isDueStuck d (sampleDebouncer x d) = true := by
        rw [mem_marksAt, isDueStuck_sampleDebouncer]
        exact ⟨fun ⟨_, e, y, foundE, levelY, mark⟩ => Option.some.inj (found.symm.trans foundE) ▸
          Option.some.inj (level.symm.trans levelY) ▸ mark, fun mark => ⟨low, d, x, found, level, mark⟩⟩
      refine ⟨_, each n _ (sampled n d x found level), fun differs third => ?_, fun keeps => ?_⟩
      · have notDue : n ∉ s.marksAt levels := fun mem => by
          obtain ⟨pressed, -, -, still⟩ := isDueStuck_sampleDebouncer.mp (mark_iff.mp mem)
          exact still.elim (fun on => differs (on.trans pressed.symm)) (by omega)
        rw [if_neg notDue, sampleDebouncer_changed differs third]
      · rw [← marked_sampleDebouncer keeps]
        exact if_congr mark_iff rfl rfl
    · have stuck_mem : ∀ n, stuck n ↔ n ∈ s.marksAt levels := fun n => by
        rw [stuck_iff, mem_marksAt]
        exact ⟨fun ⟨d, x, found, rest⟩ => ⟨buttons ▸ (List.getElem?_eq_some_iff.mp found).1, d, x, found, rest⟩, And.right⟩
      refine ⟨fun none => ?_, fun room => ⟨rs, ?_, ?_, fun n => ?_, fun r mem => ?_⟩⟩
      · have empty : s.marksAt levels = [] := List.eq_nil_iff_forall_not_mem.mpr fun n mem => none n ((stuck_mem n).mpr mem)
        rw [empty, List.map_nil, List.map_eq_nil_iff] at keys
        rw [stored, keys, List.foldl_nil, fltU]
      · rw [stored] at room ⊢
        rw [queue_foldl_store rs _ room, fltU]
      · rw [keys]
        exact (List.nodup_range.filter _).map fun m n same => by simpa using same
      · have key_iff : (∃ r ∈ rs, r.key = .button (n + 1)) ↔ FaultKey.button (n + 1) ∈ rs.map FaultRecord.key := by
          simp
        rw [key_iff, keys, stuck_mem]
        simp
      · obtain ⟨kind, cls, p, tag⟩ := records r mem
        have key : r.key ∈ rs.map FaultRecord.key := List.mem_map_of_mem mem
        rw [keys] at key
        obtain ⟨n, -, key⟩ := List.mem_map.mp key
        exact ⟨kind, cls, p.trans (congrArg Pth.p pthU :), tag, n, key.symm⟩
    · subst isPress
      rw [request, snd]
      refine ⟨ignored, fun running target some_ => ?_⟩
      obtain ⟨registered, chimes⟩ := registered running target some_ _ rfl
      obtain ⟨alone, asked⟩ := chimedAt_asked (s.stp.request.getD (blankRequest s.pth.p))
        ((s.pressesAt levels).any fun n => 24 ≤ n) (if s.stp.request = none then s.snd.chimed 8 else s.snd)
      rw [← chimes] at alone asked
      refine ⟨⟨_, registered, fun old same => ?_⟩, ?_⟩
      · rw [same]
        exact foldl_press _ _ pressesAt_low (.inl some_)
      · cases held : s.stp.request with
        | none =>
          rw [held, if_pos rfl] at alone asked
          exact ⟨alone, _, chimed_asked s.snd 8, asked⟩
        | some r =>
          rw [held, if_neg (Option.some_ne_none r)] at alone asked
          exact ⟨alone, _, rfl, asked⟩
  · have exec : Sys2Proof.Machine.exec (.buttonStuck (n + 1)) s = .next (stickButton (n + 1) s) := rfl
    rw [exec, stickButton_succ found pressed unmarked]
    exact ⟨_, newRecord .buttonStuck .notice (.button (n + 1)) none s, rfl, List.getLast?_concat, rfl, rfl, rfl, rfl, rfl,
      rfl, rfl, rfl⟩

end Sys2Proof.Machine
end

section
/-! PROOF. Exchanges in progress (R102): what leaves them in progress. -/

namespace Sys2Proof.Machine

/-- Whether a slot of a bank holds a junction whose exchange is in progress. -/
def State.exchanging (s : State) (b : BankName) (i : Nat) : Bool :=
  (s.junctionAt b i).any fun j => inExchange j.state

theorem exchangeInProgress_iff_exchanging {s : State} : s.exchangeInProgress = true
    ↔ ∃ b, s.liveBank = some b ∧ ∃ i, s.exchanging b i = true := by
  rw [exchangeInProgress_iff]
  constructor
  · rintro ⟨⟨i, e⟩, mem, j, point, state⟩
    cases live : s.liveBank with
    | none => simp [liveEntries_of_noPlan live] at mem
    | some b =>
      simp only [State.liveEntries, live] at mem
      refine ⟨b, rfl, i, ?_⟩
      rw [State.exchanging, State.junctionAt, mem_entries.mp mem, Option.bind_some, junction?_of_point point, Option.any_some]
      exact inExchange_iff.mpr state
  · rintro ⟨b, live, i, exchanging⟩
    obtain ⟨j, at_, state⟩ := (Option.any_eq_true _ _).mp exchanging
    obtain ⟨e, entry, junction⟩ := Option.bind_eq_some_iff.mp at_
    refine ⟨(i, e), ?_, j, point_of_junction? junction, inExchange_iff.mp state⟩
    simp only [State.liveEntries, live]
    exact mem_entries.mpr entry

/-- From `s` to `t` every exchange in progress of the live plan goes on. -/
structure Persists (s t : State) : Prop where
  bank : t.liveBank = s.liveBank
  each : ∀ b, s.liveBank = some b → ∀ i, s.exchanging b i = true → t.exchanging b i = true

theorem Persists.exchange {s t : State} (h : Persists s t) (on : s.exchangeInProgress = true) :
    t.exchangeInProgress = true := by
  obtain ⟨b, live, i, exchanging⟩ := exchangeInProgress_iff_exchanging.mp on
  exact exchangeInProgress_iff_exchanging.mpr ⟨b, h.bank.trans live, i, h.each b live i exchanging⟩

theorem Persists.of_banks {s t : State} (bank : ∀ b, t.bank b = s.bank b) (pointer : t.pth.standby = s.pth.standby) :
    Persists s t := by
  have same : ∀ b i, t.exchanging b i = s.exchanging b i := fun b i => by
    simp only [State.exchanging, State.junctionAt, State.entryAt, bank]
  exact ⟨by simp only [State.liveBank, bank, pointer], fun b _ i on => (same b i).trans on⟩

theorem Persists.of_pth {s t : State} (h : t.pth = s.pth) : Persists s t :=
  .of_banks (fun b => by cases b <;> simp only [State.bank, h]) (by rw [h])

theorem Persists.trans {s t u : State} (first : Persists s t) (second : Persists t u) : Persists s u :=
  ⟨second.bank.trans first.bank, fun b live i on => second.each b (first.bank.trans live) i (first.each b live i on)⟩

theorem entryAt_modEntry (s : State) (b c : BankName) (i k : Nat) (f : Entry → Entry) :
    (s.modEntry b i f).entryAt c k = if c = b ∧ k = i then (s.entryAt c k).map f else s.entryAt c k := by
  unfold State.entryAt State.modEntry
  by_cases bank : c = b
  · subst bank
    rw [bank_setBank, List.getElem?_modify]
    by_cases index : k = i
    · subst index
      cases at_ : (s.bank c).slots[k]? with
      | none => simp
      | some x => cases x <;> simp
    · simp [index, Ne.symm index]
  · rw [bank_setBank_ne _ _ bank, if_neg fun h => bank h.1]

/-- A change of one entry leaves every exchange in progress that it does not end itself. -/
theorem Persists.modEntry {s : State} {b : BankName} {i : Nat} {f : Entry → Entry}
    (keeps : ∀ e j, s.entryAt b i = some e → e.junction? = some j → inExchange j.state = true →
      ∃ k, (f e).junction? = some k ∧ inExchange k.state = true) : Persists s (s.modEntry b i f) := by
  refine ⟨liveBank_of_outline (modEntry_outline ..), fun c _ k on => ?_⟩
  unfold State.exchanging State.junctionAt at on ⊢
  rw [entryAt_modEntry]
  by_cases here : c = b ∧ k = i
  · obtain ⟨rfl, rfl⟩ := here
    rw [if_pos ⟨rfl, rfl⟩]
    obtain ⟨j, at_, state⟩ := (Option.any_eq_true _ _).mp on
    obtain ⟨e, entry, junction⟩ := Option.bind_eq_some_iff.mp at_
    obtain ⟨x, changed, state⟩ := keeps e j entry junction state
    rw [entry, Option.map_some, Option.bind_some, changed, Option.any_some]
    exact state
  · rw [if_neg here]
    exact on

theorem junction?_modJunction (f : Junction → Junction) (e : Entry) :
    (Entry.modJunction f e).junction? = e.junction?.map f := by
  cases point : e.point <;> simp [Entry.modJunction, Entry.junction?, point]

theorem Persists.modJunction {s : State} {b : BankName} {i : Nat} {f : Junction → Junction}
    (keeps : ∀ j, s.junctionAt b i = some j → inExchange j.state = true → inExchange (f j).state = true) :
    Persists s (s.modJunction b i f) := by
  refine .modEntry fun e j at_ junction on => ⟨f j, by rw [junction?_modJunction, junction, Option.map_some], keeps j ?_ on⟩
  rw [State.junctionAt, at_, Option.bind_some, junction]

theorem Persists.modStop {s : State} {b : BankName} {i : Nat} {f : Stop → Stop} : Persists s (s.modStop b i f) := by
  refine .modEntry fun e j _ junction on => ⟨j, ?_, on⟩
  rw [← junction]
  have point := point_of_junction? junction
  simp [Entry.modStop, point]

/-- What is done to the standby bank leaves the live plan as it is. -/
theorem Persists.standby {s t : State} (pointer : t.pth.standby = s.pth.standby)
    (other : t.bank (otherBank s.pth.standby) = s.bank (otherBank s.pth.standby)) : Persists s t := by
  refine ⟨by simp only [State.liveBank, pointer, other], fun b live i on => ?_⟩
  have bank : b = otherBank s.pth.standby := by
    unfold State.liveBank at live
    split at live
    · exact (Option.some.inj live).symm
    · cases live
  rw [← on, bank]
  simp only [State.exchanging, State.junctionAt, State.entryAt, other]

/-! ### Telegrams -/

theorem persists_afterTaken (t : Telegram) (b : BankName) (i : Nat) (s : State) : Persists s (afterTaken t b i s) := by
  unfold afterTaken
  split
  · exact .modJunction fun _ _ _ => rfl
  · exact .of_pth rfl

theorem persists_offerHeads : ∀ (l : List (BankName × Nat)) (s : State), Persists s (offerHeads l s).1
  | [], _ => .of_pth rfl
  | (b, i) :: rest, s => by
    have popped : ∀ x : Loop, Persists s (({ s with loop := x } : State).modJunction b i fun j => { j with due := j.due.tail }) :=
      fun x => (Persists.of_pth (s := s) (t := { s with loop := x }) rfl).trans (.modJunction fun _ _ on => on)
    unfold offerHeads
    split
    · exact .of_pth rfl
    · split
      · exact persists_offerHeads rest s
      · dsimp only
        split
        · exact persists_offerHeads rest s
        · exact Persists.trans ((popped _).trans (persists_afterTaken ..)) (persists_offerHeads rest _)
        · exact popped _

theorem persists_reofferWith : ∀ (n : Nat) (s : State), Persists s (reofferWith n s)
  | 0, _ => .of_pth rfl
  | n + 1, s => by
    have offered := persists_offerHeads s.offeringOrder s
    unfold reofferWith
    split
    · next h => rw [h] at offered; exact offered.trans (persists_reofferWith n _)
    · next h => rw [h] at offered; exact offered

theorem persists_reoffer (s : State) : Persists s (reoffer s) := persists_reofferWith ..

theorem persists_makeOffer (t : Telegram) (b : BankName) (i : Nat) (s : State) : Persists s (makeOffer t b i s) := by
  rcases makeOffer_cases t b i s with ⟨x, -, h⟩ | ⟨x, -, h⟩ | ⟨-, h⟩ <;> rw [h]
  · exact (Persists.of_pth (s := s) (t := { s with loop := x }) rfl).trans (persists_afterTaken ..)
  · exact (Persists.of_pth (s := s) (t := { s with loop := x }) rfl).trans (persists_reoffer _)
  · exact .modJunction fun _ _ on => on

theorem persists_transmissionReport (id : Nat) (n : BitVec 4) (s : State) : Persists s (transmissionReport id n s) := by
  unfold transmissionReport
  repeat' split
  exacts [.of_pth rfl, .of_pth rfl, .modJunction fun _ _ on => on, .of_pth rfl]

theorem persists_completeTransmission (s : State) : Persists s (completeTransmission s) := by
  have ended : Persists s { s with loop := endTransmission s.loop } := .of_pth rfl
  unfold completeTransmission
  split
  · dsimp only
    split
    · exact (ended.trans (persists_transmissionReport ..)).trans (persists_reoffer _)
    · exact ended.trans (persists_reoffer _)
  · exact .of_pth rfl

/-! ### Answers and the driver's orders -/

/-- The junction in the slot where the live plan has it. -/
theorem junctionAt_of_liveJunction {s : State} {id i : Nat} {b : BankName} {e : Entry} {j : Junction}
    (live : s.liveJunction id = some (b, i, e)) (junction : e.junction? = some j) : s.junctionAt b i = some j := by
  rw [State.junctionAt, (slot_of_liveJunction live).2.1, Option.bind_some, junction]

theorem persists_takeAccept (id : Nat) (n : BitVec 4) (s : State) : Persists s (takeAccept id n s) := by
  unfold takeAccept
  repeat' split
  exacts [.of_pth rfl, .of_pth rfl, .modJunction fun _ _ _ => rfl, .of_pth rfl]

/-- A change of a junction whose exchange is not in progress. -/
theorem Persists.modIdle {s : State} {b : BankName} {i : Nat} {f : Junction → Junction} {j : Junction}
    (at_ : s.junctionAt b i = some j) (idle : inExchange j.state = false) : Persists s (s.modJunction b i f) :=
  .modJunction fun k same on => by
    rw [← Option.some.inj (at_.symm.trans same), idle] at on
    cases on

theorem persists_takeLockLost (id : Nat) (n : BitVec 4) (s : State) : Persists s (takeLockLost id n s) := by
  unfold takeLockLost
  split
  · exact .of_pth rfl
  · next b i e live =>
    split
    · exact .of_pth rfl
    · next j junction =>
      split
      · next locked =>
        have lost : Persists s (s.modJunction b i lostJunction) :=
          .modIdle (junctionAt_of_liveJunction live junction) (by rw [locked.2]; rfl)
        exact lost.trans (.of_pth (by simp))
      · exact .of_pth rfl

theorem inExchange_of_isGivenUp {x : JunctionState} (h : isGivenUp x = true) : inExchange x = false := by
  cases x <;> simp_all [isGivenUp, inExchange]

theorem persists_handleRetry (id : BitVec 16) (s : State) : Persists s (handleRetry id s).1 := by
  unfold handleRetry
  split
  · exact .of_pth rfl
  · next b i e live =>
    split
    · exact .of_pth rfl
    · next j junction =>
      split
      · exact .of_pth rfl
      · next givenUp =>
        split
        · exact .of_pth rfl
        · have idle := inExchange_of_isGivenUp (by simpa using givenUp)
          have waits : Persists s (s.modJunction b i fun j => { j with state := .waiting }) :=
            .modIdle (junctionAt_of_liveJunction live junction) idle
          exact (waits.trans (persists_makeOffer ..)).trans (.of_pth rfl)

theorem persists_handleOverride (id : BitVec 16) (s : State) : Persists s (handleOverride id s).1 := by
  unfold handleOverride
  split
  · exact .of_pth rfl
  · next b i e live =>
    split
    · exact .of_pth rfl
    · next j junction =>
      split
      · exact .of_pth rfl
      · next givenUp =>
        exact .modIdle (junctionAt_of_liveJunction live junction) (inExchange_of_isGivenUp (by simpa using givenUp))

theorem persists_serveTarget (d : DwellRecord) (s : State) : Persists s (serveTarget d s).2.2 := by
  unfold serveTarget
  repeat' split
  exacts [.of_pth rfl, Persists.modStop.trans (.of_pth rfl), .of_pth rfl, .of_pth rfl, .of_pth rfl]

theorem persists_handleDoors (x r : Byte) (s : State) : Persists s (handleDoors x r s).1 := by
  have granted : ∀ ramp d, Persists s (grantDoors ramp d s).1 := fun ramp d => by
    unfold grantDoors
    exact (persists_serveTarget ..).trans (.of_pth rfl)
  unfold handleDoors
  repeat' split
  case h_3.isFalse.isFalse | h_4.isFalse.isFalse => exact granted _ _
  all_goals exact .of_pth rfl

end Sys2Proof.Machine
end

section
/-! PROOF. What becomes of an outstanding SETTLE at every command (R102). -/

namespace Sys2Proof.Machine

/-! ### Slots -/

/-- The deferred order that a port holds. -/
abbrev State.slotOf (s : State) (p : Port) : Option Slot := (s.port p).slot

theorem slotOf_of_ports {s t : State} (h : t.ord.ports = s.ord.ports) (p : Port) : t.slotOf p = s.slotOf p := by
  simp only [State.slotOf, State.port, h]

theorem slotOf_modPort {q : Port} {f : PortContext → PortContext} {s : State} (keeps : ∀ c, (f c).slot = c.slot) (p : Port) :
    (modPort q f s).slotOf p = s.slotOf p := by
  rw [State.slotOf, port_modPort_eq]
  split
  · exact keeps _
  · rfl

theorem slotOf_pushReply (q : Port) (r : Reply) (s : State) (p : Port) : (pushReply q r s).slotOf p = s.slotOf p :=
  slotOf_modPort (f := fun c => { c with outbound := c.outbound ++ [.reply r] }) (fun _ => rfl) p

theorem slotOf_taken (q : Port) (s : State) (p : Port) : (s.taken q).slotOf p = s.slotOf p := by
  cases p <;> cases q <;> rfl

/-- An order entered in a slot, and the other slots. -/
theorem slotOf_enterSlot (q : Port) (tag : Byte) (d : Deferred) (s : State) (p : Port) : (enterSlot q tag d s).slotOf p
    = if p = q then some { tag, order := d, bank := s.pth.standby } else s.slotOf p := by
  rw [State.slotOf, enterSlot, port_modPort_eq]
  split <;> rfl

/-- A plan order's completion empties its own slot alone. -/
theorem slotOf_completePlan (d : Deferred) (y : Status) (s : State) (p : Port) :
    (completePlan d y s).slotOf p = s.slotOf p
      ∨ p = .vehicle ∧ (completePlan d y s).slotOf p = none ∧ ∃ x, s.slotOf p = some x ∧ x.order = d := by
  unfold completePlan completeSlot
  split
  · exact .inl rfl
  · next x slot =>
    split
    · next order =>
      by_cases vehicle : p = .vehicle
      · refine .inr ⟨vehicle, ?_, x, by rw [vehicle]; exact slot, order⟩
        rw [slotOf_pushReply, State.slotOf, vehicle, port_modPort]
      · left
        rw [slotOf_pushReply, State.slotOf, port_modPort_ne _ _ vehicle]
    · exact .inl rfl

/-! ### Where a SETTLE stays outstanding -/

/-- From `s` to `t` every SETTLE outstanding stays so. -/
def SettlesStay (s t : State) : Prop :=
  ∀ p x, x.order = .settle → s.slotOf p = some x → t.slotOf p = some x

theorem SettlesStay.of_slots {s t : State} (h : ∀ p, t.slotOf p = s.slotOf p) : SettlesStay s t :=
  fun p _ _ slot => (h p).trans slot

theorem SettlesStay.of_ports {s t : State} (h : t.ord.ports = s.ord.ports) : SettlesStay s t :=
  .of_slots (slotOf_of_ports h)

theorem SettlesStay.trans {s t u : State} (first : SettlesStay s t) (second : SettlesStay t u) : SettlesStay s u :=
  fun p x order slot => second p x order (first p x order slot)

theorem settlesStay_completePlan {d : Deferred} (other : d ≠ .settle) (y : Status) (s : State) :
    SettlesStay s (completePlan d y s) := fun p x order slot => by
  rcases slotOf_completePlan d y s p with same | ⟨-, -, z, held, isD⟩
  · exact same.trans slot
  · have same : z = x := Option.some.inj (held.symm.trans slot)
    exact absurd (isD.symm.trans (same ▸ order)) other

theorem settlesStay_enterSlot {s : State} {q : Port} (free : s.slotOf q = none) (tag : Byte) (d : Deferred) :
    SettlesStay s (enterSlot q tag d s) := fun p x _ slot => by
  rw [slotOf_enterSlot, if_neg]
  · exact slot
  · rintro rfl
    rw [free] at slot
    cases slot

/-- From `s` to `t` every SETTLE outstanding stays so, a new one finds an exchange in progress, and an exchange in progress
goes on. -/
structure Going (s t : State) : Prop where
  stay : SettlesStay s t
  fresh : ∀ p x, x.order = .settle → t.slotOf p = some x → s.slotOf p = some x ∨ t.exchangeInProgress = true
  exchange : s.exchangeInProgress = true → t.exchangeInProgress = true

theorem Going.of_slots {s t : State} (slots : ∀ p, t.slotOf p = s.slotOf p) (persists : Persists s t) : Going s t :=
  ⟨.of_slots slots, fun p _ _ slot => .inl ((slots p).symm.trans slot), persists.exchange⟩

theorem Going.of_ports {s t : State} (ports : t.ord.ports = s.ord.ports) (persists : Persists s t) : Going s t :=
  .of_slots (slotOf_of_ports ports) persists

theorem Going.trans {s t u : State} (first : Going s t) (second : Going t u) : Going s u :=
  ⟨first.stay.trans second.stay, fun p x order slot =>
    (second.fresh p x order slot).elim (fun held => (first.fresh p x order held).imp_right second.exchange) .inr,
    fun on => second.exchange (first.exchange on)⟩

theorem going_completePlan {d : Deferred} (other : d ≠ .settle) (y : Status) (s : State) : Going s (completePlan d y s) := by
  refine ⟨settlesStay_completePlan other y s, fun p x _ slot => ?_, (Persists.of_pth (completePlan_pth ..)).exchange⟩
  rcases slotOf_completePlan d y s p with same | ⟨-, none, -⟩
  · exact .inl (same.symm.trans slot)
  · rw [none] at slot
    cases slot

/-- A plan order entered in the free slot of the vehicle link. -/
theorem going_enterSlot {s : State} {q : Port} (free : s.slotOf q = none) (tag : Byte) {d : Deferred} (other : d ≠ .settle) :
    Going s (enterSlot q tag d s) := by
  refine ⟨settlesStay_enterSlot free tag d, fun p x order slot => ?_, (Persists.of_pth (modPort_pth ..)).exchange⟩
  rw [slotOf_enterSlot] at slot
  split at slot
  · exact absurd ((congrArg Slot.order (Option.some.inj slot) :).trans order) other
  · exact .inl slot

/-- From `w` to `t` nothing but frames made and what the slots, the plan and the settle lists do not depend on. -/
structure After (w t : State) : Prop where
  pth : t.pth = w.pth
  jct : t.jct = w.jct
  slots : ∀ p, t.slotOf p = w.slotOf p
  outbound : ∀ p, (w.port p).outbound <+: (t.port p).outbound

theorem After.of_blocks {w t : State} (pth : t.pth = w.pth) (jct : t.jct = w.jct) (ports : t.ord.ports = w.ord.ports) :
    After w t :=
  ⟨pth, jct, slotOf_of_ports ports, fun p => by rw [State.port, State.port, ports]⟩

theorem After.trans {u w t : State} (first : After u w) (second : After w t) : After u t :=
  ⟨second.pth.trans first.pth, second.jct.trans first.jct, fun p => (second.slots p).trans (first.slots p),
    fun p => (first.outbound p).trans (second.outbound p)⟩

theorem after_pushFrame (q : Port) (f : OutFrame) (s : State) : After s (pushFrame q f s) := by
  refine ⟨pushFrame_pth .., pushFrame_jct .., slotOf_modPort fun _ => rfl, fun p => ?_⟩
  rw [pushFrame, port_modPort_eq]
  split
  · exact List.prefix_append _ _
  · exact List.prefix_rfl

/-- What a command may do to the SETTLEs outstanding: they stay and the exchanges go on, or the check of R102 comes after
everything that could end an exchange. -/
def SettleLaw (s t : State) : Prop :=
  Going s t ∨ ∃ u, SettlesStay s u ∧ After (settleCheck u) t

theorem SettleLaw.checked {s u : State} (stay : SettlesStay s u) : SettleLaw s (settleCheck u) :=
  .inr ⟨u, stay, rfl, rfl, fun _ => rfl, fun _ => List.prefix_rfl⟩

theorem SettleLaw.after {s w t : State} (law : SettleLaw s w) (then_ : After w t) : SettleLaw s t := by
  rcases law with going | ⟨u, stay, done⟩
  · have same : Going w t := .of_slots then_.slots (.of_pth then_.pth)
    exact .inl (going.trans same)
  · exact .inr ⟨u, stay, done.trans then_⟩

theorem SettleLaw.from_ {s r t : State} (going : Going s r) (law : SettleLaw r t) : SettleLaw s t := by
  rcases law with later | ⟨u, stay, done⟩
  · exact .inl (going.trans later)
  · exact .inr ⟨u, going.stay.trans stay, done⟩

theorem SettleLaw.started {s t : State} (u : State) (law : SettleLaw s t) : SettleLaw s (startTransmitter u t) :=
  law.after (.of_blocks rfl rfl rfl)

/-- Nothing done to the plan or to the ports. -/
theorem SettleLaw.of_blocks {s t : State} (pth : t.pth = s.pth) (ports : t.ord.ports = s.ord.ports) : SettleLaw s t :=
  .inl (.of_ports ports (.of_pth pth))

end Sys2Proof.Machine
end

section
/-! PROOF. Every command obeys the law of an outstanding SETTLE (R102). -/

namespace Sys2Proof.Machine

/-! ### What comes before a check -/

/-- The live plan retired, before a pending switch takes place (R32, R104, R131). -/
def retireLive (s : State) : State :=
  match s.liveBank with
  | none => { s with pth.p := 0, pth.rem := 0, pth.planEnd := false }
  | some b => dropRequest (s.target.map fun x => x.2.id) (retireJunctions b
      { s.setBank b { s.bank b with state := .stale } with pth.p := 0, pth.rem := 0, pth.planEnd := false })

theorem retirePlan_eq (s : State) : retirePlan s
    = if (retireLive s).pth.pendingSwitch = true then completeSwitch (retireLive s) else retireLive s := by
  unfold retirePlan retireLive
  cases s.liveBank <;> rfl

theorem retireLive_ord (s : State) : (retireLive s).ord = s.ord := by
  unfold retireLive
  cases s.liveBank <;> simp

theorem settlesStay_completeSwitch (s : State) : SettlesStay s (completeSwitch s) :=
  (SettlesStay.of_ports (congrArg Ord.ports (switchPlans_ord s) :)).trans
    (settlesStay_completePlan (d := .planSwitch) (by nofun) _ _)

theorem settlesStay_retirePlan (s : State) : SettlesStay s (retirePlan s) := by
  have retired : SettlesStay s (retireLive s) := .of_ports (congrArg Ord.ports (retireLive_ord s) :)
  rw [retirePlan_eq]
  split
  · exact retired.trans (settlesStay_completeSwitch _)
  · exact retired

theorem settlesStay_examineSwitch (s : State) : SettlesStay s (examineSwitch s) := by
  unfold examineSwitch
  split
  · exact settlesStay_completeSwitch s
  · exact .of_ports rfl

theorem settleLaw_grantAuthority (cab : CabEnd) (s : State) : SettleLaw s (grantAuthority cab s) := by
  have granted : SettlesStay s (offerSettle .authority 10 (resetLever { s with aut := grantedAut cab s.aut })) :=
    .of_ports (by simp)
  unfold grantAuthority
  dsimp only
  split
  · exact (SettleLaw.checked (granted.trans (settlesStay_retirePlan _))).started _
  · exact .of_blocks (by simp) (by simp)

theorem settleLaw_handleShift (x : BitVec 16) (s : State) : SettleLaw s (handleShift x s).1 := by
  unfold handleShift
  dsimp only
  split
  · exact .of_blocks rfl rfl
  · split
    · exact .of_blocks rfl rfl
    · exact (SettleLaw.checked (.of_ports (by simp))).started s

theorem settleLaw_takeFix (id : Nat) (s : State) : SettleLaw s (takeFix id s) := by
  unfold takeFix
  split
  · exact .of_blocks rfl rfl
  · split
    · exact .of_blocks (by simp) (by simp)
    · split
      · exact .of_blocks (by simp) (by simp)
      · exact (SettleLaw.checked (.of_ports (by simp))).started s

/-! ### The plan orders -/

theorem free_of_not_slotBusy {s : State} {p : Port} (h : ¬ s.slotBusy p = true) : s.slotOf p = none := by
  simpa [State.slotBusy] using h

/-- A change of the standby bank, with the order entered that brings it about. -/
theorem going_setStandby {s : State} (x : Bank) (n : Nat) (free : s.slotOf .vehicle = none) (tag : Byte) {d : Deferred}
    (other : d ≠ .settle) :
    Going s (enterSlot .vehicle tag d { s.setBank s.pth.standby x with pth.opTicks := n }) := by
  have changed : Going s { s.setBank s.pth.standby x with pth.opTicks := n } :=
    .of_ports (by simp) (.standby (by simp) (bank_setBank_ne _ _ (otherBank_ne _)))
  exact changed.trans (going_enterSlot ((slotOf_of_ports (by simp) .vehicle).trans free) tag other)

theorem going_handlePlanClear (tag : Byte) (s : State) : SettleLaw s (handlePlanClear tag s).1 := by
  unfold handlePlanClear
  split
  · exact .of_blocks rfl rfl
  · next free => exact .inl (going_setStandby _ _ (free_of_not_slotBusy free) tag (by nofun))

theorem going_handlePlanSeal (tag count : Byte) (check : BitVec 16) (s : State) :
    SettleLaw s (handlePlanSeal tag count check s).1 := by
  unfold handlePlanSeal
  dsimp only
  split
  · exact .of_blocks rfl rfl
  · next free =>
    split
    · exact .of_blocks rfl rfl
    · split
      · exact .of_blocks rfl rfl
      · exact .inl (going_setStandby _ _ (free_of_not_slotBusy free) tag (by nofun))

theorem settleLaw_handlePlanPut (w : WaypointPayload) (s : State) : SettleLaw s (handlePlanPut w s).1 := by
  have put : ∀ x : Bank, ∀ n, SettleLaw s (forgetEntry s.pth.standby n (s.setBank s.pth.standby x)) := fun x n =>
    .inl (.of_ports (by simp) (.standby (by simp) (bank_setBank_ne _ _ (otherBank_ne _))))
  unfold handlePlanPut
  dsimp only
  repeat' split
  case h_2 => exact put _ _
  all_goals exact .of_blocks rfl rfl

theorem settleLaw_handlePlanSwitch (tag : Byte) (s : State) : SettleLaw s (handlePlanSwitch tag s).1 := by
  unfold handlePlanSwitch
  dsimp only
  split
  · exact .of_blocks rfl rfl
  · next free =>
    split
    · exact .of_blocks rfl rfl
    · split
      · exact (SettleLaw.checked (.of_ports (congrArg Ord.ports (switchPlans_ord s) :))).started s
      · have pending : Going s { s with pth.pendingSwitch := true } := .of_ports rfl (.standby rfl rfl)
        exact .inl (pending.trans (going_enterSlot (s := { s with pth.pendingSwitch := true }) (q := .vehicle)
          (free_of_not_slotBusy free) tag (d := .planSwitch) (by nofun)))

theorem settleLaw_handlePlanWithdraw (s : State) : SettleLaw s (handlePlanWithdraw s).1 := by
  unfold handlePlanWithdraw
  split
  · have stops : Going s { s with pth.pendingSwitch := false } := .of_ports rfl (.standby rfl rfl)
    exact .inl (stops.trans (going_completePlan (by nofun) _ _))
  · exact .of_blocks rfl rfl

/-- A completion after a change of the standby bank. -/
theorem settleLaw_completeBank {s t : State} (ports : t.ord.ports = s.ord.ports) (persists : Persists s t) {d : Deferred}
    (other : d ≠ .settle) (y : Status) : SettleLaw s (completePlan d y t) :=
  .inl ((Going.of_ports ports persists).trans (going_completePlan other y t))

theorem settleLaw_completeClear (s : State) : SettleLaw s (completeClear s) := by
  unfold completeClear
  split
  · refine settleLaw_completeBank (by simp [clearBank]) (.standby (by simp [clearBank]) ?_) (by nofun) _
    exact bank_setBank_ne _ _ (otherBank_ne _)
  · exact .of_blocks rfl rfl

theorem settleLaw_completeSeal (s : State) : SettleLaw s (completeSeal s) := by
  unfold completeSeal
  dsimp only
  split
  · refine settleLaw_completeBank (by simp) (.standby (by simp) ?_) (by nofun) _
    exact bank_setBank_ne _ _ (otherBank_ne _)
  · exact .of_blocks rfl rfl

/-! ### SETTLE itself -/

theorem settleLaw_handleSettle (p : Port) (tag : Byte) (s : State) : SettleLaw s (handleSettle p tag s).1 := by
  unfold handleSettle
  split
  · exact .of_blocks rfl rfl
  · next free =>
    split
    · next on =>
      have free := free_of_not_slotBusy free
      have persists : Persists s (enterSlot p tag .settle s) := .of_pth (modPort_pth ..)
      refine .inl ⟨settlesStay_enterSlot free tag .settle, fun q x _ slot => ?_, persists.exchange⟩
      rw [slotOf_enterSlot] at slot
      split at slot
      · exact .inr (persists.exchange on)
      · exact .inl slot
    · exact .of_blocks rfl rfl

/-! ### Every order -/

theorem settleLaw_handleOrder (p : Port) (tag : Byte) (o : Order) (s : State) : SettleLaw s (handleOrder p tag o s).1 := by
  have changes := handleOrder_changes p tag o s
  cases o with
  | claim =>
    have plain : SettleLaw s s := .of_blocks rfl rfl
    simp only [handleOrder, handleClaim]
    repeat' split
    case h_2.isFalse.isFalse.isFalse.isFalse => exact settleLaw_grantAuthority _ s
    all_goals exact plain
  | doors x r =>
    exact .inl (.of_ports (congrArg (fun t : State => t.ord.ports) changes :) (persists_handleDoors x r s))
  | retry id =>
    exact .inl (.of_ports (congrArg (fun t : State => t.ord.ports) changes :) (persists_handleRetry id s))
  | override id =>
    exact .inl (.of_ports (congrArg (fun t : State => t.ord.ports) changes :) (persists_handleOverride id s))
  | shift x => exact settleLaw_handleShift x s
  | planClear => exact going_handlePlanClear tag s
  | planPut w => exact settleLaw_handlePlanPut w s
  | planSeal n k => exact going_handlePlanSeal tag n k s
  | planSwitch => exact settleLaw_handlePlanSwitch tag s
  | planWithdraw => exact settleLaw_handlePlanWithdraw s
  | preface n x y z =>
    simp only [handleOrder, handlePreface]
    split
    · exact .of_blocks rfl rfl
    · exact .inl (.of_slots (slotOf_modPort fun _ => by rfl) (.of_pth (modPort_pth ..)))
  | settle => exact settleLaw_handleSettle p tag s
  | _ => exact .of_blocks (congrArg State.pth changes :) (congrArg (fun t : State => t.ord.ports) changes :)

theorem going_taken (p : Port) (s : State) : Going s (s.taken p) :=
  .of_slots (slotOf_taken p s) (.of_pth (taken_pth ..))

theorem settleLaw_failOrder (p : Port) (tag : Byte) (o : Order) (x : Status) (s : State) :
    SettleLaw s (failOrder p tag o x (s.taken p)) := by
  have failed := failOrder_changes p tag o x (s.taken p)
  refine .inl ((going_taken p s).trans (.of_slots (fun q => ?_) (.of_pth (congrArg State.pth failed :))))
  unfold failOrder
  dsimp only
  rw [slotOf_pushReply]
  split <;> rfl

theorem settleLaw_takeOrder (p : Port) (tag : Byte) (o : Order) (s : State) :
    SettleLaw s (takeOrder p tag o (handleOrder p tag o) s) := by
  rcases takeOrder_cases p tag o (handleOrder p tag o) s with e | ⟨-, x, -, e⟩ | ⟨-, -, e⟩ <;> rw [e]
  · exact .of_blocks rfl rfl
  · exact settleLaw_failOrder p tag o x s
  · exact ((settleLaw_handleOrder p tag o _).after (after_pushFrame ..)).from_ (going_taken p s)

/-! ### Every event -/

theorem settleLaw_receiveAccept (tram : BitVec 14) (id : BitVec 12) (n : BitVec 4) (s : State) :
    SettleLaw s (receiveAccept tram id n s) := by
  have changes := receiveAccept_changes tram id n s _ rfl
  refine .inl (.of_ports (congrArg (fun t : State => t.ord.ports) changes :) ?_)
  unfold receiveAccept
  split
  · exact persists_takeAccept ..
  · exact .of_pth rfl

theorem settleLaw_receiveLockLost (tram : BitVec 14) (id : BitVec 12) (n : BitVec 4) (s : State) :
    SettleLaw s (receiveLockLost tram id n s) := by
  have changes := receiveLockLost_changes tram id n s _ rfl
  refine .inl (.of_ports (congrArg (fun t : State => t.ord.ports) changes :) ?_)
  unfold receiveLockLost
  split
  · exact persists_takeLockLost ..
  · exact .of_pth rfl

theorem settleLaw_receiveSet (tram : BitVec 14) (id : BitVec 12) (n : BitVec 4) (s : State) :
    SettleLaw s (receiveSet tram id n s) := by
  unfold receiveSet
  split
  · exact .checked (.of_ports (by simp))
  · exact .of_blocks rfl rfl

theorem settleLaw_receiveRefuse (tram : BitVec 14) (id : BitVec 12) (n : BitVec 4) (q : BitVec 3) (s : State) :
    SettleLaw s (receiveRefuse tram id n q s) := by
  unfold receiveRefuse
  split
  · exact .of_blocks rfl rfl
  · split
    · exact .checked (.of_ports (by simp))
    · exact .of_blocks rfl rfl

theorem settleLaw_receiveFix (id : BitVec 12) (s : State) : SettleLaw s (receiveFix id s) := by
  unfold receiveFix
  split
  · exact .of_blocks rfl rfl
  · exact settleLaw_takeFix ..

theorem settleLaw_deliver (f : InboundFields) (s : State) : SettleLaw s (deliver f s) := by
  unfold deliver
  split
  · exact settleLaw_receiveAccept ..
  · exact settleLaw_receiveSet ..
  · exact settleLaw_receiveRefuse ..
  · exact settleLaw_receiveLockLost ..
  · exact settleLaw_receiveFix ..
  · exact .of_blocks rfl rfl

theorem settleLaw_lineChange (c : LineChange) (s : State) : SettleLaw s (lineChange c s) := by
  have moved : ∀ d x, Going s (setDecoder d x s) := fun d x => .of_ports rfl (.of_pth rfl)
  have bit : ∀ bits x, SettleLaw s (takeBit bits x s) := fun bits x => by
    unfold takeBit examineFrame
    dsimp only
    repeat' split
    case h_2 => exact (settleLaw_deliver ..).from_ (moved _ _)
    all_goals exact .inl (moved _ _)
  unfold lineChange
  dsimp only
  repeat' split
  exacts [.inl (moved _ _), bit _ _, bit _ _, .inl (moved _ _), bit _ _, bit _ _, .inl (moved _ _)]

theorem slotOf_frameArrives (p q : Port) (frame : List Byte) (s : State) : (frameArrives p frame s).slotOf q = s.slotOf q := by
  unfold frameArrives
  repeat' split
  · rfl
  · exact slotOf_pushReply ..
  · exact slotOf_pushReply ..
  · exact slotOf_modPort (fun _ => by rfl) q
  · rfl

theorem slotOf_byteArrives (p q : Port) (b : Byte) (s : State) : (byteArrives p b s).slotOf q = s.slotOf q := by
  unfold byteArrives
  repeat' split
  case h_3.isFalse => rw [slotOf_frameArrives]; exact slotOf_modPort (fun _ => by rfl) q
  case h_1.isFalse => rfl
  all_goals exact slotOf_modPort (fun _ => by rfl) q

theorem after_pictureClose (w : State) : After w (pictureClose w) := by
  have counted : ∀ n, After w { w with ord.pictureCount := n } := fun n => .of_blocks rfl rfl rfl
  unfold pictureClose
  split
  · exact counted _
  · unfold sendPicture
    exact (((counted 0).trans (after_pushFrame ..)).trans (after_pushFrame ..)).trans (after_pushFrame ..)

theorem after_effort (w : State) : After w (pictureClose (updateSand (effClose w))) :=
  (After.of_blocks (by simp [updateSand]) (by simp [updateSand]) (by simp [updateSand])).trans (after_pictureClose _)

theorem settleLaw_countClose (s t : State) (h : t = countClose s) : SettleLaw s t := by
  obtain ⟨u, isU⟩ : ∃ u, u = dwellCheck (autClose (advancePosition (axlClose (putConfigInForce s)))) := ⟨_, rfl⟩
  have ports : u.ord.ports = s.ord.ports := by
    rw [isU]
    simp
    rfl
  have before : closeBeforeEffort s = startTransmitter s (settleCheck (examineSwitch u)) := by rw [isU]; rfl
  have law : SettleLaw s (closeBeforeEffort s) := by
    rw [before]
    exact (SettleLaw.checked ((SettlesStay.of_ports ports).trans (settlesStay_examineSwitch u))).started s
  obtain ⟨w, isW⟩ : ∃ w, w = closeBeforeEffort s := ⟨_, rfl⟩
  rw [← isW] at law
  rw [h, countClose, ← isW]
  exact law.after (after_effort w)

/-- Every command but a cold reset and a RESTART. -/
theorem exec_settleLaw {c : Instr} {s t : State} (cold : c ≠ .coldReset) (restart : ∀ q tag, c ≠ .restart q tag)
    (h : exec c s = .next t) : SettleLaw s t := by
  rcases instr_cases c with event | ⟨q, tag, rfl⟩ | ⟨p, q, other, rfl⟩
  · have changes := exec_event_changes event h
    cases c with
    | coldReset => exact absurd rfl cold
    | countClose => exact settleLaw_countClose s t (Host.Outcome.next.inj h).symm
    | exchangeTimerExpiry id => cases h; exact .checked (.of_ports (by simp))
    | transmissionCompletion =>
      cases h
      exact .inl (.of_ports (congrArg (fun t : State => t.ord.ports) changes :) (persists_completeTransmission s))
    | accept tram id n => cases h; exact settleLaw_receiveAccept ..
    | setLocked tram id n => cases h; exact settleLaw_receiveSet ..
    | refuse tram id n q => cases h; exact settleLaw_receiveRefuse ..
    | lockLost tram id n => cases h; exact settleLaw_receiveLockLost ..
    | fix id => cases h; exact settleLaw_receiveFix ..
    | planClearCompletion => cases h; exact settleLaw_completeClear s
    | planSealCompletion => cases h; exact settleLaw_completeSeal s
    | inboundLineChange x => cases h; exact settleLaw_lineChange ..
    | frameArrival p frame =>
      cases h
      exact .inl (.of_slots (fun q => slotOf_frameArrives p q frame s) (.of_pth (congrArg State.pth changes :)))
    | orderLinkByteArrival p b =>
      cases h
      exact .inl (.of_slots (fun q => slotOf_byteArrives p q b s) (.of_pth (congrArg State.pth changes :)))
    | orderFrameCutOff p =>
      cases h
      exact .inl (.of_slots (slotOf_modPort fun _ => by rfl) (.of_pth (congrArg State.pth changes :)))
    | outboundFrameSent p =>
      cases h
      exact .inl (.of_slots (slotOf_modPort fun _ => by rfl) (.of_pth (congrArg State.pth changes :)))
    | axlePulse | emergencyInput | buttonSample | buttonStuck | rampStowedChange | handoverTimerExpiry | silenceTimerExpiry
    | vigilanceTimerExpiry | stepExpiry | bellStrokeEnd | hornMinimum | gapEnd | inboundFrameCutOff | inboundGapEnd
    | outboundBitTime =>
      exact .of_blocks (congrArg State.pth changes :) (congrArg (fun t : State => t.ord.ports) changes :)
    | _ => cases event
  · exact absurd rfl (restart q tag)
  · rw [exec_takingCommand p q s other] at h
    exact Host.Outcome.next.inj h ▸ settleLaw_takeOrder p q.tag q.order s

end Sys2Proof.Machine
end

section
/-! PROOF. SETTLE, O36 (R102). -/

namespace Sys2Proof.Machine

theorem exchange_of_pth {s t : State} (h : t.pth = s.pth) : t.exchangeInProgress = s.exchangeInProgress :=
  Bool.eq_iff_iff.mpr ⟨(Persists.of_pth h.symm).exchange, (Persists.of_pth h).exchange⟩

theorem exchange_eq_false_iff {s : State} : s.exchangeInProgress = false
    ↔ ∀ x ∈ s.liveEntries, ∀ j, x.2.point = .junction j → j.state ≠ .asked ∧ j.state ≠ .moving := by
  rw [Bool.eq_false_iff, Ne, exchangeInProgress_iff]
  constructor
  · exact fun none x mem j point => not_or.mp fun on => none ⟨x, mem, j, point, on⟩
  · rintro none ⟨x, mem, j, point, on⟩
    exact on.elim (none x mem j point).1 (none x mem j point).2

theorem settleOutstanding_iff {s : State} {p : Port} : s.settleOutstanding p = true
    ↔ ∃ x, s.slotOf p = some x ∧ x.order = .settle := by
  unfold State.settleOutstanding State.slotOf
  cases (s.port p).slot <;> simp

/-! ### The check, where no exchange is in progress -/

section
variable {u : State} (idle : u.exchangeInProgress = false) {p : Port}
include idle

/-- The port and its list once an outstanding SETTLE has completed (R102). -/
theorem settleCheck_done {x : Slot} (slot : u.slotOf p = some x) (order : x.order = .settle) :
    (settleCheck u).port p = { u.port p with
        slot := none
        outbound := (u.port p).outbound ++ [completionReply x.tag 28 .done
          (.settle (u.jct.lists.get p).ids (u.jct.lists.get p).more)] }
      ∧ (settleCheck u).jct.lists.get p = { ids := [], more := false } :=
  (((settleCompleted_settleCheck u).2 (exchange_eq_false_iff.mp idle)).2 p).2 x slot order

/-- No SETTLE stays outstanding. -/
theorem settleCheck_none : (settleCheck u).settleOutstanding p = false := by
  rw [Bool.eq_false_iff]
  intro out
  cases held : u.settleOutstanding p with
  | true =>
    obtain ⟨x, slot, -⟩ := settleOutstanding_iff.mp out
    obtain ⟨y, slotU, orderU⟩ := settleOutstanding_iff.mp held
    rw [State.slotOf, (settleCheck_done idle slotU orderU).1] at slot
    cases slot
  | false =>
    have same := ((((settleCompleted_settleCheck u).2 (exchange_eq_false_iff.mp idle)).2 p).1 held).1
    rw [State.settleOutstanding, same] at out
    rw [State.settleOutstanding, out] at held
    cases held

end

theorem settleCheck_exchange (u : State) : (settleCheck u).exchangeInProgress = u.exchangeInProgress :=
  exchange_of_pth (settleCheck_pth u)

/-! ### The law at a command -/

section
variable {s t : State} (law : SettleLaw s t)
include law

/-- What becomes of an outstanding SETTLE while an exchange was in progress (R102). -/
theorem SettleLaw.outstanding {p : Port} {x : Slot} (slot : s.slotOf p = some x) (order : x.order = .settle)
    (on : s.exchangeInProgress = true) :
    (t.exchangeInProgress = true → t.slotOf p = some x)
      ∧ (t.exchangeInProgress = false → t.slotOf p = none
          ∧ t.jct.lists.get p = { ids := [], more := false }
          ∧ ∃ ids more, completionReply x.tag 28 .done (.settle ids more) ∈ (t.port p).outbound) := by
  rcases law with going | ⟨u, stay, done⟩
  · exact ⟨fun _ => going.stay p x order slot,
      fun off => absurd (off.symm.trans (going.exchange on)) Bool.false_ne_true⟩
  · have held := stay p x order slot
    have same : t.exchangeInProgress = u.exchangeInProgress :=
      (exchange_of_pth done.pth).trans (settleCheck_exchange u)
    rw [same]
    constructor
    · intro goes
      rw [done.slots, settleCheck, if_pos goes]
      exact held
    · intro idle
      obtain ⟨port, list⟩ := settleCheck_done idle held order
      refine ⟨?_, ?_, (u.jct.lists.get p).ids, (u.jct.lists.get p).more, (done.outbound p).subset ?_⟩
      · rw [done.slots, State.slotOf, port]
      · rw [done.jct, list]
      · rw [port]
        exact List.mem_append_right _ (List.mem_singleton.mpr rfl)

/-- A SETTLE is outstanding only while an exchange is in progress. -/
theorem SettleLaw.lawful (lawful : ∀ p, s.settleOutstanding p = true → s.exchangeInProgress = true) (p : Port)
    (out : t.settleOutstanding p = true) : t.exchangeInProgress = true := by
  obtain ⟨x, slot, order⟩ := settleOutstanding_iff.mp out
  rcases law with going | ⟨u, -, done⟩
  · rcases going.fresh p x order slot with held | on
    · exact going.exchange (lawful p (settleOutstanding_iff.mpr ⟨x, held, order⟩))
    · exact on
  · rw [exchange_of_pth done.pth, settleCheck_exchange]
    by_contra off
    have none := settleCheck_none (Bool.not_eq_true _ ▸ off) (p := p)
    rw [done.slots] at slot
    rw [settleOutstanding_iff.mpr ⟨x, slot, order⟩] at none
    cases none

end

/-! ### The tick, the cold reset and RESTART -/

theorem persists_advanceExchanges (s : State) : Persists s (advanceExchanges s) := by
  unfold advanceExchanges
  cases live : s.liveBank with
  | none => exact .of_pth rfl
  | some b =>
    dsimp only
    refine ⟨liveBank_of_outline (setBank_outline rfl), fun c _ i on => ?_⟩
    by_cases same : c = b
    · subst same
      obtain ⟨j, at_, state⟩ := (Option.any_eq_true _ _).mp on
      obtain ⟨e, entry, junction⟩ := Option.bind_eq_some_iff.mp at_
      have slot : (s.bank c).slots[i]? = some (some e) := Option.join_eq_some_iff.mp entry
      rw [State.exchanging, State.junctionAt, State.entryAt, bank_setBank, List.getElem?_map, slot, Option.map_some,
        Option.map_some, Option.join_some, Option.bind_some, junction?_modJunction, junction]
      exact state
    · rw [State.exchanging, State.junctionAt, State.entryAt, bank_setBank_ne _ _ same]
      exact on

theorem settleLaw_tick (s : State) : SettleLaw s (tick s) := by
  have timers := persists_advanceExchanges s
  have ports : (advanceExchanges s).ord = s.ord := by
    unfold advanceExchanges
    split <;> simp
  obtain ⟨u, isU⟩ : ∃ u, u = advanceExchanges s := ⟨_, rfl⟩
  rw [← isU] at timers ports
  have moved : tick s = { advance s with pending := (advance s).pending ++ dueCommands (advance s) } := rfl
  rw [moved, advance, ← isU]
  refine .inl (.of_slots (fun p => ?_) (timers.trans (.of_banks (fun b => by cases b <;> rfl) rfl)))
  rw [← slotOf_of_ports (congrArg Ord.ports ports :) p]
  cases p <;> rfl

theorem settleOutstanding_coldReset (s : State) (p : Port) : (coldReset s).settleOutstanding p = false := by
  have cold : (coldReset s).ord.ports = (coldValues s).ord.ports := by
    unfold coldReset
    dsimp only
    split <;> simp
  rw [State.settleOutstanding, State.port, cold]
  cases p <;> rfl

theorem slotOf_restartBlocks (s : State) (p : Port) : (restartBlocks s).slotOf p = none := by
  have ports : (restartBlocks s).ord.ports = (ordRestart (pthRestart s)).ord.ports := by simp [restartBlocks, autRestart]
  rw [State.slotOf, State.port, ports]
  cases p <;> rfl

theorem lawful_takeRestart {s : State} (lawful : ∀ p, s.settleOutstanding p = true → s.exchangeInProgress = true) (q : Port)
    (tag : Byte) (p : Port) (out : (takeRestart q tag s).settleOutstanding p = true) :
    (takeRestart q tag s).exchangeInProgress = true := by
  have answered : ∀ r, SettleLaw s (pushReply q r (s.taken q)) := fun r =>
    SettleLaw.after (.inl (going_taken q s)) (after_pushFrame ..)
  rcases takeRestart_cases q tag s with e | ⟨-, x, -, e⟩ | ⟨-, -, e⟩ <;> rw [e] at out ⊢
  · exact lawful p out
  · exact (settleLaw_failOrder ..).lawful lawful p out
  · unfold handleRestart at out ⊢
    split at out
    · next moving => rw [if_pos moving]; exact (answered _).lawful lawful p out
    · obtain ⟨x, slot, -⟩ := settleOutstanding_iff.mp out
      rw [slotOf_restartBlocks] at slot
      cases slot

/-! ### The exchange of a junction ended -/

/-- With no other exchange in progress, the end of a junction's ends the last. -/
theorem idle_of_ended {s : State} {id i : Nat} {b : BankName} {e : Entry} {j : Junction} (has : s.hasJunction id b i e j)
    (others : ∀ y ∈ s.liveEntries, y.1 ≠ i → ∀ k, y.2.point = .junction k → k.state ≠ .asked ∧ k.state ≠ .moving)
    {f : Junction → Junction} (ended : inExchange (f j).state = false) :
    (s.modJunction b i f).exchangeInProgress = false := by
  obtain ⟨live, at_, -⟩ := slot_of_liveJunction has.1
  rw [exchange_eq_false_iff]
  rintro ⟨k, d⟩ mem x point
  have liveT : (s.modJunction b i f).liveBank = some b := (liveBank_of_outline (modJunction_outline ..)).trans live
  simp only [State.liveEntries, liveT] at mem
  have entry := mem_entries.mp mem
  rw [State.modJunction, entryAt_modEntry] at entry
  by_cases here : k = i
  · rw [if_pos ⟨rfl, here⟩, here, at_, Option.map_some, Entry.modJunction, has.2] at entry
    obtain rfl := Option.some.inj entry
    obtain rfl : f j = x := Waypoint.junction.inj point
    exact not_or.mp fun on => Bool.false_ne_true (ended.symm.trans (inExchange_iff.mpr on))
  · rw [if_neg fun h => here h.2] at entry
    refine others (k, d) ?_ here x point
    simp only [State.liveEntries, live]
    exact mem_entries.mpr entry

theorem offerId_get (id : Nat) (x : SettleList) : offerId id x
    = if id ∈ x.ids then x else if x.ids.length < 8 then { ids := x.ids ++ [id], more := x.more }
      else { ids := x.ids, more := true } := rfl

/-- An outstanding SETTLE handed over by the event that ends the last exchange: `u` is left by the event but for the check
of R102, with this list (R101). -/
theorem handedOver {s u t : State} {id i : Nat} {b : BankName} {e : Entry} {j : Junction} (has : s.hasJunction id b i e j)
    (others : ∀ y ∈ s.liveEntries, y.1 ≠ i → ∀ k, y.2.point = .junction k → k.state ≠ .asked ∧ k.state ≠ .moving)
    {f : Junction → Junction} (ended : inExchange (f j).state = false) (pth : u.pth = (s.modJunction b i f).pth)
    (ports : u.ord.ports = s.ord.ports) (completed : settleCompleted u t) {p : Port} {x : Slot}
    (slot : (s.port p).slot = some x) (order : x.order = .settle) :
    (t.port p).slot = none
      ∧ (t.port p).outbound = (s.port p).outbound
          ++ [completionReply x.tag 28 .done (.settle (u.jct.lists.get p).ids (u.jct.lists.get p).more)]
      ∧ t.jct.lists.get p = { ids := [], more := false } := by
  have port : u.port p = s.port p := by rw [State.port, ports, State.port]
  have idle : u.exchangeInProgress = false := (exchange_of_pth pth).trans (idle_of_ended has others ended)
  obtain ⟨done, list⟩ := ((completed.2 (exchange_eq_false_iff.mp idle)).2 p).2 x
    ((congrArg PortContext.slot port :).trans slot) order
  rw [done, ← port]
  exact ⟨rfl, rfl, list⟩

/-- The four reasons of a REFUSE (spec 11.7). -/
theorem reason_of_range {q : BitVec 3} (low : 1 ≤ q.toNat) (high : q.toNat ≤ 4) :
    ∃ r, (q, r) ∈ [((1 : BitVec 3), Reason.occupied), (2, .conflict), (3, .failed), (4, .badLeg)] := by
  have cases_ : q = 1 ∨ q = 2 ∨ q = 3 ∨ q = 4 := by bv_omega
  rcases cases_ with rfl | rfl | rfl | rfl
  · exact ⟨.occupied, by simp⟩
  · exact ⟨.conflict, by simp⟩
  · exact ⟨.failed, by simp⟩
  · exact ⟨.badLeg, by simp⟩

/-- A REFUSE or an expiry while a SETTLE is outstanding, as the one for which it is reported (R101, R102). -/
theorem handedOver_reported {s : State} {id i : Nat} {b : BankName} {e : Entry} {j : Junction} (has : s.hasJunction id b i e j)
    (exchange : j.state = .asked ∨ j.state = .moving)
    (others : ∀ y ∈ s.liveEntries, y.1 ≠ i → ∀ k, y.2.point = .junction k → k.state ≠ .asked ∧ k.state ≠ .moving)
    {command : Instr} (cause : (∃ (tram : BitVec 14) (w : BitVec 12) (q : BitVec 3), tram ≠ 0 ∧ w ≠ 0
          ∧ (tram.toNat : Int) = s.cfg .tramId ∧ w.toNat = id ∧ 1 ≤ q.toNat ∧ q.toNat ≤ 4
          ∧ command = .refuse tram w j.number q)
        ∨ (j.timer ≠ .stopped ∧ command = .exchangeTimerExpiry id))
    {p : Port} {x : Slot} (slot : (s.port p).slot = some x) (order : x.order = .settle) :
    ∃ t, exec command s = .next t ∧ (t.port p).slot = none
      ∧ (t.port p).outbound = (s.port p).outbound ++ [completionReply x.tag 28 .done
          (.settle (offerId id (s.jct.lists.get p)).ids (offerId id (s.jct.lists.get p)).more)]
      ∧ t.jct.lists.get p = { ids := [], more := false } := by
  obtain ⟨y, t, u, idle, done, completed, changes, lists⟩ : ∃ (y : JunctionState) (t u : State), inExchange y = false
      ∧ exec command s = .next t ∧ settleCompleted u t
      ∧ u = { s.withSlot b i (some { e with point := .junction { j with state := y, timer := .stopped } }) with
          flt := u.flt, jct := u.jct }
      ∧ ∀ p, u.jct.lists.get p = offerId id (s.jct.lists.get p) := by
    rcases cause with ⟨tram, w, q, tram_, junction, own, id_, low, high, rfl⟩ | ⟨runs, rfl⟩
    · obtain ⟨r, reason⟩ := reason_of_range low high
      obtain ⟨t, u, done, completed, changes, -, lists⟩ := refusedAndLostJunctionsAreReported s id b i e j has exchange _
        (.refused r) .junctionRefused .notice (.inl ⟨tram, w, q, r, tram_, junction, own, id_, reason, rfl, rfl, rfl, rfl⟩)
      exact ⟨_, t, u, rfl, done, completed, changes, lists⟩
    · obtain ⟨t, u, done, completed, changes, -, lists⟩ := refusedAndLostJunctionsAreReported s id b i e j has exchange _
        .lost .junctionLost .restrict (.inr ⟨runs, rfl, rfl, rfl, rfl⟩)
      exact ⟨_, t, u, rfl, done, completed, changes, lists⟩
  have pth := (congrArg State.pth changes :)
  have ports : u.ord.ports = s.ord.ports := by
    rw [(congrArg State.ord changes :)]
    exact congrArg Ord.ports (setBank_ord ..)
  rw [← modJunction_of_hasJunction has fun j => { j with state := y, timer := .stopped }] at pth
  obtain ⟨free, frames, list⟩ := handedOver has others (f := fun j => { j with state := y, timer := .stopped }) idle pth ports
    completed slot order
  rw [lists] at frames
  exact ⟨t, done, free, frames, list⟩

/-- Settles O36: the order's own rows, the check of R102, and the law of the check at every command. -/
theorem settleHandsTheListOver : Obligations.SettleHandsTheListOver := by
  unfold Obligations.SettleHandsTheListOver
  refine ⟨fun p tag s ready => ?_, settleCompleted_settleCheck, ?_, ?_, fun s t lawful h p out => ?_⟩
  · have handled : ∀ u a, handleSettle p tag (s.taken p) = (u, a) → handleOrder p tag .settle (s.taken p) = (u, a) :=
      fun _ _ h => h
    have slot := slotOf_taken p s p
    have exchange : (s.taken p).exchangeInProgress = s.exchangeInProgress := exchange_of_pth (taken_pth ..)
    refine ⟨fun held => ?_, fun free on => ?_, fun free off => ?_⟩
    · have busy : handleSettle p tag (s.taken p) = (s.taken p, plain .busy) :=
        if_pos (by rw [State.slotBusy, ← State.slotOf, slot]; exact Option.isSome_iff_ne_none.mpr held)
      exact exec_final ready nofun (handled _ _ busy)
    · have free : ¬ (s.taken p).slotBusy p = true := by simpa [State.slotBusy] using free
      have entered : handleSettle p tag (s.taken p) = (enterSlot p tag .settle (s.taken p), acceptedWith .none) := by
        rw [handleSettle, if_neg free, if_pos (exchange.trans (exchangeInProgress_iff.mpr on))]
      refine (exec_accepted ready nofun (handled _ _ entered)).trans (congrArg Host.Outcome.next ?_)
      cases p <;> rfl
    · have free : ¬ (s.taken p).slotBusy p = true := by simpa [State.slotBusy] using free
      have idle : ¬ (s.taken p).exchangeInProgress = true := by
        rw [exchange, exchange_eq_false_iff.mpr off]
        exact Bool.false_ne_true
      have answered : handleSettle p tag (s.taken p)
          = ({ s.taken p with jct.lists := s.jct.lists.set p { ids := [], more := false } },
            doneWith (.settle (s.jct.lists.get p).ids (s.jct.lists.get p).more)) := by
        rw [handleSettle, if_neg free, if_neg idle]
        rfl
      exact exec_final ready nofun (handled _ _ answered)
  · intro s id b i e j p x command ids more has exchange others slot order cause
    have junction? := junction?_of_point has.2
    rcases cause with ⟨tram, w, tram_, junction, own, rfl, rfl, isIds, isMore⟩ | ⟨cause, list⟩
    · have taken : takeSet w.toNat j.number s = s.modJunction b i fun j => { j with state := .locked, timer := .stopped } := by
        simp [takeSet, has.1, junction?, inExchange_iff.mpr exchange]
      have received : exec (.setLocked tram w j.number) s = .next (settleCheck (takeSet w.toNat j.number s)) :=
        congrArg Host.Outcome.next (if_pos (admits_of junction tram_ own))
      obtain ⟨free, frames, list⟩ := handedOver has others (f := fun j => { j with state := .locked, timer := .stopped }) rfl
        (congrArg State.pth taken) (by simp) (settleCompleted_settleCheck _) slot order
      rw [takeSet_jct] at frames
      exact ⟨_, received, free, by rw [isIds, isMore]; exact frames, list⟩
    · have list : ids = (offerId id (s.jct.lists.get p)).ids ∧ more = (offerId id (s.jct.lists.get p)).more := by
        rw [offerId_get]
        repeat' split
        all_goals simp_all
      rw [list.1, list.2]
      exact handedOver_reported has exchange others cause slot order
  · intro c s t p x cold restart h slot order on
    exact (exec_settleLaw cold restart h).outstanding slot order on
  · rcases step_cases h with rfl | ⟨c, rest, h⟩
    · exact (settleLaw_tick s).lawful lawful p out
    · have lawful : ∀ p, ({ s with pending := rest } : State).settleOutstanding p = true →
          ({ s with pending := rest } : State).exchangeInProgress = true := lawful
      by_cases cold : c = .coldReset
      · subst cold
        cases h
        rw [settleOutstanding_coldReset] at out
        cases out
      · by_cases restart : ∃ q tag, c = .restart q tag
        · obtain ⟨q, tag, rfl⟩ := restart
          cases h
          exact lawful_takeRestart lawful q tag p out
        · exact (exec_settleLaw cold (fun q tag h => restart ⟨q, tag, h⟩) h).lawful lawful p out

end Sys2Proof.Machine
end

section
/-! PROOF. Which passage marks an increase of p fires, and in which order (R35, R36). -/

namespace Sys2Proof.Machine

/-! ### The order of marks -/

/-- The place of a mark is before another's, whatever their distances (R36). -/
def placedBefore (x y : Nat × Mark) : Prop :=
  deliveredBefore (0, x.2) (0, y.2)

theorem placedBefore_of_place {x y : Nat × Mark} {a b : Nat × Nat} (hx : x.2.place = some a) (hy : y.2.place = some b)
    (before : a.1 < b.1 ∨ (a.1 = b.1 ∧ a.2 < b.2)) : placedBefore x y := by
  refine .inr ⟨rfl, ?_⟩
  dsimp only
  rw [hx, hy]
  exact before

theorem placedBefore_planEnd {x : Nat × Mark} {a : Nat × Nat} (hx : x.2.place = some a) (d : Nat) :
    placedBefore x (d, .planEnd) := by
  refine .inr ⟨rfl, ?_⟩
  dsimp only
  rw [hx]
  trivial

theorem deliveredBefore_of_le {x y : Nat × Mark} (placed : placedBefore x y) (le : x.1 ≤ y.1) : deliveredBefore x y := by
  rcases Nat.lt_or_eq_of_le le with less | same
  · exact .inl less
  · exact .inr ⟨same, (placed.resolve_left (Nat.lt_irrefl 0)).2⟩

/-! ### Sorting by distance -/

theorem mem_insertMark {x y : Nat × Mark} : ∀ {l : List (Nat × Mark)}, y ∈ insertMark x l ↔ y = x ∨ y ∈ l
  | [] => by simp [insertMark]
  | z :: rest => by
    unfold insertMark
    split
    · simp
    · rw [List.mem_cons, mem_insertMark, List.mem_cons]
      exact or_left_comm

/-- A mark put among sorted marks that it is placed behind. -/
theorem pairwise_insertMark {x : Nat × Mark} : ∀ {l : List (Nat × Mark)}, l.Pairwise deliveredBefore →
    (∀ y ∈ l, placedBefore y x) → (insertMark x l).Pairwise deliveredBefore
  | [], _, _ => List.pairwise_singleton ..
  | z :: rest, sorted, behind => by
    obtain ⟨first, sorted⟩ := List.pairwise_cons.mp sorted
    unfold insertMark
    split
    · next less =>
      refine List.pairwise_cons.mpr ⟨fun y mem => .inl ?_, List.pairwise_cons.mpr ⟨first, sorted⟩⟩
      rcases List.mem_cons.mp mem with rfl | later
      · exact less
      · have le : z.1 ≤ y.1 := (first y later).elim Nat.le_of_lt fun same => Nat.le_of_eq same.1
        omega
    · next notLess =>
      refine List.pairwise_cons.mpr ⟨fun y mem => ?_,
        pairwise_insertMark sorted fun y mem => behind y (List.mem_cons_of_mem _ mem)⟩
      rcases mem_insertMark.mp mem with rfl | later
      · exact deliveredBefore_of_le (behind z List.mem_cons_self) (Nat.not_lt.mp notLess)
      · exact first y later

theorem foldl_insertMark : ∀ (l acc : List (Nat × Mark)), acc.Pairwise deliveredBefore → l.Pairwise placedBefore →
    (∀ y ∈ acc, ∀ x ∈ l, placedBefore y x) →
    (l.foldl (fun acc x => insertMark x acc) acc).Pairwise deliveredBefore
      ∧ ∀ y, y ∈ l.foldl (fun acc x => insertMark x acc) acc ↔ y ∈ acc ∨ y ∈ l
  | [], acc, sorted, _, _ => ⟨sorted, by simp⟩
  | x :: rest, acc, sorted, placed, behind => by
    obtain ⟨first, placed⟩ := List.pairwise_cons.mp placed
    obtain ⟨pairwise, mem⟩ := foldl_insertMark rest (insertMark x acc)
      (pairwise_insertMark sorted fun y mem => behind y mem x List.mem_cons_self) placed fun y memY z memZ =>
        (mem_insertMark.mp memY).elim (fun same => same ▸ first z memZ) fun old => behind y old z (List.mem_cons_of_mem _ memZ)
    refine ⟨pairwise, fun y => ?_⟩
    rw [List.foldl_cons, mem, mem_insertMark, List.mem_cons, or_assoc, or_left_comm]

/-- Marks in the order of their places, sorted by distance, are in the order of R36. -/
theorem sortMarks_spec {l : List (Nat × Mark)} (placed : l.Pairwise placedBefore) :
    (sortMarks l).Pairwise deliveredBefore ∧ ∀ x, x ∈ sortMarks l ↔ x ∈ l := by
  obtain ⟨sorted, mem⟩ := foldl_insertMark l [] .nil placed (by simp)
  exact ⟨sorted, fun x => (mem x).trans (by simp)⟩

/-! ### The marks of the live plan -/

theorem unless_sublist (fired : Bool) (x : Nat × Mark) : (if fired then [] else [x]).Sublist [x] := by
  cases fired
  · exact .refl _
  · exact List.nil_sublist _

/-- The marks of a junction and of a stop, fired or not (R35). -/
theorem entryMarks_sublist (s : State) (i : Nat) (e : Entry) : ∃ a b c d, (s.entryMarks i e).Sublist
      [(a, .request i), (b, .approach i), (c, .stand i), (d, .clearance i)]
    ∨ (s.entryMarks i e).Sublist [(a, .window i)] := by
  unfold State.entryMarks
  cases e.point with
  | junction j =>
    refine ⟨requestPoint e j, s.approachStart e, s.standStart e, s.clearance e, .inl ?_⟩
    exact (((unless_sublist ..).append (unless_sublist ..)).append (unless_sublist ..)).append (unless_sublist ..)
  | stop z => exact ⟨s.windowEnd e, 0, 0, 0, .inr (unless_sublist ..)⟩

theorem place_of_entryMarks {s : State} {i : Nat} {e : Entry} {x : Nat × Mark} (mem : x ∈ s.entryMarks i e) :
    ∃ n, x.2.place = some (i, n) := by
  obtain ⟨a, b, c, d, junction | stop⟩ := entryMarks_sublist s i e
  · have mem := junction.subset mem
    simp only [List.mem_cons, List.not_mem_nil, or_false] at mem
    rcases mem with rfl | rfl | rfl | rfl
    exacts [⟨0, rfl⟩, ⟨1, rfl⟩, ⟨2, rfl⟩, ⟨3, rfl⟩]
  · have same := List.mem_singleton.mp (stop.subset mem)
    exact ⟨0, same ▸ rfl⟩

theorem entryMarks_placed (s : State) (i : Nat) (e : Entry) : (s.entryMarks i e).Pairwise placedBefore := by
  obtain ⟨a, b, c, d, junction | stop⟩ := entryMarks_sublist s i e
  · refine List.Pairwise.sublist junction ?_
    have before : ∀ {x y : Nat × Mark} {m n : Nat}, x.2.place = some (i, m) → y.2.place = some (i, n) → m < n →
        placedBefore x y := fun hx hy less => placedBefore_of_place hx hy (.inr ⟨rfl, less⟩)
    simp only [List.pairwise_cons, List.mem_cons, List.not_mem_nil, or_false, forall_eq_or_imp, forall_eq]
    exact ⟨⟨before rfl rfl (by decide), before rfl rfl (by decide), before rfl rfl (by decide)⟩,
      ⟨before rfl rfl (by decide), before rfl rfl (by decide)⟩, before rfl rfl (by decide), by simp⟩
  · exact List.Pairwise.sublist stop (List.pairwise_singleton ..)

/-- The unfired marks of the live plan, in the order of their places. -/
def State.planMarks (s : State) : List (Nat × Mark) :=
  s.liveEntries.flatMap (fun x => s.entryMarks x.1 x.2) ++ s.endMarks

theorem planMarks_placed (s : State) : s.planMarks.Pairwise placedBefore := by
  have sorted : s.liveEntries.Pairwise fun x y => x.1 < y.1 := by
    unfold State.liveEntries
    split
    · exact entriesFrom_pairwise ..
    · exact .nil
  refine List.pairwise_append.mpr ⟨List.pairwise_flatMap.mpr ⟨fun x _ => entryMarks_placed s x.1 x.2,
    sorted.imp fun less a memA b memB => ?_⟩, ?_, fun x memX y memY => ?_⟩
  · obtain ⟨m, placeA⟩ := place_of_entryMarks memA
    obtain ⟨n, placeB⟩ := place_of_entryMarks memB
    exact placedBefore_of_place placeA placeB (.inl less)
  · unfold State.endMarks
    split
    · exact .nil
    · split
      · exact .nil
      · exact List.pairwise_singleton ..
  · obtain ⟨z, -, mark⟩ := List.mem_flatMap.mp memX
    obtain ⟨n, place⟩ := place_of_entryMarks mark
    unfold State.endMarks at memY
    split at memY
    · cases memY
    · split at memY
      · cases memY
      · rw [List.mem_singleton.mp memY]
        exact placedBefore_planEnd place _

theorem mem_entryMarks {s : State} {i d : Nat} {e : Entry} {m : Mark} : (d, m) ∈ s.entryMarks i e
    ↔ (∃ j, e.point = .junction j ∧ ((j.firedRequest = false ∧ (d, m) = (e.distance - j.lead, .request i))
          ∨ (j.firedApproach = false ∧ (d, m) = (e.distance - s.cfgNat .approachLen, .approach i))
          ∨ (j.firedStand = false ∧ (d, m) = (e.distance - s.cfgNat .standLen, .stand i))
          ∨ (j.firedClearance = false ∧ (d, m) = (min 16777215 (e.distance + s.cfgNat .tramLen), .clearance i))))
      ∨ ∃ z, e.point = .stop z ∧ z.firedWindow = false
          ∧ (d, m) = (min 16777215 (e.distance + s.cfgNat .stopWindow), .window i) := by
  have listed : ∀ (fired : Bool) (x : Nat × Mark), (d, m) ∈ (if fired then [] else [x]) ↔ fired = false ∧ (d, m) = x :=
    fun fired x => by cases fired <;> simp
  unfold State.entryMarks
  cases point : e.point with
  | junction j =>
    simp only [List.mem_append, listed, Waypoint.junction.injEq, exists_eq_left', reduceCtorEq, false_and, exists_false,
      or_false, or_assoc]
    rfl
  | stop z =>
    simp only [listed, Waypoint.stop.injEq, exists_eq_left', reduceCtorEq, false_and, exists_false, false_or]
    rfl

/-- An entry that stands at a given index. -/
theorem entry_at_index {s : State} {b : BankName} {k : Nat} {β : Type} {isPart unfired dist : Entry → β → Prop} :
    (∃ i e, s.entryAt b i = some e ∧ ∃ j, isPart e j ∧ unfired e j ∧ dist e j ∧ k = i)
      ↔ ∃ e j, s.entryAt b k = some e ∧ isPart e j ∧ unfired e j ∧ dist e j :=
  ⟨fun ⟨_, e, at_, j, part, un, far, same⟩ => ⟨e, j, same ▸ at_, part, un, far⟩,
    fun ⟨e, j, at_, part, un, far⟩ => ⟨k, e, at_, j, part, un, far, rfl⟩⟩

section
variable {s : State} {b : BankName} (live : s.liveBank = some b)
include live

theorem mem_liveEntries {i : Nat} {e : Entry} : (i, e) ∈ s.liveEntries ↔ s.entryAt b i = some e := by
  simp only [State.liveEntries, live, mem_entries]

/-- The marks listed are the unfired ones of R35. -/
theorem mem_planMarks {d : Nat} {m : Mark} : (d, m) ∈ s.planMarks ↔ s.unfiredMark b d m := by
  have ofEntry : (d, m) ∈ s.liveEntries.flatMap (fun x => s.entryMarks x.1 x.2)
      ↔ ∃ i e, s.entryAt b i = some e ∧ (d, m) ∈ s.entryMarks i e := by
    rw [List.mem_flatMap]
    exact ⟨fun ⟨⟨i, e⟩, mem, mark⟩ => ⟨i, e, (mem_liveEntries live).mp mem, mark⟩,
      fun ⟨i, e, at_, mark⟩ => ⟨(i, e), (mem_liveEntries live).mpr at_, mark⟩⟩
  have ofEnd : (d, m) ∈ s.endMarks ↔ s.pth.firedEnd = false ∧ ∃ x, s.liveEntries.getLast? = some x
      ∧ (d, m) = (min 16777215 (x.2.distance + s.cfgNat .tramLen), .planEnd) := by
    unfold State.endMarks
    cases s.pth.firedEnd with
    | true => simp
    | false =>
      cases s.liveEntries.getLast? with
      | none => simp
      | some x =>
        exact ⟨fun mem => ⟨rfl, x, rfl, List.mem_singleton.mp mem⟩, fun ⟨_, y, same, mark⟩ => by
          cases same
          exact List.mem_singleton.mpr mark⟩
  have entries : s.liveEntries = (s.bank b).entries := by simp only [State.liveEntries, live]
  rw [State.planMarks, List.mem_append, ofEntry, ofEnd, entries]
  simp only [mem_entryMarks]
  cases m with
  | planEnd =>
    simp only [State.unfiredMark, Prod.mk.injEq, reduceCtorEq, and_false, or_false, exists_false, and_true, false_or]
    exact ⟨fun ⟨unfired, x, last, dist⟩ => ⟨unfired, x.1, x.2, last, dist⟩,
      fun ⟨unfired, i, e, last, dist⟩ => ⟨unfired, (i, e), last, dist⟩⟩
  | _ k =>
    simp only [State.unfiredMark, Prod.mk.injEq, Mark.request.injEq, Mark.approach.injEq, Mark.stand.injEq,
      Mark.clearance.injEq, Mark.window.injEq, reduceCtorEq, and_false, or_false, false_or, exists_false]
    exact entry_at_index

/-- An increase of p fires the marks that R36 names. -/
theorem marksFired_fireMarks : marksFired b s (fireMarks s) := by
  obtain ⟨sorted, mem⟩ := sortMarks_spec ((planMarks_placed s).filter fun x => decide (x.1 ≤ s.pth.p))
  refine ⟨_, sorted, fun d m => ?_, ?_⟩
  · rw [mem, List.mem_filter, mem_planMarks live, decide_eq_true_eq]
  · simp only [fireMarks, live, State.dueMarks, List.foldl_map]
    rfl

end

end Sys2Proof.Machine
end

section
/-! PROOF. The position at a count close, O9 (R34 to R37). -/

namespace Sys2Proof.Machine

/-! ### What passages leave of PTH -/

/-- PTH without its entries and without what the plan end sets. -/
def State.course (s : State) : Pth :=
  { s.outline with firedEnd := false, planEnd := false }

theorem fireMark_course (b : BankName) (s : State) (m : Mark) : (fireMark b s m).course = s.course := by
  by_cases planEnd : m = .planEnd
  · subst planEnd
    rfl
  · rw [State.course, fireMark_outline planEnd, State.course]

theorem fireMarks_course (s : State) : (fireMarks s).course = s.course := by
  unfold fireMarks
  split
  · rfl
  · exact foldl_keeps (g := State.course) (fun t m => fireMark_course _ t m) _ s

theorem fields_of_course {s t : State} (h : t.course = s.course) : t.pth.p = s.pth.p ∧ t.pth.rem = s.pth.rem
    ∧ t.pth.standby = s.pth.standby ∧ t.pth.pendingSwitch = s.pth.pendingSwitch ∧ t.pth.opTicks = s.pth.opTicks :=
  ⟨(congrArg Pth.p h :), (congrArg Pth.rem h :), (congrArg Pth.standby h :), (congrArg Pth.pendingSwitch h :),
    (congrArg Pth.opTicks h :)⟩

/-- A move leaves PTH's course but for p. -/
theorem moveTo_course (p : Nat) (s : State) : (moveTo p s).course = ({ s with pth.p := p } : State).course := by
  rcases moveTo_cases p s with ⟨-, e⟩ | ⟨-, e⟩ <;> rw [e]
  exact fireMarks_course _

/-- A move that is no increase, or one without a live plan, fires nothing (R36, R37). -/
theorem moveTo_quiet {p : Nat} {s : State} (quiet : p ≤ s.pth.p ∨ s.liveBank = none) :
    moveTo p s = { s with pth.p := p } := by
  rcases moveTo_cases p s with ⟨increase, e⟩ | ⟨-, e⟩ <;> rw [e]
  exact fireMarks_of_noPlan (quiet.resolve_left (Nat.not_le.mpr increase))

/-- An increase fires the marks that R36 names. -/
theorem moveTo_fires {p : Nat} {s : State} {b : BankName} (live : s.liveBank = some b) (increase : s.pth.p < p) :
    marksFired b { s with pth.p := p } (moveTo p s) := by
  rcases moveTo_cases p s with ⟨-, e⟩ | ⟨notMore, -⟩
  · rw [e]
    exact marksFired_fireMarks live
  · omega

/-! ### The count close after the position -/

theorem dwellCheck_stp (s : State) : (dwellCheck s).stp = { s.stp with dwell := (dwellCheck s).stp.dwell } := by
  unfold dwellCheck
  split <;> rfl

theorem endKeyLost_snd (s : State) : (endKeyLost s).snd.chime = s.snd.chime ∧ (s.aut.keyLost = false → (endKeyLost s).snd = s.snd) := by
  rcases endKeyLost_cases s with ⟨c, -, lost, -, e⟩ | ⟨-, e⟩ <;> rw [e]
  · refine ⟨?_, fun kept => absurd (lost.symm.trans kept) Bool.false_ne_true.symm⟩
    rw [offerAuthority, forceLetGo_changes]
    rfl
  · exact ⟨rfl, fun _ => rfl⟩

/-- What AUT and STP's check leave of the state after PTH's advance (`w`). -/
theorem beforeSwitch_of_advance {w v : State} (made : v = dwellCheck (autClose w)) :
    v.pth = w.pth ∧ v.loop = w.loop ∧ v.jct = w.jct ∧ v.stp = { w.stp with dwell := v.stp.dwell } ∧ v.flt = w.flt
      ∧ v.snd.chime = w.snd.chime ∧ (w.aut.keyLost = false → v.snd = w.snd) := by
  subst made
  obtain ⟨chime, kept⟩ := endKeyLost_snd w
  have stp := dwellCheck_stp (autClose w)
  rw [autClose_stp] at stp
  refine ⟨by simp, by simp, by simp, stp, by simp, ?_, fun held => ?_⟩
  · rw [dwellCheck_snd, autClose, reviseVigilance_snd, chime]
  · rw [dwellCheck_snd, autClose, reviseVigilance_snd, kept held]

/-- Without a pending switch the examination of its conditions does nothing, and the transmitter then begins (R27, R111). -/
theorem countClose_of_noSwitch {s : State} (none_ : s.beforeSwitch.pth.pendingSwitch = false) :
    (countClose s).pth = s.beforeSwitch.pth
      ∧ (countClose s).loop = startSending s.loop.queue s.beforeSwitch.loop ∧ (countClose s).stp = s.beforeSwitch.stp := by
  have examined : examineSwitch s.beforeSwitch = s.beforeSwitch :=
    if_neg fun h => Bool.false_ne_true (none_.symm.trans h.1)
  have closed : closeBeforeEffort s = startTransmitter s (settleCheck s.beforeSwitch) := by
    rw [closeBeforeEffort, ← State.beforeSwitch, examined]
  obtain ⟨v, isV⟩ : ∃ v, v = s.beforeSwitch := ⟨_, rfl⟩
  rw [countClose_pth, countClose_loop, countClose_stp, closed, ← isV]
  simp [startTransmitter]

/-- PTH's advance, by R34, R36 and R37. -/
theorem advancePosition_spec (a : State) :
    (advancePosition a).pth.p = (advanced a).1 ∧ (advancePosition a).pth.rem = (advanced a).2
      ∧ (advancePosition a).pth.pendingSwitch = a.pth.pendingSwitch
      ∧ ((advanced a).1 ≤ a.pth.p ∨ a.liveBank = none →
          advancePosition a = { a with pth.p := (advanced a).1, pth.rem := (advanced a).2 })
      ∧ ∀ b, a.liveBank = some b → a.pth.p < (advanced a).1 →
          marksFired b { a with pth.p := (advanced a).1, pth.rem := (advanced a).2 } (advancePosition a) := by
  obtain ⟨p, rem, -, pending, -⟩ := fields_of_course (moveTo_course (advanced a).1 { a with pth.rem := (advanced a).2 })
  exact ⟨p, rem, pending, fun quiet => moveTo_quiet quiet, 
    fun b live increase => moveTo_fires (s := { a with pth.rem := (advanced a).2 }) live increase⟩

/-- Settles O9: PTH's advance by its rules, and the rest of the count close leaves PTH and LOOP. -/
theorem positionAdvancesWithThePulses : Obligations.PositionAdvancesWithThePulses := by
  unfold Obligations.PositionAdvancesWithThePulses
  intro s
  refine ⟨countClose s, rfl, fun v isV => ?_⟩
  obtain ⟨a, isA⟩ : ∃ a, a = axlClose (putConfigInForce s) := ⟨_, rfl⟩
  have made : v = dwellCheck (autClose (advancePosition a)) := by rw [isV, State.beforeSwitch, isA]
  have pthA : a.pth = s.pth := by rw [isA, axlClose_pth, putConfigInForce_pth]
  have liveA : a.liveBank = s.liveBank := liveBank_of_outline (outline_of_pth pthA)
  have autA : a.aut = s.aut := by rw [isA, axlClose_aut, putConfigInForce_aut]
  have loopA : a.loop = s.loop := by rw [isA, axlClose_loop, putConfigInForce_loop]
  have jctA : a.jct = s.jct := by rw [isA, axlClose_jct, putConfigInForce_jct]
  have stpA : a.stp = s.stp := by rw [isA, axlClose_stp, putConfigInForce_stp]
  have sndA : a.snd = s.snd := by rw [isA, axlClose_snd, putConfigInForce_snd]
  have record : (countClose s).axl.record = a.axl.record := by
    rw [← beforeAuthority_record, beforeAuthority, ← isA, advancePosition_axl]
  have cfg : ((countClose s).cfg .pulseDist).toNat = a.cfgNat .pulseDist := by
    rw [← beforeAuthority_cfg, beforeAuthority, ← isA, State.cfg, advancePosition_ord]
    rfl
  obtain ⟨p, rem, pending, quiet, fires⟩ := advancePosition_spec a
  obtain ⟨pth, loop, jct, stp, flt, chime, snd⟩ := beforeSwitch_of_advance made
  rw [advancePosition_aut, autA] at snd
  rw [record, cfg]
  refine ⟨fun n travel isN isTravel => ?_, fun stays => ?_, fun b live increase => ?_, fun none_ => ?_⟩
  · subst isN isTravel
    rw [pth, p, rem, ← pthA]
    unfold advanced
    dsimp only
    split
    · exact ⟨rfl, rfl⟩
    · split <;> exact ⟨rfl, rfl⟩
  · rw [pth, p, ← pthA, ← liveA] at stays
    have same := quiet stays
    rw [pth, loop, jct, chime, p, rem, same, ← pthA, ← loopA, ← jctA, ← sndA, ← stpA]
    rw [same] at stp snd
    exact ⟨rfl, rfl, rfl, stp, rfl, snd⟩
  · rw [pth, p, ← pthA] at increase
    have config : a.ord.config = (countClose s).ord.config := by
      rw [(countClose_sameConfig s).1, isA, axlClose_ord]
    refine ⟨{ a with pth.p := (advanced a).1, pth.rem := (advanced a).2 }, advancePosition a, ?_, loopA, jctA, stpA, sndA,
      config, fires b (liveA.trans live) increase, pth, loop, jct, stp, flt, chime, snd⟩
    rw [pth, p, rem, ← pthA]
  · have noSwitch : s.beforeSwitch.pth.pendingSwitch = false := by rw [← isV, pth, pending, pthA, none_]
    obtain ⟨pthT, loopT, stpT⟩ := countClose_of_noSwitch noSwitch
    rw [pthT, loopT, stpT, ← isV]
    exact ⟨rfl, startSending_begun _ _, rfl⟩

end Sys2Proof.Machine
end

section
/-! PROOF. SHIFT, and what a request point, an approach start and a stand start do: O10 (R36, R37, R40, R89, R98). -/

namespace Sys2Proof.Machine

/-! ### A mark of one entry fired -/

section
variable {u : State} {b : BankName} {i : Nat} {e : Entry} {j : Junction} (at_ : u.entryAt b i = some e)
  (point : e.point = .junction j)
include at_ point

/-- A request point reached: a WAITING entry with nothing due makes its REQUEST (R89). -/
theorem passRequestPoint_of_entryAt : passRequestPoint b i u
    = if j.state = .waiting ∧ j.due = [] then makeOffer (makeRequest e.id j u) b i u else u := by
  unfold passRequestPoint
  rw [at_]
  dsimp only
  rw [junction?_of_point point]

/-- What a junction's REQUEST for its first passage leaves (R89, R90). -/
theorem passRequestPoint_asks (waiting : j.state = .waiting) (nothing : j.due = []) {m : Telegram}
    (telegram : m = { kind := .request j.leg, tram := u.cfgNat .tramId, junction := e.id, number := j.number + 1 })
    (w : State) (passed : w = passRequestPoint b i u) :
    w = { u with pth := w.pth, loop := w.loop }
      ∧ if u.loop.queue.length < 8 ∧ ∀ q ∈ u.loop.queue, q.telegram.junction ≠ e.id then
          w.loop = { u.loop with
              queue := u.loop.queue ++ [{ telegram := m, bank := b, index := i, entryStands := true }] }
            ∧ w.pth = (u.withSlot b i (some { e with point := .junction { j with
                state := .asked, number := j.number + 1, timer := .stopped } })).pth
        else w.loop = u.loop ∧ w.pth = (u.withSlot b i (some { e with point := .junction { j with due := [m] } })).pth := by
  have made : makeRequest e.id j u = m := telegram.symm
  have isRequest_ : isRequest m = true := by rw [telegram]; rfl
  have junction : m.junction = e.id := by rw [telegram]
  have number : m.number = j.number + 1 := by rw [telegram]
  have due : j.due ++ [m] = [m] := by rw [nothing, List.nil_append]
  rw [passRequestPoint_of_entryAt at_ point, if_pos ⟨waiting, nothing⟩, made, makeOffer_request isRequest_, junction,
    modJunction_of_entryAt _ at_ point, modJunction_of_entryAt _ at_ point, askedWith, number, due] at passed
  by_cases free : u.loop.queue.length < 8 ∧ ∀ q ∈ u.loop.queue, q.telegram.junction ≠ e.id
  · rw [if_pos free] at passed ⊢
    rw [passed]
    cases b <;> exact ⟨rfl, rfl, rfl⟩
  · rw [if_neg free] at passed ⊢
    rw [passed]
    cases b <;> exact ⟨rfl, rfl, rfl⟩

end

/-- SETTLE's check does not depend on LOOP (R102). -/
theorem startTransmitter_settleCheck (s w : State) : startTransmitter s (settleCheck w)
    = settleCheck { w with loop := startSending s.loop.queue w.loop } := by
  have exchange : ({ w with loop := startSending s.loop.queue w.loop } : State).exchangeInProgress = w.exchangeInProgress :=
    exchange_of_pth rfl
  cases on : w.exchangeInProgress with
  | true => rw [settleCheck, if_pos on, settleCheck, if_pos (exchange.trans on)]; rfl
  | false => rw [settleCheck_eq on, settleCheck_eq (exchange.trans on)]; rfl

/-! ### SHIFT (R40) -/

/-- A position clamped to its range. -/
theorem toNat_clampInt_position (n : Int) : ((clampInt 0 maxPosition n).toNat : Int) = max 0 (min 16777215 n) :=
  Int.toNat_of_nonneg (le_max_left _ _)

theorem handleShift_refused {x : BitVec 16} {s : State} (refused : x.toInt < -5000 ∨ 5000 < x.toInt ∨ s.standstill = false) :
    handleShift x s = (s, plain .refused) := by
  unfold handleShift signed16
  dsimp only
  by_cases outside : x.toInt < -5000 ∨ 5000 < x.toInt
  · rw [if_pos outside]
  · have moving : (!s.standstill) = true := by
      rw [(or_assoc.mpr refused).resolve_left outside]
      rfl
    rw [if_neg outside, if_pos moving]

theorem handleShift_moves {x : BitVec 16} {s : State} (taken : ¬ (x.toInt < -5000 ∨ 5000 < x.toInt ∨ s.standstill = false)) :
    ∃ n : Nat, (n : Int) = max 0 (min 16777215 (s.pth.p + x.toInt))
      ∧ handleShift x s = (startTransmitter s (settleCheck (moveTo n s)), doneWith (.shift n)) := by
  obtain ⟨low, high, moving⟩ := not_or.mp taken |>.imp_right not_or.mp
  refine ⟨_, toNat_clampInt_position _, ?_⟩
  unfold handleShift signed16
  dsimp only
  rw [if_neg (not_or.mpr ⟨low, high⟩), if_neg (by simpa using moving)]

/-- What a move with SETTLE's check and the transmitter's start leaves (R36, R37, R102, R111). -/
theorem moved_spec {s t : State} {n : Nat} (made : t = startTransmitter s (settleCheck (moveTo n s))) :
    t.pth.p = n ∧ t.pth.rem = s.pth.rem ∧ t.eff = s.eff ∧ t.aut = s.aut ∧ t.axl = s.axl
      ∧ (n ≤ s.pth.p → t.pth = { s.pth with p := n } ∧ t.loop = s.loop ∧ t.snd = s.snd ∧ t.stp = s.stp ∧ t.flt = s.flt)
      ∧ ∀ b, s.liveBank = some b → s.pth.p < n → ∃ w y, marksFired b { s with pth.p := n } w
          ∧ transmitterBegun s.loop.queue w.loop y ∧ t = settleCheck { w with loop := y } := by
  have pth : t.pth = (moveTo n s).pth := by rw [made]; simp [startTransmitter]
  obtain ⟨p, rem, -⟩ := fields_of_course (moveTo_course n s)
  refine ⟨by rw [pth, p], by rw [pth, rem], ?_, ?_, ?_, fun less => ?_, fun b live increase => ?_⟩
  · rw [made]; simp [startTransmitter]
  · rw [made]; simp [startTransmitter]
  · rw [made]; simp [startTransmitter]
  · have same := moveTo_quiet (s := s) (.inl less)
    rw [made, same]
    refine ⟨by simp [startTransmitter], ?_, by simp [startTransmitter], by simp [startTransmitter], by simp [startTransmitter]⟩
    rw [startTransmitter, settleCheck_loop]
    exact startSending_same s.loop
  · exact ⟨moveTo n s, _, moveTo_fires live increase, startSending_begun _ _, made.trans (startTransmitter_settleCheck ..)⟩

/-- Settles O10: SHIFT's rows, and the three passages of a junction. -/
theorem shiftMovesThePosition : Obligations.ShiftMovesThePosition := by
  unfold Obligations.ShiftMovesThePosition
  constructor
  · intro p tag x s ready
    split
    · next refused => exact exec_final ready nofun (handleShift_refused (s := s.taken p) refused)
    · next moves =>
      obtain ⟨n, value, handled⟩ := handleShift_moves (s := s.taken p) moves
      obtain ⟨t, made⟩ : ∃ t, t = startTransmitter (s.taken p) (settleCheck (moveTo n (s.taken p))) := ⟨_, rfl⟩
      obtain ⟨pos, rem, eff, aut, axl, quiet, fires⟩ := moved_spec made
      rw [← made] at handled
      rw [← pos] at handled value quiet fires
      refine ⟨_, exec_final ready nofun handled, value, rem, ?_, eff, aut, axl, quiet, fun b live increase => ?_⟩
      · rw [sent_outbound, List.getLast?_concat]
        rfl
      · obtain ⟨w, y, fired, begun, same⟩ := fires b live increase
        exact ⟨w, y, fired, begun, congrArg (fun t : State => t.sent p _) same⟩
  · intro u b i e j live at_ point
    have marked : ∀ f : Junction → Junction, u.modJunction b i f = u.withSlot b i (some { e with point := .junction (f j) }) :=
      fun f => modJunction_of_entryAt f at_ point
    refine ⟨fun w made => ?_, fun w made => ?_, marked _⟩
    · rw [fireMark, marked] at made
      have at1 := entryAt_withSlot_same { e with point := .junction { j with firedRequest := true } } at_
      constructor
      · intro ignored
        rw [made, passRequestPoint_of_entryAt at1 rfl, if_neg]
        exact fun both => ignored.elim (· both.1) (· both.2)
      · intro waiting nothing m telegram
        obtain ⟨changes, offered⟩ := passRequestPoint_asks at1 rfl (j := { j with firedRequest := true }) waiting nothing
          (m := m) (by rw [telegram]; cases b <;> rfl) w made
        rw [withSlot_loop, withSlot_withSlot, withSlot_withSlot] at offered
        refine ⟨changes.trans ?_, offered⟩
        cases b <;> rfl
    · rw [fireMark, marked] at made
      have at1 := entryAt_withSlot_same { e with point := .junction { j with firedApproach := true } } at_
      obtain ⟨v, isV⟩ : ∃ v, v = u.withSlot b i (some { e with point := .junction { j with firedApproach := true } }) := ⟨_, rfl⟩
      have snd : v.snd = u.snd := by rw [isV, State.withSlot, setBank_snd]
      rw [← isV] at made at1 ⊢
      have passed : passApproach b i v = if j.leg = .straight then v else askSound 3 v := by
        unfold passApproach State.junctionAt
        rw [at1]
        rfl
      rw [made, passed, ← snd]
      by_cases straight : j.leg = .straight
      · rw [if_pos straight]
        exact ⟨rfl, fun _ => rfl, fun other => absurd straight other⟩
      · rw [if_neg straight]
        exact ⟨rfl, fun same => absurd same straight, fun _ => ⟨rfl, requestOn_asked .bell v.snd.night 3 v.snd.bell⟩⟩

end Sys2Proof.Machine
end

section
/-! PROOF. A junction given up: its CANCEL or RELEASE made and offered (R90, R99, R110). -/

namespace Sys2Proof.Machine

/-! ### Nothing due -/

/-- With nothing due there is nothing to offer again. -/
theorem dueHeads_nil {s : State} (nothing : ∀ b i e j, s.entryAt b i = some e → e.point = .junction j → j.due = []) :
    s.dueHeads = [] := by
  refine List.eq_nil_iff_forall_not_mem.mpr fun q mem => ?_
  obtain ⟨e, j, head⟩ := dueHead_of_mem mem
  have due := head.head
  rw [nothing _ _ e j head.entry head.point] at due
  cases due

theorem due_of_nothingDue {s : State} (nothing : s.nothingDue) {b : BankName} {i : Nat} {e : Entry} {j : Junction}
    (at_ : s.entryAt b i = some e) (point : e.point = .junction j) : j.due = [] := by
  have ofBank : ∀ b, (s.bank b).entries.all (fun x => (x.2.junction?.bind fun j => j.due.head?).isNone) = true := fun b => by
    cases b
    · exact nothing.1
    · exact nothing.2
  have none_ := List.all_eq_true.mp (ofBank b) (i, e) (mem_entries.mpr at_)
  simpa [junction?_of_point point] using none_

theorem entryAt_of_pth {s t : State} (h : t.pth = s.pth) (b : BankName) (i : Nat) : t.entryAt b i = s.entryAt b i := by
  rw [State.entryAt, bank_of_pth h, State.entryAt]

/-! ### The offer of a give-up -/

section
variable {s : State} {m : Telegram} {b : BankName} {i : Nat} (giveUp : isRequest m = false)
include giveUp

/-- A give-up that LOOP takes. -/
theorem makeOffer_taken (free : s.loop.queue.length < 8) (other : ∀ q ∈ s.loop.queue, q.telegram.junction ≠ m.junction) :
    makeOffer m b i s = { s with
      loop.queue := s.loop.queue ++ [{ telegram := m, bank := b, index := i, entryStands := true }] } := by
  have noMerge : ¬ (m.kind = .cancel ∧ s.loop.mergeable.any (isRequestFor m.junction) = true) := by
    rintro ⟨-, merges⟩
    obtain ⟨q, mem, same⟩ := List.any_eq_true.mp merges
    simp only [isRequestFor, Bool.and_eq_true, beq_iff_eq] at same
    exact other q (mem_of_mergeable mem) same.2
  unfold makeOffer
  rw [offerTelegram_of_noMerge noMerge, if_pos ⟨free, other⟩]
  dsimp only
  rw [afterTaken, if_neg (by rw [giveUp]; exact Bool.false_ne_true)]
  rfl

omit giveUp in
/-- A give-up that LOOP does not take is due. -/
theorem makeOffer_notTaken (noMerge : ¬ (m.kind = .cancel ∧ s.loop.mergeable.any (isRequestFor m.junction) = true))
    (notFree : ¬ (s.loop.queue.length < 8 ∧ ∀ q ∈ s.loop.queue, q.telegram.junction ≠ m.junction)) :
    makeOffer m b i s = s.modJunction b i fun j => { j with due := j.due ++ [m] } := by
  unfold makeOffer
  rw [offerTelegram_of_noMerge noMerge, if_neg notFree]

omit giveUp in
/-- A CANCEL that merges with its REQUEST: the two are gone and the due heads offered again (R110). -/
theorem makeOffer_merged (cancel : m.kind = .cancel) (merges : s.loop.mergeable.any (isRequestFor m.junction) = true) :
    makeOffer m b i s = reoffer { s with loop.queue := s.loop.withoutRequest m.junction } := by
  unfold makeOffer offerTelegram
  rw [if_pos ⟨cancel, merges⟩]

end

theorem eraseP_middle {p : QueuedTelegram → Bool} {q : QueuedTelegram} {y : List QueuedTelegram} (found : p q = true) :
    ∀ {x : List QueuedTelegram}, (∀ r ∈ x, p r = false) → (x ++ q :: y).eraseP p = x ++ y
  | [], _ => by simp [found]
  | r :: x, none_ => by
    have first := none_ r List.mem_cons_self
    rw [List.cons_append, List.eraseP_cons_of_neg (by simp [first]),
      eraseP_middle found fun r mem => none_ r (List.mem_cons_of_mem _ mem), List.cons_append]

/-- The REQUEST that a CANCEL takes from the queue (R110). -/
theorem withoutRequest_of {l : Loop} {x y : List QueuedTelegram} {q : QueuedTelegram} {id : Nat}
    (queue : l.queue = x ++ q :: y) (request : isRequest q.telegram = true) (for_ : q.telegram.junction = id)
    (none_ : ∀ r ∈ x, r.telegram.junction ≠ id) (waits : x = [] → ∀ n, l.transmitter ≠ .sending n) :
    l.mergeable.any (isRequestFor id) = true ∧ l.withoutRequest id = x ++ y := by
  have found : isRequestFor id q = true := by simp [isRequestFor, request, for_]
  have before : ∀ r ∈ x, isRequestFor id r = false := fun r mem => by simp [isRequestFor, none_ r mem]
  have sending : l.isSending = true → x ≠ [] := fun on empty => by
    unfold Loop.isSending at on
    split at on
    · next k same => exact waits empty k same
    · cases on
    · cases on
  unfold Loop.mergeable Loop.withoutRequest
  rw [queue]
  split
  · next on =>
    obtain ⟨r, x, rfl⟩ := List.exists_cons_of_ne_nil (sending on)
    refine ⟨List.any_eq_true.mpr ⟨q, by simp, found⟩, ?_⟩
    rw [List.cons_append, List.tail_cons, eraseP_middle found fun r mem => before r (List.mem_cons_of_mem _ mem)]
    rfl
  · exact ⟨List.any_eq_true.mpr ⟨q, by simp, found⟩, eraseP_middle found before⟩

/-! ### The give-up of an entry of the live plan -/

section
variable {u : State} {b : BankName} {i : Nat} {e : Entry} {j k : Junction} (at_ : u.entryAt b i = some e)
  (point : e.point = .junction j) (due : k.due = j.due) {m : Telegram} (for_ : m.junction = e.id)
include at_ for_

omit at_ in
/-- The give-up taken (R110). -/
theorem giveUp_taken (giveUp : isRequest m = false) (other : ∀ q ∈ u.loop.queue, q.telegram.junction ≠ e.id)
    (free : u.loop.queue.length < 8) (t : State)
    (made : t = makeOffer m b i (u.withSlot b i (some { e with point := .junction k }))) :
    t.loop = { u.loop with queue := u.loop.queue ++ [{ telegram := m, bank := b, index := i, entryStands := true }] }
      ∧ t.pth = (u.withSlot b i (some { e with point := .junction k })).pth := by
  rw [makeOffer_taken giveUp (by rw [withSlot_loop]; exact free) (by rw [withSlot_loop, for_]; exact other), withSlot_loop] at made
  rw [made]
  exact ⟨rfl, rfl⟩

include due in
/-- The give-up not taken (R110): it joins the due list. -/
theorem giveUp_due (full : 8 ≤ u.loop.queue.length ∨ ∃ q ∈ u.loop.queue, q.telegram.junction = e.id)
    (noMerge : m.kind ≠ .cancel ∨ ∀ q ∈ u.loop.mergeable, q.telegram.junction = e.id → isRequest q.telegram = false)
    (t : State) (made : t = makeOffer m b i (u.withSlot b i (some { e with point := .junction k }))) :
    t.loop = u.loop
      ∧ t.pth = (u.withSlot b i (some { e with point := .junction { k with due := j.due ++ [m] } })).pth := by
  have noMerge : ¬ (m.kind = .cancel ∧ (u.withSlot b i (some { e with point := .junction k })).loop.mergeable.any
      (isRequestFor m.junction) = true) := by
    rw [withSlot_loop, for_]
    rintro ⟨cancel, merges⟩
    obtain ⟨q, mem, same⟩ := List.any_eq_true.mp merges
    simp only [isRequestFor, Bool.and_eq_true, beq_iff_eq] at same
    rw [(noMerge.resolve_left (· cancel)) q mem same.2] at same
    exact Bool.false_ne_true same.1
  have notFree : ¬ ((u.withSlot b i (some { e with point := .junction k })).loop.queue.length < 8
      ∧ ∀ q ∈ (u.withSlot b i (some { e with point := .junction k })).loop.queue, q.telegram.junction ≠ m.junction) := by
    rw [withSlot_loop, for_]
    rintro ⟨free, other⟩
    rcases full with full | ⟨q, mem, same⟩
    · omega
    · exact other q mem same
  rw [makeOffer_notTaken noMerge notFree, modJunction_of_entryAt _ (entryAt_withSlot_same _ at_) rfl, withSlot_withSlot,
    due] at made
  rw [made, withSlot_loop]
  exact ⟨rfl, rfl⟩

include point due in
/-- A CANCEL merged with its REQUEST (R110), and the due heads then offered (R90). -/
theorem giveUp_merged (cancel : m.kind = .cancel) {x y : List QueuedTelegram} {q : QueuedTelegram}
    (queue : u.loop.queue = x ++ q :: y) (request : isRequest q.telegram = true) (own : q.telegram.junction = e.id)
    (none_ : ∀ r ∈ x, r.telegram.junction ≠ e.id) (waits : x = [] → ∀ n, u.loop.transmitter ≠ .sending n)
    (heads : ∀ h ∈ u.dueHeads, h.telegram.kind = .cancel → ∀ r ∈ x ++ y,
      r.telegram.junction = h.telegram.junction → isRequest r.telegram = false) :
    ∃ v, offeredAgain { u.withSlot b i (some { e with point := .junction k }) with loop.queue := x ++ y } v
      ∧ makeOffer m b i (u.withSlot b i (some { e with point := .junction k })) = v := by
  obtain ⟨merges, left⟩ := withoutRequest_of queue request own none_ waits
  have loop := withSlot_loop u b i (some { e with point := .junction k })
  have left : (u.withSlot b i (some { e with point := .junction k })).loop.withoutRequest m.junction = x ++ y := by
    rw [loop, for_, left]
  rw [makeOffer_merged cancel (by rw [loop, for_]; exact merges), left]
  refine ⟨_, offeredAgain_reoffer fun h mem isCancel r inQueue same => ?_, rfl⟩
  refine heads h ?_ isCancel r inQueue same
  refine mem_dueHeads_of (u := { u.withSlot b i (some { e with point := .junction k }) with loop.queue := x ++ y }) ?_ ?_ mem
  · exact setBank_outline rfl
  · intro h d l head
    have head : (u.withSlot b i (some { e with point := .junction k })).DueHead h d l :=
      ⟨head.stands, (entryAt_of_pth rfl _ _).trans head.entry, head.point, head.head⟩
    exact dueHead_of_withSlot at_ point due head

end

/-! ### A clearance (R99) -/

section
variable {u : State} {b : BankName} {i : Nat} {e : Entry} {j : Junction} (at_ : u.entryAt b i = some e)
  (point : e.point = .junction j)
include at_ point

/-- A junction PASSED by its clearance. -/
def Junction.cleared (j : Junction) : Junction :=
  { j with firedClearance := true, state := .passed, timer := .stopped }

/-- What a clearance does to an entry, by its state (R99). -/
theorem fireClearance {v : State} (passed : v = u.withSlot b i (some { e with point := .junction j.cleared })) :
    (j.state = .locked → fireMark b u (.clearance i) = makeOffer (makeTelegram .release e.id j.number v) b i v)
      ∧ (j.state = .asked ∨ j.state = .moving → fireMark b u (.clearance i)
          = raiseNotice .passedUnlocked (.junction e.id) (makeOffer (makeTelegram .cancel e.id j.number v) b i v))
      ∧ (j.state = .waiting → fireMark b u (.clearance i) = raiseNotice .passedUnlocked (.junction e.id)
          (u.withSlot b i (some { e with point := .junction (withoutDueRequest j.cleared) })))
      ∧ (isGivenUp j.state = true → fireMark b u (.clearance i) = raiseNotice .passedUnlocked (.junction e.id) v)
      ∧ (j.state = .onSight ∨ j.state = .passed → fireMark b u (.clearance i) = v) := by
  have at1 := entryAt_withSlot_same { e with point := .junction { j with firedClearance := true } } at_
  have passes : (u.withSlot b i (some { e with point := .junction { j with firedClearance := true } })).modJunction b i
      passedJunction = v := by
    rw [modJunction_of_entryAt _ at1 rfl, withSlot_withSlot, passed]
    rfl
  have waits : v.modJunction b i withoutDueRequest
      = u.withSlot b i (some { e with point := .junction (withoutDueRequest j.cleared) }) := by
    rw [passed, modJunction_of_entryAt _ (entryAt_withSlot_same _ at_) rfl, withSlot_withSlot]
  have tram : ∀ kind, makeTelegram kind e.id j.number (u.withSlot b i (some { e with
      point := .junction { j with firedClearance := true } })) = makeTelegram kind e.id j.number v := fun kind => by
    rw [passed]
    cases b <;> rfl
  have fired : fireMark b u (.clearance i)
      = passClearance b i (u.withSlot b i (some { e with point := .junction { j with firedClearance := true } })) := by
    rw [fireMark, modJunction_of_entryAt _ at_ point]
  rw [fired]
  unfold passClearance
  rw [at1]
  dsimp only [Entry.junction?]
  rw [passes, tram, tram, waits]
  cases j.state <;> simp [isGivenUp]

end

end Sys2Proof.Machine
end

section
/-! PROOF. FIX, and what a clearance, a window end and the plan end do: O11 (R38, R39, R99, R130). -/

namespace Sys2Proof.Machine

/-! ### A clearance -/

section
variable {u w : State} {b : BankName} {i : Nat} {e : Entry} {j : Junction} (at_ : u.entryAt b i = some e)
  (point : e.point = .junction j) (fired : w = fireMark b u (.clearance i))
include at_ point fired

omit at_ point in
theorem fireClearance_changes : w = { u with pth := w.pth, loop := w.loop, flt := w.flt } := by
  have stp : w.stp = u.stp := by rw [fired, fireMark]; simp
  have snd : w.snd = u.snd := by rw [fired, fireMark]; simp
  subst fired
  apply state_ext <;> simp [stp, snd]

/-- PASSED_UNLOCKED but from LOCKED, ON_SIGHT and PASSED (R99). -/
theorem fireClearance_faults {unlocked : Prop} (unlocked_iff : unlocked ↔ j.state ≠ .locked ∧ j.state ≠ .onSight ∧ j.state ≠ .passed) :
    (unlocked → faultsRaised u.pth.p [(.passedUnlocked, .notice, .junction e.id)] u.flt w.flt)
      ∧ (¬ unlocked → w.flt = u.flt) := by
  obtain ⟨v, isV⟩ : ∃ v, v = u.withSlot b i (some { e with point := .junction j.cleared }) := ⟨_, rfl⟩
  have fltV : v.flt = u.flt := by rw [isV, State.withSlot, setBank_flt]
  have pV : v.pth.p = u.pth.p := by rw [isV, State.withSlot, setBank_pth_p]
  obtain ⟨locked, offered, waiting, givenUp, silent⟩ := fireClearance at_ point isV
  have noted : ∀ t : State, t.flt = u.flt → t.pth.p = u.pth.p →
      faultsRaised u.pth.p [(.passedUnlocked, .notice, .junction e.id)] u.flt (raiseNotice .passedUnlocked (.junction e.id) t).flt :=
    fun t flt p => by
      rw [← flt, ← p]
      exact storeFault_raised _ _ _ t nofun
  have offerFlt : ∀ m, (makeOffer m b i v).flt = u.flt := fun m => by rw [makeOffer_flt, fltV]
  have offerP : ∀ m, (makeOffer m b i v).pth.p = u.pth.p := fun m => by
    rw [position_of_outline (makeOffer_outline ..), pV]
  have waitP : (u.withSlot b i (some { e with point := .junction (withoutDueRequest j.cleared) })).flt = u.flt
      ∧ (u.withSlot b i (some { e with point := .junction (withoutDueRequest j.cleared) })).pth.p = u.pth.p :=
    ⟨setBank_flt .., setBank_pth_p ..⟩
  rw [fired, unlocked_iff]
  cases state : j.state with
  | locked => rw [locked state]; exact ⟨fun h => absurd rfl h.1, fun _ => offerFlt _⟩
  | asked => rw [offered (.inl state)]; exact ⟨fun _ => noted _ (offerFlt _) (offerP _), fun h => absurd (by simp) h⟩
  | moving => rw [offered (.inr state)]; exact ⟨fun _ => noted _ (offerFlt _) (offerP _), fun h => absurd (by simp) h⟩
  | waiting => rw [waiting state]; exact ⟨fun _ => noted _ waitP.1 waitP.2, fun h => absurd (by simp) h⟩
  | refused r => rw [givenUp (by rw [state]; rfl)]; exact ⟨fun _ => noted _ fltV pV, fun h => absurd (by simp) h⟩
  | lost => rw [givenUp (by rw [state]; rfl)]; exact ⟨fun _ => noted _ fltV pV, fun h => absurd (by simp) h⟩
  | onSight => rw [silent (.inl state)]; exact ⟨fun h => absurd rfl h.2.1, fun _ => fltV⟩
  | passed => rw [silent (.inr state)]; exact ⟨fun h => absurd rfl h.2.2, fun _ => fltV⟩

/-- Without a give-up LOOP stays (R99). -/
theorem fireClearance_quiet (notLocked : j.state ≠ .locked) (notAsked : j.state ≠ .asked) (notMoving : j.state ≠ .moving) :
    w.loop = u.loop ∧ w.pth = (u.withSlot b i (some { e with point := .junction { j.cleared with
      due := if j.state = .waiting then j.due.filter fun t => !isRequest t else j.due } })).pth := by
  obtain ⟨-, -, waiting, givenUp, silent⟩ := fireClearance at_ point rfl
  rw [fired]
  cases state : j.state with
  | locked => exact absurd state notLocked
  | asked => exact absurd state notAsked
  | moving => exact absurd state notMoving
  | waiting => rw [waiting state]; exact ⟨withSlot_loop .., rfl⟩
  | refused r => rw [givenUp (by rw [state]; rfl)]; exact ⟨withSlot_loop .., rfl⟩
  | lost => rw [givenUp (by rw [state]; rfl)]; exact ⟨withSlot_loop .., rfl⟩
  | onSight => rw [silent (.inl state)]; exact ⟨withSlot_loop .., rfl⟩
  | passed => rw [silent (.inr state)]; exact ⟨withSlot_loop .., rfl⟩

/-- A give-up is made and offered from LOCKED, ASKED and MOVING (R99). -/
theorem fireClearance_offers (gives : j.state = .locked ∨ j.state = .asked ∨ j.state = .moving) {m : Telegram}
    (telegram : m = { kind := if j.state = .locked then .release else .cancel, tram := u.cfgNat .tramId, junction := e.id,
                      number := j.number }) :
    ∃ t, t = makeOffer m b i (u.withSlot b i (some { e with point := .junction j.cleared }))
      ∧ w.loop = t.loop ∧ w.pth = t.pth := by
  obtain ⟨locked, offered, -⟩ := fireClearance at_ point rfl
  have made : ∀ kind, makeTelegram kind e.id j.number (u.withSlot b i (some { e with point := .junction j.cleared }))
      = { kind, tram := u.cfgNat .tramId, junction := e.id, number := j.number } := fun kind => by cases b <;> rfl
  refine ⟨_, rfl, ?_⟩
  rw [fired, telegram]
  by_cases isLocked : j.state = .locked
  · rw [locked isLocked, made, if_pos isLocked]
    exact ⟨rfl, rfl⟩
  · rw [offered (gives.resolve_left isLocked), made, if_neg isLocked]
    exact ⟨rfl, rfl⟩

end

theorem withSlot_of_pth {s t : State} (h : t.pth = s.pth) (b : BankName) (i : Nat) (x : Option Entry) :
    (t.withSlot b i x).pth = (s.withSlot b i x).pth := by
  cases b <;> simp [State.withSlot, State.setBank, State.bank, h]

/-- Nothing due, where nothing was and an entry with nothing due stands in a slot. -/
theorem dueHeads_withSlot_nil {u s : State} {b : BankName} {i : Nat} {e g : Entry} {l : Junction} (nothing : u.nothingDue)
    (at_ : u.entryAt b i = some e) (point : g.point = .junction l) (due : l.due = [])
    (pth : s.pth = (u.withSlot b i (some g)).pth) : s.dueHeads = [] := by
  refine dueHeads_nil fun c n d k atS pointD => ?_
  rw [entryAt_of_pth pth] at atS
  by_cases here : (b, i) = (c, n)
  · obtain ⟨rfl, rfl⟩ := Prod.mk.inj here
    obtain rfl := Option.some.inj ((entryAt_withSlot_same _ at_).symm.trans atS)
    rw [← Waypoint.junction.inj (point.symm.trans pointD)]
    exact due
  · exact due_of_nothingDue nothing ((entryAt_withSlot_ne _ here).symm.trans atS) pointD

/-- With nothing due nothing is taken. -/
theorem loop_of_offeredAgain {z x : State} (nothing : z.dueHeads = []) (offered : offeredAgain z x) : x.loop = z.loop := by
  obtain ⟨changes, -⟩ := offered [] (by rw [nothing]; rfl)
  rw [(congrArg State.loop changes :), List.append_nil]

/-- A jump over the request point and the clearance of a WAITING entry leaves LOOP as it was (R99, R110). -/
theorem jump_leaves_loop {u : State} {b : BankName} {i : Nat} {e : Entry} {j : Junction} (at_ : u.entryAt b i = some e)
    (point : e.point = .junction j) (waiting : j.state = .waiting) (nothing : j.due = [])
    (free : u.loop.queue.length < 8) (other : ∀ q ∈ u.loop.queue, q.telegram.junction ≠ e.id)
    (waits : u.loop.queue = [] → ∀ n, u.loop.transmitter ≠ .sending n) (nothingDue : u.nothingDue) :
    (fireMark b (fireMark b u (.request i)) (.clearance i)).loop = u.loop := by
  obtain ⟨k, isK⟩ : ∃ k : Junction, k = { j with
    firedRequest := true, state := .asked, number := j.number + 1, timer := .stopped } := ⟨_, rfl⟩
  obtain ⟨q, isQ⟩ : ∃ q : QueuedTelegram, q = { telegram := { kind := .request j.leg, tram := u.cfgNat .tramId
                                                              junction := e.id, number := j.number + 1 }
                                                bank := b, index := i, entryStands := true } := ⟨_, rfl⟩
  obtain ⟨f, isF⟩ : ∃ f : Entry, f = { e with point := .junction k } := ⟨_, rfl⟩
  have pointF : f.point = .junction k := by rw [isF]
  have idF : f.id = e.id := by rw [isF]
  have asked : k.state = .asked := by rw [isK]
  have dueK : k.due = [] := by rw [isK]; exact nothing
  obtain ⟨v, isV⟩ : ∃ v, v = fireMark b u (.request i) := ⟨_, rfl⟩
  obtain ⟨loop, pth⟩ : v.loop = { u.loop with queue := u.loop.queue ++ [q] }
      ∧ v.pth = (u.withSlot b i (some f)).pth := by
    have at1 := entryAt_withSlot_same { e with point := .junction { j with firedRequest := true } } at_
    rw [fireMark, modJunction_of_entryAt _ at_ point] at isV
    obtain ⟨-, offered⟩ := passRequestPoint_asks at1 rfl (j := { j with firedRequest := true }) waiting nothing rfl v isV
    rw [withSlot_loop, withSlot_withSlot, if_pos ⟨free, other⟩] at offered
    rw [isF, isQ, isK]
    refine ⟨offered.1.trans ?_, offered.2⟩
    cases b <;> rfl
  have atV : v.entryAt b i = some f := (entryAt_of_pth pth b i).trans (entryAt_withSlot_same _ at_)
  have cleared : (v.withSlot b i (some { f with point := .junction k.cleared })).pth
      = (u.withSlot b i (some { f with point := .junction k.cleared })).pth := by
    rw [withSlot_of_pth pth, withSlot_withSlot]
  have noneV : v.dueHeads = [] := dueHeads_withSlot_nil nothingDue at_ pointF dueK pth
  obtain ⟨m, isM⟩ : ∃ m : Telegram, m = { kind := if k.state = .locked then .release else .cancel, tram := v.cfgNat .tramId
                                          junction := f.id, number := k.number } := ⟨_, rfl⟩
  have cancel : m.kind = .cancel := by rw [isM, asked]; rfl
  obtain ⟨t, isT, loopT, -⟩ := fireClearance_offers atV pointF rfl (.inr (.inl asked)) isM
  obtain ⟨x, offered, isX⟩ := giveUp_merged atV pointF (k := k.cleared) rfl (m := m) (by rw [isM]) cancel
    (x := u.loop.queue) (q := q) (y := []) (by rw [loop]) (by rw [isQ]; rfl) (by rw [isQ, idF]) (by rw [idF]; exact other)
    (by rw [loop]; exact waits) (by rw [noneV]; simp)
  have pthZ : ({ v.withSlot b i (some { f with point := .junction k.cleared }) with
      loop.queue := u.loop.queue ++ [] } : State).pth = (u.withSlot b i (some { f with point := .junction k.cleared })).pth := cleared
  have loopZ : ({ v.withSlot b i (some { f with point := .junction k.cleared }) with
      loop.queue := u.loop.queue ++ [] } : State).loop = u.loop := by
    simp only [withSlot_loop, loop, List.append_nil]
  have loopX := loop_of_offeredAgain (dueHeads_withSlot_nil (l := k.cleared) nothingDue at_ rfl dueK pthZ) offered
  rw [← isV, loopT, isT, isX, loopX, loopZ]

/-! ### The target, by the places of the entries -/

/-- The first entry that passes a test, by its index: it depends on which slots pass alone. -/
theorem find_entriesFrom (p : Entry → Bool) : ∀ (k : Nat) (slots : List (Option Entry)),
    ((entriesFrom k slots).find? fun x => p x.2).map Prod.fst
      = ((slots.map (Option.map p)).findIdx? fun x => x == some true).map (k + ·)
  | _, [] => rfl
  | k, none :: rest => by
    have later := find_entriesFrom p (k + 1) rest
    rw [entriesFrom, later, List.map_cons, List.findIdx?_cons, Option.map_none, if_neg (by decide), Option.map_map]
    refine congrArg (Option.map · _) (funext fun n => ?_)
    simp only [Function.comp]
    omega
  | k, some e :: rest => by
    have later := find_entriesFrom p (k + 1) rest
    rw [entriesFrom, List.find?_cons, List.map_cons, List.findIdx?_cons]
    cases passes : p e with
    | true => simp [passes]
    | false =>
      rw [later, Option.map_some, passes, if_neg (by decide), Option.map_map]
      refine congrArg (Option.map · _) (funext fun n => ?_)
      simp only [Function.comp]
      omega

/-- The target's index, where the test of one entry's part does not change (R125). -/
theorem target_modEntry {s : State} {b : BankName} (live : s.liveBank = some b) (i : Nat) {f : Entry → Entry}
    (keeps : ∀ e, isTarget (f e) = isTarget e) : (s.modEntry b i f).target.map Prod.fst = s.target.map Prod.fst := by
  have liveT : (s.modEntry b i f).liveBank = some b := (liveBank_of_outline (modEntry_outline ..)).trans live
  have slots : ((s.bank b).slots.modify i (Option.map f)).map (Option.map isTarget)
      = (s.bank b).slots.map (Option.map isTarget) := by
    refine List.ext_getElem? fun n => ?_
    rw [List.getElem?_map, List.getElem?_modify, List.getElem?_map]
    by_cases here : i = n
    · cases (s.bank b).slots[n]? with
      | none => rfl
      | some x => cases x <;> simp [here, keeps]
    · cases (s.bank b).slots[n]? <;> simp [here]
  simp only [State.target, State.liveEntries, live, liveT, Bank.entries, find_entriesFrom]
  rw [State.modEntry, bank_setBank, slots]

/-- The rows of R130. -/
theorem afterWindowEnd_eq (z : Stop) (requested : Bool) :
    ((afterWindowEnd z requested).2 = true ↔ z.state = .ahead ∧ (z.mode = .always ∨ z.mode = .request ∧ requested = true))
      ∧ (afterWindowEnd z requested).1 = if (afterWindowEnd z requested).2 = true then .missed
          else if z.state = .ahead then .passed else z.state := by
  unfold afterWindowEnd
  cases z.state <;> cases z.mode <;> cases requested <;> simp

/-! ### A window end (R130) -/

/-- STOP_MISSED stored where the stop was missed (R130). -/
theorem stopMissed_noted {u a n : State} {id : Nat} {isMissed : Bool} {missed : Prop} (changes : a = { u with pth := a.pth })
    (p : a.pth.p = u.pth.p) (missed_iff : isMissed = true ↔ missed)
    (noted : n = if isMissed = true then raiseNotice .stopMissed (.stop id) a else a) :
    n.pth = a.pth ∧ n = { u with pth := a.pth, flt := n.flt }
      ∧ (missed → faultsRaised u.pth.p [(.stopMissed, .notice, .stop id)] u.flt n.flt) ∧ (¬ missed → n.flt = u.flt) := by
  have raised : faultsRaised u.pth.p [(.stopMissed, .notice, .stop id)] u.flt (raiseNotice .stopMissed (.stop id) a).flt := by
    have raises := storeFault_raised .stopMissed .notice (.stop id) a nofun
    rw [p, (congrArg State.flt changes :)] at raises
    exact raises
  by_cases lost : missed
  · rw [if_pos (missed_iff.mpr lost)] at noted
    rw [noted]
    exact ⟨rfl, (congrArg (fun t : State => { t with flt := (raiseNotice .stopMissed (.stop id) a).flt }) changes :),
      fun _ => raised, fun h => absurd lost h⟩
  · rw [if_neg (mt missed_iff.mp lost)] at noted
    rw [noted, (congrArg State.flt changes :)]
    exact ⟨rfl, changes, fun h => absurd h lost, fun _ => rfl⟩

/-- A window end, by the rows of R130. -/
theorem fireWindow {u w : State} {b : BankName} {i : Nat} {e : Entry} {z : Stop} {targeted missed : Prop} {x : StopState}
    (live : u.liveBank = some b) (at_ : u.entryAt b i = some e) (point : e.point = .stop z)
    (fired : w = fireMark b u (.window i)) (targeted_iff : targeted ↔ u.target = some (i, e))
    (missed_iff : missed ↔ z.state = .ahead
      ∧ (z.mode = .always ∨ (z.mode = .request ∧ targeted ∧ u.stp.request ≠ none)))
    (isMissed : missed → x = .missed) (notMissed : ¬ missed → x = if z.state = .ahead then .passed else z.state) :
    w.pth = (u.withSlot b i (some { e with point := .stop { z with firedWindow := true, state := x } })).pth
      ∧ w = { u with pth := w.pth, stp.request := w.stp.request, flt := w.flt }
      ∧ (targeted → w.stp.request = none) ∧ (¬ targeted → w.stp.request = u.stp.request)
      ∧ (missed → faultsRaised u.pth.p [(.stopMissed, .notice, .stop e.id)] u.flt w.flt)
      ∧ (¬ missed → w.flt = u.flt) := by
  obtain ⟨y, isY⟩ : ∃ y : Stop, y = { z with firedWindow := true } := ⟨_, rfl⟩
  obtain ⟨v, isV⟩ : ∃ v, v = u.modStop b i fun t => { t with firedWindow := true } := ⟨_, rfl⟩
  have atV : v.entryAt b i = some { e with point := .stop y } := by
    rw [isV, modStop_of_entryAt _ at_ point, entryAt_withSlot_same _ at_, isY]
  have target : (v.target.map Prod.fst == some i) = true ↔ targeted := by
    have same : v.target.map Prod.fst = u.target.map Prod.fst := by
      rw [isV, State.modStop, target_modEntry live i fun e => ?_]
      unfold isTarget Entry.modStop
      cases isPoint : e.point <;> simp [isPoint]
    rw [same, beq_iff_eq, targeted_iff, Option.map_eq_some_iff]
    constructor
    · rintro ⟨⟨n, f⟩, isTarget, rfl⟩
      obtain ⟨c, liveC, atC⟩ := slot_of_target isTarget
      obtain rfl := Option.some.inj (live.symm.trans liveC)
      rw [isTarget, Option.some.inj (atC.symm.trans at_)]
    · exact fun isTarget => ⟨_, isTarget, rfl⟩
  obtain ⟨hit, isHit⟩ : ∃ hit, hit = (v.target.map Prod.fst == some i) := ⟨_, rfl⟩
  rw [← isHit] at target
  have request : v.stp = u.stp := by rw [isV, modStop_of_entryAt _ at_ point, State.withSlot, setBank_stp]
  obtain ⟨rows, next⟩ := afterWindowEnd_eq y (hit && v.stp.request.isSome)
  have rows : (afterWindowEnd y (hit && v.stp.request.isSome)).2 = true ↔ missed := by
    rw [rows, missed_iff, isY, Bool.and_eq_true, target, request, Option.isSome_iff_ne_none]
  obtain ⟨r, isR⟩ : ∃ r, r = afterWindowEnd y (hit && v.stp.request.isSome) := ⟨_, rfl⟩
  rw [← isR] at rows next
  have state : r.1 = x := by
    by_cases lost : missed
    · rw [next, if_pos (rows.mpr lost), isMissed lost]
    · rw [next, if_neg (mt rows.mp lost), notMissed lost, isY]
  obtain ⟨a, isA⟩ : ∃ a, a = u.withSlot b i (some { e with point := .stop { z with firedWindow := true, state := x } }) :=
    ⟨_, rfl⟩
  have settled : (v.modStop b i fun t => { t with state := r.1 }) = a := by
    rw [modStop_of_entryAt _ atV rfl, isV, modStop_of_entryAt _ at_ point, withSlot_withSlot, isA, state, isY]
  have changes : a = { u with pth := a.pth } := by rw [isA]; cases b <;> rfl
  have p : a.pth.p = u.pth.p := by rw [isA, State.withSlot, setBank_pth_p]
  obtain ⟨n, isN⟩ : ∃ n, n = if r.2 = true then raiseNotice .stopMissed (.stop e.id) a else a := ⟨_, rfl⟩
  have result : w = if hit = true then { n with stp.request := none } else n := by
    rw [fired, fireMark, ← isV]
    unfold passWindowEnd
    rw [atV]
    dsimp only [Entry.stop?]
    rw [← isHit, ← isR, settled, ← isN]
  obtain ⟨pthN, changesN, raisedN, quietN⟩ := stopMissed_noted changes p rows isN
  rw [← isA, ← pthN]
  rw [← pthN] at changesN
  by_cases hits : targeted
  · rw [if_pos (target.mpr hits)] at result
    subst result
    refine ⟨rfl, ?_, fun _ => rfl, fun h => absurd hits h, raisedN, quietN⟩
    conv_lhs => rw [changesN]
  · rw [if_neg (mt target.mp hits)] at result
    subst result
    have request : w.stp = u.stp := (congrArg State.stp changesN :)
    refine ⟨rfl, ?_, fun h => absurd h hits, fun _ => by rw [request], raisedN, quietN⟩
    rw [request]
    exact changesN

/-! ### FIX (R39) -/

/-- FIX_REJECTED stored, with no other change (R39, R162). -/
theorem fixRejected_stored (id : Nat) (s : State) : ∃ r, (raiseNotice .fixRejected (.junction id) s).flt.queue.getLast? = some r
    ∧ raiseNotice .fixRejected (.junction id) s = { s with flt := (raiseNotice .fixRejected (.junction id) s).flt }
    ∧ r.kind = .fixRejected ∧ r.cls = .notice ∧ r.key = .junction id ∧ r.p = s.pth.p ∧ r.tag = none
    ∧ r.serial = s.flt.serial ∧ (raiseNotice .fixRejected (.junction id) s).flt.halt = s.flt.halt
    ∧ (raiseNotice .fixRejected (.junction id) s).flt.latch = s.flt.latch :=
  ⟨_, List.getLast?_concat, rfl, rfl, rfl, rfl, rfl, rfl, rfl, rfl, rfl⟩

/-- FIX's rows (R39). -/
theorem exec_fix {id : BitVec 12} {s : State} (junction : id ≠ 0) : exec (.fix id) s = .next (takeFix id.toNat s) := by
  show Host.Outcome.next (receiveFix id s) = _
  rw [receiveFix, if_neg junction]

theorem takeFix_far {id : Nat} {s : State} (live : s.liveBank ≠ none) (far : s.liveJunction id = none
    ∨ ∃ b i e, s.liveJunction id = some (b, i, e) ∧ 1500 < ((e.distance : Int) - s.pth.p).natAbs) :
    takeFix id s = raiseNotice .fixRejected (.junction id) s := by
  have isLive : ¬ s.liveBank.isNone = true := by rwa [Option.isNone_iff_eq_none]
  rw [takeFix, if_neg isLive]
  rcases far with unknown | ⟨b, i, e, found, far⟩
  · rw [unknown]
  · rw [found]
    exact if_pos far

theorem takeFix_near {id : Nat} {s : State} {b : BankName} {i : Nat} {e : Entry} (found : s.liveJunction id = some (b, i, e))
    (near : ((e.distance : Int) - s.pth.p).natAbs ≤ 1500) : takeFix id s
      = startTransmitter { s with pth.rem := 0 } (settleCheck (moveTo e.distance { s with pth.rem := 0 })) := by
  obtain ⟨live, -⟩ := slot_of_liveJunction found
  rw [takeFix, if_neg (by rw [live]; exact Bool.false_ne_true), found]
  exact (if_neg (by omega)).trans rfl

/-- Settles O11: FIX's rows, and the passages that a clearance, a window end and the plan end bring. -/
theorem fixSetsThePosition : Obligations.FixSetsThePosition := by
  unfold Obligations.FixSetsThePosition
  refine ⟨fun s => rfl, fun id s junction => ?_, ?_, ?_, ?_, fun u w b live made => ?_⟩
  · refine ⟨fun dead => ?_, fun live far => ?_, fun b i e found near => ?_⟩
    · rw [exec_fix junction, takeFix, if_pos (by rw [dead]; rfl)]
    · obtain ⟨r, stored⟩ := fixRejected_stored id.toNat s
      rw [exec_fix junction, takeFix_far live far]
      exact ⟨_, r, rfl, stored⟩
    · obtain ⟨live, -⟩ := slot_of_liveJunction found
      rw [exec_fix junction, takeFix_near found near]
      obtain ⟨p, rem, eff, aut, axl, quiet, fires⟩ := moved_spec (s := { s with pth.rem := 0 }) rfl
      exact ⟨_, rfl, p, rem, eff, aut, axl, quiet, fires b live⟩
  · intro u b i e j _ at_ point waiting nothing free other waits nothingDue
    exact jump_leaves_loop at_ point waiting nothing free other waits nothingDue
  · intro u w b i e j k m unlocked live at_ point fired isK unlocked_iff telegram
    have isK : k = j.cleared := isK
    subst isK
    obtain ⟨raised, silent⟩ := fireClearance_faults at_ point fired unlocked_iff
    refine ⟨fireClearance_changes fired, raised, silent, fireClearance_quiet at_ point fired, fun gives => ?_⟩
    obtain ⟨t, isT, loop, pth⟩ := fireClearance_offers at_ point fired gives telegram
    have for_ : m.junction = e.id := by rw [telegram]
    have giveUp : isRequest m = false := by
      rw [telegram]
      by_cases isLocked : j.state = .locked <;> simp [isRequest, isLocked]
    have cancel : m.kind = .cancel ↔ j.state ≠ .locked := by
      rw [telegram]
      by_cases isLocked : j.state = .locked <;> simp [isLocked]
    rw [loop, pth]
    refine ⟨fun other free => giveUp_taken for_ giveUp other free t isT, fun full noMerge => ?_, ?_⟩
    · exact giveUp_due at_ (k := j.cleared) rfl for_ full (noMerge.imp_left fun locked isCancel => cancel.mp isCancel locked) t isT
    · intro x q y notLocked queue request own none_ waits heads
      obtain ⟨v, offered, same⟩ := giveUp_merged at_ point (k := j.cleared) rfl for_ (cancel.mpr notLocked) queue request own
        none_ waits heads
      exact ⟨v, offered, by rw [isT, same], by rw [isT, same]⟩
  · intro u w b i e z targeted missed x live at_ point fired
    exact fireWindow live at_ point fired
  · subst made
    exact ⟨rfl, storeFault_raised .planEnd .restrict .none { u with pth.firedEnd := true, pth.planEnd := true } nofun⟩

end Sys2Proof.Machine
end

section
/-! PROOF. The switch of plans (R28 to R30): the request points delivered at a switch-in, in index order. -/

namespace Sys2Proof.Machine

/-! ### The request points that a switch-in delivers (R29, R89) -/

/-- An entry as its request point, delivered, leaves it: ASKED where LOOP took its REQUEST, LOOP having `before` queued,
else with its REQUEST due (R89). -/
def requestDelivered (u : State) (b : BankName) (i : Nat) (e : Entry) (j k : Junction) (l before : List QueuedTelegram) :
    Prop :=
  ∀ m : Telegram, m = { kind := .request j.leg, tram := u.cfgNat .tramId, junction := e.id, number := j.number + 1 } →
    if before.length < 8 ∧ ∀ q ∈ before, q.telegram.junction ≠ e.id then
      k = { j with state := .asked, number := j.number + 1, timer := .stopped }
        ∧ { telegram := m, bank := b, index := i, entryStands := true } ∈ l
    else k = { j with due := [m] }

/-- From `u` to `w` the request points of a bank's indices have been delivered, LOOP having taken `l`. -/
structure RequestsDelivered (b : BankName) (indices : List Nat) (l : List QueuedTelegram) (u w : State) : Prop where
  changes : w = { u with pth := w.pth, loop := w.loop }
  outline : w.outline = u.outline
  loop : w.loop = { u.loop with queue := u.loop.queue ++ l }
  ordered : l.Pairwise fun x y => x.index < y.index
  from_ : ∀ q ∈ l, q.bank = b ∧ q.index ∈ indices
  otherBank : w.bank (Machine.otherBank b) = u.bank (Machine.otherBank b)
  other : ∀ i, i ∉ indices → w.entryAt b i = u.entryAt b i
  delivered : ∀ i ∈ indices, ∀ e j, u.entryAt b i = some e → e.point = .junction j → ∃ k,
    w.entryAt b i = some { e with point := .junction k }
      ∧ requestDelivered u b i e j k l (u.loop.queue ++ l.filter fun q => q.index < i)

/-- One request point delivered. -/
theorem requestsDelivered_one {u : State} {b : BankName} {i : Nat} {e : Entry} {j : Junction} (at_ : u.entryAt b i = some e)
    (point : e.point = .junction j) (waiting : j.state = .waiting) (nothing : j.due = []) :
    ∃ l, RequestsDelivered b [i] l u (passRequestPoint b i u) := by
  obtain ⟨m, isM⟩ : ∃ m : Telegram, m = { kind := .request j.leg, tram := u.cfgNat .tramId, junction := e.id
                                          number := j.number + 1 } := ⟨_, rfl⟩
  obtain ⟨w, isW⟩ : ∃ w, w = passRequestPoint b i u := ⟨_, rfl⟩
  obtain ⟨changes, offered⟩ := passRequestPoint_asks at_ point waiting nothing isM w isW
  have outline : w.outline = u.outline := by rw [isW]; simp
  rw [← isW]
  have entries : ∀ {k : Junction}, w.pth = (u.withSlot b i (some { e with point := .junction k })).pth →
      w.bank (otherBank b) = u.bank (otherBank b) ∧ (∀ n, n ∉ [i] → w.entryAt b n = u.entryAt b n)
        ∧ w.entryAt b i = some { e with point := .junction k } := fun pth => by
    refine ⟨(bank_of_pth pth _).trans (bank_setBank_other ..), fun n away => ?_,
      (entryAt_of_pth pth b i).trans (entryAt_withSlot_same _ at_)⟩
    refine (entryAt_of_pth pth b n).trans (entryAt_withSlot_ne _ fun same => away ?_)
    rw [(Prod.mk.inj same).2]
    exact List.mem_cons_self
  have the : ∀ {k : Junction} {l : List QueuedTelegram}, w.entryAt b i = some { e with point := .junction k } →
      requestDelivered u b i e j k l (u.loop.queue ++ l.filter fun q => q.index < i) → ∀ n ∈ [i], ∀ f d,
      u.entryAt b n = some f → f.point = .junction d → ∃ k, w.entryAt b n = some { f with point := .junction k }
        ∧ requestDelivered u b n f d k l (u.loop.queue ++ l.filter fun q => q.index < n) := by
    intro k l atW done n mem f d atF pointF
    obtain rfl := List.mem_singleton.mp mem
    obtain rfl := Option.some.inj (at_.symm.trans atF)
    obtain rfl := Waypoint.junction.inj (point.symm.trans pointF)
    exact ⟨k, atW, done⟩
  by_cases free : u.loop.queue.length < 8 ∧ ∀ q ∈ u.loop.queue, q.telegram.junction ≠ e.id
  · rw [if_pos free] at offered
    obtain ⟨bank, other, atW⟩ := entries offered.2
    refine ⟨_, changes, outline, offered.1, List.pairwise_singleton .., ?_, bank, other, the atW fun n isN => ?_⟩
    · intro q mem
      rw [List.mem_singleton.mp mem]
      exact ⟨rfl, List.mem_singleton_self _⟩
    · rw [List.filter_eq_nil_iff.mpr (by simp), List.append_nil, if_pos free, isN, isM]
      exact ⟨rfl, List.mem_singleton_self _⟩
  · rw [if_neg free] at offered
    obtain ⟨bank, other, atW⟩ := entries offered.2
    refine ⟨[], changes, outline, by rw [offered.1, List.append_nil], .nil, nofun, bank, other, the atW fun n isN => ?_⟩
    rw [List.filter_nil, List.append_nil, if_neg free, isN, isM]

/-- The request points of rising indices delivered, one after another. -/
theorem requestsDelivered_fold {b : BankName} : ∀ (indices : List Nat) (u : State), indices.Pairwise (· < ·) →
    (∀ i ∈ indices, ∃ e j, u.entryAt b i = some e ∧ e.point = .junction j ∧ j.state = .waiting ∧ j.due = []) →
    ∃ l, RequestsDelivered b indices l u (indices.foldl (fun s i => passRequestPoint b i s) u)
  | [], u, _, _ => ⟨[], rfl, rfl, by rw [List.append_nil]; rfl, .nil, nofun, rfl, fun _ _ => rfl, nofun⟩
  | n :: indices, u, rising, waits => by
    obtain ⟨after, rising⟩ := List.pairwise_cons.mp rising
    obtain ⟨e, j, at_, point, waiting, nothing⟩ := waits n List.mem_cons_self
    obtain ⟨x, first⟩ := requestsDelivered_one at_ point waiting nothing
    obtain ⟨v, isV⟩ : ∃ v, v = passRequestPoint b n u := ⟨_, rfl⟩
    rw [List.foldl_cons, ← isV]
    rw [← isV] at first
    have later : ∀ i ∈ indices, v.entryAt b i = u.entryAt b i := fun i mem =>
      first.other i fun same => by
        rw [List.mem_singleton.mp same] at mem
        exact Nat.lt_irrefl n (after n mem)
    obtain ⟨l, rest⟩ := requestsDelivered_fold indices v rising fun i mem => by
      rw [later i mem]
      exact waits i (List.mem_cons_of_mem _ mem)
    have queue : v.loop.queue = u.loop.queue ++ x := by rw [first.loop]
    have ofX : ∀ q ∈ x, q.index = n := fun q mem => List.mem_singleton.mp (first.from_ q mem).2
    refine ⟨x ++ l, ?_, rest.outline.trans first.outline, ?_, ?_, ?_, rest.otherBank.trans first.otherBank, ?_, ?_⟩
    · rw [rest.changes, first.changes]
    · rw [rest.loop, first.loop, List.append_assoc]
    · refine List.pairwise_append.mpr ⟨first.ordered, rest.ordered, fun p memP q memQ => ?_⟩
      rw [ofX p memP]
      exact after _ (rest.from_ q memQ).2
    · intro q mem
      rcases List.mem_append.mp mem with mem | mem
      · exact ⟨(first.from_ q mem).1, by rw [ofX q mem]; exact List.mem_cons_self⟩
      · exact ⟨(rest.from_ q mem).1, List.mem_cons_of_mem _ (rest.from_ q mem).2⟩
    · intro i away
      rw [rest.other i fun mem => away (List.mem_cons_of_mem _ mem),
        first.other i fun mem => away (by rw [List.mem_singleton.mp mem]; exact List.mem_cons_self)]
    · intro i mem f d atF pointF
      rcases List.mem_cons.mp mem with rfl | mem
      · obtain ⟨k, atV, done⟩ := first.delivered i (List.mem_singleton_self _) f d atF pointF
        refine ⟨k, (rest.other i fun mem => Nat.lt_irrefl i (after i mem)).trans atV, fun m isM => ?_⟩
        have none_ : l.filter (fun q => q.index < i) = [] := List.filter_eq_nil_iff.mpr fun q mem => by
          have := after _ (rest.from_ q mem).2
          simp only [decide_eq_true_eq]
          omega
        have done := done m isM
        rw [List.filter_append, none_, List.append_nil]
        split at done
        · next free => rw [if_pos free]; exact ⟨done.1, List.mem_append_left _ done.2⟩
        · next full => rw [if_neg full]; exact done
      · obtain ⟨k, atW, done⟩ := rest.delivered i mem f d ((later i mem).trans atF) pointF
        refine ⟨k, atW, fun m isM => ?_⟩
        have all : x.filter (fun q => q.index < i) = x := List.filter_eq_self.mpr fun q memQ => by
          rw [ofX q memQ]
          exact decide_eq_true (after i mem)
        have tram : v.cfgNat .tramId = u.cfgNat .tramId := by rw [first.changes]; rfl
        have done := done m (by rw [tram]; exact isM)
        rw [List.filter_append, all, ← List.append_assoc, ← queue]
        split at done
        · next free => rw [if_pos free]; exact ⟨done.1, List.mem_append_right _ done.2⟩
        · next full => rw [if_neg full]; exact done

end Sys2Proof.Machine
end

section
/-! PROOF. The banks turned at a switch, and an entry set up against the position (R28, R29). -/

namespace Sys2Proof.Machine

/-! ### The last entry of a bank -/

/-- The last of a rising list is the member with none after it. -/
theorem getLast?_rising {l : List (Nat × Entry)} (rising : l.Pairwise fun x y => x.1 < y.1) {x : Nat × Entry} :
    l.getLast? = some x ↔ x ∈ l ∧ ∀ y ∈ l, ¬ x.1 < y.1 := by
  rcases List.eq_nil_or_concat l with rfl | ⟨init, z, rfl⟩
  · simp
  · rw [List.concat_eq_append] at rising ⊢
    obtain ⟨-, -, last⟩ := List.pairwise_append.mp rising
    have below : ∀ y ∈ init, y.1 < z.1 := fun y mem => last y mem z (List.mem_singleton_self z)
    rw [List.getLast?_concat, Option.some.injEq]
    constructor
    · rintro rfl
      refine ⟨List.mem_append_right _ (List.mem_singleton_self _), fun y mem => ?_⟩
      rcases List.mem_append.mp mem with mem | mem
      · exact (below y mem).not_gt
      · rw [List.mem_singleton.mp mem]
        exact Nat.lt_irrefl _
    · rintro ⟨mem, none_⟩
      rcases List.mem_append.mp mem with mem | mem
      · exact absurd (below x mem) (none_ z (List.mem_append_right _ (List.mem_singleton_self z)))
      · exact (List.mem_singleton.mp mem).symm

theorem getLast?_entries {s : State} {b : BankName} {i : Nat} {e : Entry} : (s.bank b).entries.getLast? = some (i, e)
    ↔ s.entryAt b i = some e ∧ ∀ n, i < n → s.entryAt b n = none := by
  rw [Bank.entries, getLast?_rising (entriesFrom_pairwise 0 _), ← Bank.entries, mem_entries]
  refine and_congr_right fun _ => ⟨fun none_ n below => ?_, fun none_ y mem below => ?_⟩
  · cases at_ : s.entryAt b n with
    | none => rfl
    | some f => exact absurd below (none_ (n, f) (mem_entries.mpr at_))
  · have held : s.entryAt b y.1 = some y.2 := mem_entries.mp mem
    rw [none_ y.1 below] at held
    cases held

/-! ### Faults raised in turn -/

theorem faultsRaised_append {p : Nat} {y : List (FaultKind × FaultClass × FaultKey)} {g h : Flt} (later : faultsRaised p y g h) :
    ∀ {x : List (FaultKind × FaultClass × FaultKey)} {f : Flt}, faultsRaised p x f g → faultsRaised p (x ++ y) f h
  | [], _, same => by rw [show g = _ from same] at later; exact later
  | _ :: _, _, ⟨room, r, made, isX, at_, tag, count, acked, serial, rest⟩ =>
    ⟨room, r, made, isX, at_, tag, count, acked, serial, faultsRaised_append later rest⟩

/-! ### The banks turned (R28) -/

section
variable {s a : State} (turned : a = turnBanks s)
include turned

theorem turned_changes : a = { s with pth := a.pth } := by
  rw [turned]
  apply state_ext <;> simp

theorem turned_flags : a.pth.standby = otherBank s.pth.standby ∧ a.pth.p = (if s.liveBank = none then 0 else s.pth.p)
    ∧ a.pth.rem = (if s.liveBank = none then 0 else s.pth.rem) ∧ a.pth.planEnd = false ∧ a.pth.firedEnd = false
    ∧ a.pth.pendingSwitch = false := by
  rw [turned, turnBanks]
  cases s.liveBank <;> simp

theorem turned_bank : a.bank s.pth.standby = { s.bank s.pth.standby with state := .live } := by
  rw [turned, turnBanks]
  cases s.pth.standby <;> rfl

theorem turned_other : a.bank (otherBank s.pth.standby) = { s.bank (otherBank s.pth.standby) with
    state := if s.liveBank = none then (s.bank (otherBank s.pth.standby)).state else .stale } := by
  rw [turned, turnBanks]
  cases s.pth.standby <;> cases s.liveBank <;> rfl

theorem turned_live : a.liveBank = some s.pth.standby := by
  have state := congrArg Bank.state (turned_bank turned)
  rw [State.liveBank, (turned_flags turned).1, otherBank_otherBank, if_pos state]

theorem turned_entryAt (i : Nat) : a.entryAt s.pth.standby i = s.entryAt s.pth.standby i := by
  rw [State.entryAt, turned_bank turned, State.entryAt]

end

/-! ### The entries set up (R29) -/

/-- A junction of the bank switched in, before its request point is delivered (R29, R88). -/
def State.junctionSetUp (s : State) (e : Entry) (j : Junction) : Junction :=
  { switchedJunction (decide (e.distance < s.pth.p)) j with
    firedRequest := decide (e.distance < s.pth.p ∨ e.distance - j.lead ≤ s.pth.p)
    firedApproach := decide (e.distance < s.pth.p ∨ e.distance - s.cfgNat .approachLen ≤ s.pth.p)
    firedStand := decide (e.distance < s.pth.p ∨ e.distance - s.cfgNat .standLen ≤ s.pth.p)
    firedClearance := decide (e.distance < s.pth.p ∨ min 16777215 (e.distance + s.cfgNat .tramLen) ≤ s.pth.p) }

theorem switchedEntry_junction {e : Entry} {j : Junction} (point : e.point = .junction j) (s : State) :
    s.switchedEntry e = { e with point := .junction (s.junctionSetUp e j) } := by
  unfold State.switchedEntry
  rw [point]
  simp only [State.junctionSetUp, Bool.decide_or, requestPoint, State.approachStart, State.standStart, State.clearance, maxPosition]
  rfl

theorem switchedEntry_stop {e : Entry} {z : Stop} (point : e.point = .stop z) (s : State) :
    s.switchedEntry e = { e with point := .stop { z with
      state := if e.distance < s.pth.p then .passed else .ahead
      firedWindow := decide (e.distance < s.pth.p ∨ min 16777215 (e.distance + s.cfgNat .stopWindow) ≤ s.pth.p) } } := by
  unfold State.switchedEntry
  rw [point]
  simp only [Bool.decide_or, State.windowEnd, maxPosition, decide_eq_true_eq]
  rfl

theorem switchedEntry_place (s : State) (e : Entry) : s.switchedEntry e = { e with point := (s.switchedEntry e).point } := by
  cases point : e.point with
  | junction j => rw [switchedEntry_junction point]
  | stop z => rw [switchedEntry_stop point]

theorem mem_requestsAtOnce {s : State} {b : BankName} {i : Nat} : i ∈ s.requestsAtOnce b
    ↔ ∃ e j, s.entryAt b i = some e ∧ e.point = .junction j ∧ s.pth.p ≤ e.distance ∧ e.distance - j.lead ≤ s.pth.p := by
  unfold State.requestsAtOnce
  rw [List.mem_filterMap]
  constructor
  · rintro ⟨⟨n, e⟩, mem, found⟩
    dsimp only at found
    split at found
    · cases found
    · next j junction =>
      split at found
      · next inside =>
        obtain rfl := Option.some.inj found
        exact ⟨e, j, mem_entries.mp mem, point_of_junction? junction, inside⟩
      · cases found
  · rintro ⟨e, j, at_, point, inside⟩
    refine ⟨(i, e), mem_entries.mpr at_, ?_⟩
    dsimp only
    rw [junction?_of_point point]
    exact if_pos inside

theorem requestsAtOnce_rising (s : State) (b : BankName) : (s.requestsAtOnce b).Pairwise (· < ·) := by
  refine List.Pairwise.filterMap _ (fun x y below m isM n isN => ?_) (entriesFrom_pairwise 0 _)
  have own : ∀ {x : Nat × Entry} {m : Nat}, (match x.2.junction? with
      | none => none
      | some j => if s.pth.p ≤ x.2.distance ∧ requestPoint x.2 j ≤ s.pth.p then some x.1 else none) = some m → x.1 = m := by
    intro x m found
    split at found
    · cases found
    · split at found
      · exact Option.some.inj found
      · cases found
  rw [← own isM, ← own isN]
  exact below

/-- The state of a switch before its plan end and the request record: the entries set up, the requests delivered. -/
def plannedEntries (b : BankName) (s : State) : State :=
  (s.requestsAtOnce b).foldl (fun s i => passRequestPoint b i s)
    (s.setBank b { s.bank b with slots := (s.bank b).slots.map (Option.map s.switchedEntry) })

theorem setUpPlan_eq (b : BankName) (s : State) : setUpPlan b s
    = if (plannedEntries b s).endMarks.any (fun x => decide (x.1 ≤ (plannedEntries b s).pth.p)) = true then
        firePlanEnd (plannedEntries b s) else plannedEntries b s := rfl

end Sys2Proof.Machine
end

section
/-! PROOF. The entries of the bank switched in (R29, R88). -/

namespace Sys2Proof.Machine

/-! ### The entries of the bank switched in -/

section
variable {a t w v : State} {b : BankName} {l : List QueuedTelegram} (p : t.pth.p = a.pth.p)
  (cfg : ∀ x, t.cfgNat x = a.cfgNat x)
include p cfg

/-- A junction set up, its request point not due at once (R29). -/
theorem junctionSwitchedIn_setUp {i : Nat} {e : Entry} {j : Junction} {before : List QueuedTelegram}
    (away : ¬ (a.pth.p ≤ e.distance ∧ e.distance - j.lead ≤ a.pth.p)) :
    junctionSwitchedIn t b i e j (a.junctionSetUp e j) l before := by
  unfold junctionSwitchedIn
  rw [p, cfg, cfg, cfg, cfg]
  refine ⟨rfl, fun behind => ⟨?_, rfl, rfl⟩, fun ahead _ => ⟨?_, rfl, rfl⟩, fun ahead inside => absurd ⟨ahead, inside⟩ away⟩
  · exact if_pos (decide_eq_true behind)
  · exact if_neg (by rw [decide_eq_true_eq]; omega)

/-- A junction whose request point the switch delivers (R29, R89). -/
theorem junctionSwitchedIn_delivered {i : Nat} {e f : Entry} {j k : Junction} {before : List QueuedTelegram} {v : State}
    (tram : v.cfgNat .tramId = a.cfgNat .tramId) (id : f.id = e.id)
    (inside : a.pth.p ≤ e.distance ∧ e.distance - j.lead ≤ a.pth.p)
    (delivered : requestDelivered v b i f (a.junctionSetUp e j) k l before) : junctionSwitchedIn t b i e j k l before := by
  have waiting : (a.junctionSetUp e j).state = .waiting := if_neg (by rw [decide_eq_true_eq]; omega)
  obtain ⟨m, isM⟩ : ∃ m : Telegram, m = { kind := .request j.leg, tram := a.cfgNat .tramId, junction := e.id, number := 1 } :=
    ⟨_, rfl⟩
  have asked := delivered m (by rw [isM, tram, id]; rfl)
  unfold junctionSwitchedIn
  rw [p, cfg, cfg, cfg, cfg]
  rw [id] at asked
  have the : ∀ n : Telegram, n = { kind := .request j.leg, tram := a.cfgNat .tramId, junction := e.id, number := 1 } → n = m :=
    fun n isN => isN.trans isM.symm
  split at asked
  · next free =>
    obtain ⟨isK, mem⟩ := asked
    refine ⟨by rw [isK]; rfl, fun behind => by omega, fun _ before => by omega, fun _ _ n isN => ?_⟩
    rw [if_pos free, the n isN, isK]
    exact ⟨rfl, rfl, rfl, mem⟩
  · next full =>
    refine ⟨by rw [asked]; rfl, fun behind => by omega, fun _ before => by omega, fun _ _ n isN => ?_⟩
    rw [if_neg full, the n isN, asked]
    exact ⟨waiting, rfl, rfl⟩

end

/-! ### The plan set up before its end and the request record -/

/-- From `a` to `w` the entries of the bank `b` are set up and the requests `l` delivered (R29). -/
structure PlanSetUp (b : BankName) (l : List QueuedTelegram) (a w : State) : Prop where
  changes : w = { a with pth := w.pth, loop := w.loop }
  outline : w.outline = a.outline
  otherBank : w.bank (Machine.otherBank b) = a.bank (Machine.otherBank b)
  loop : w.loop = { a.loop with queue := a.loop.queue ++ l }
  ordered : l.Pairwise fun x y => x.index < y.index
  from_ : ∀ q ∈ l, q.bank = b ∧ q.index ∈ a.requestsAtOnce b
  empty : ∀ i, a.entryAt b i = none → w.entryAt b i = none
  junction : ∀ i e j, a.entryAt b i = some e → e.point = .junction j → ∃ k,
    w.entryAt b i = some { e with point := .junction k } ∧ ∀ t : State, t.pth.p = a.pth.p → (∀ x, t.cfgNat x = a.cfgNat x) →
      junctionSwitchedIn t b i e j k l (a.loop.queue ++ l.filter fun q => q.index < i)
  stop : ∀ i e z, a.entryAt b i = some e → e.point = .stop z → w.entryAt b i = some (a.switchedEntry e)

theorem planSetUp (b : BankName) (a : State) : ∃ l, PlanSetUp b l a (plannedEntries b a) := by
  obtain ⟨v, isV⟩ : ∃ v, v = a.setBank b { a.bank b with slots := (a.bank b).slots.map (Option.map a.switchedEntry) } := ⟨_, rfl⟩
  have changesV : v = { a with pth := v.pth } := by rw [isV]; cases b <;> rfl
  have outline : v.outline = a.outline := by rw [isV]; exact setBank_outline rfl
  have loop : v.loop = a.loop := by rw [changesV]
  have atV : ∀ i, v.entryAt b i = (a.entryAt b i).map a.switchedEntry := fun i => by
    rw [isV, State.entryAt, bank_setBank, State.entryAt, List.getElem?_map]
    cases (a.bank b).slots[i]? with
    | none => rfl
    | some x => rfl
  have setUp : ∀ {i e j}, a.entryAt b i = some e → e.point = .junction j →
      v.entryAt b i = some { e with point := .junction (a.junctionSetUp e j) } := fun {i e j} at_ point => by
    rw [atV, at_, Option.map_some, switchedEntry_junction point]
  obtain ⟨l, done⟩ := requestsDelivered_fold (a.requestsAtOnce b) v (requestsAtOnce_rising a b) fun i mem => by
    obtain ⟨e, j, at_, point, ahead, -⟩ := mem_requestsAtOnce.mp mem
    exact ⟨_, _, setUp at_ point, rfl, if_neg (by rw [decide_eq_true_eq]; omega), rfl⟩
  have isW : plannedEntries b a = (a.requestsAtOnce b).foldl (fun s i => passRequestPoint b i s) v := by rw [isV]; rfl
  rw [← isW] at done
  obtain ⟨w, named⟩ : ∃ w, w = plannedEntries b a := ⟨_, rfl⟩
  rw [← named] at done ⊢
  have away : ∀ {i e j}, a.entryAt b i = some e → e.point = .junction j → i ∉ a.requestsAtOnce b →
      ¬ (a.pth.p ≤ e.distance ∧ e.distance - j.lead ≤ a.pth.p) := fun at_ point out inside =>
    out (mem_requestsAtOnce.mpr ⟨_, _, at_, point, inside⟩)
  have stays : ∀ {i e}, a.entryAt b i = some e → (∀ j, e.point ≠ .junction j) → w.entryAt b i = v.entryAt b i :=
    fun {i e} at_ noJunction => done.other i fun mem => by
      obtain ⟨f, j, atF, point, -⟩ := mem_requestsAtOnce.mp mem
      obtain rfl := Option.some.inj (at_.symm.trans atF)
      exact noJunction j point
  refine ⟨l, ?_, done.outline.trans outline, ?_, ?_, done.ordered, done.from_, fun i none_ => ?_, fun i e j at_ point => ?_,
    fun i e z at_ point => ?_⟩
  · rw [done.changes, changesV]
  · rw [done.otherBank, isV, bank_setBank_other]
  · rw [done.loop, loop]
  · rw [done.other i, atV, none_, Option.map_none]
    intro mem
    obtain ⟨f, j, atF, -⟩ := mem_requestsAtOnce.mp mem
    rw [none_] at atF
    cases atF
  · by_cases mem : i ∈ a.requestsAtOnce b
    · obtain ⟨k, atW, delivered⟩ := done.delivered i mem _ _ (setUp at_ point) rfl
      rw [loop] at delivered
      obtain ⟨f, d, atF, pointF, inside⟩ := mem_requestsAtOnce.mp mem
      obtain rfl := Option.some.inj (at_.symm.trans atF)
      obtain rfl := Waypoint.junction.inj (point.symm.trans pointF)
      have tram : v.cfgNat .tramId = a.cfgNat .tramId := by rw [changesV]; rfl
      exact ⟨k, atW, fun t p cfg => junctionSwitchedIn_delivered p cfg tram rfl inside delivered⟩
    · exact ⟨_, (done.other i mem).trans (setUp at_ point),
        fun t p cfg => junctionSwitchedIn_setUp p cfg (away at_ point mem)⟩
  · rw [stays at_ (by rw [point]; nofun), atV, at_, Option.map_some]

end Sys2Proof.Machine
end

section
/-! PROOF. The plan end at a switch, and the request record carried or dropped (R29, R30). -/

namespace Sys2Proof.Machine

theorem firedEnd_of_outline {s t : State} (h : t.outline = s.outline) : t.pth.firedEnd = s.pth.firedEnd :=
  (congrArg Pth.firedEnd h :)

theorem planEnd_of_outline {s t : State} (h : t.outline = s.outline) : t.pth.planEnd = s.pth.planEnd :=
  (congrArg Pth.planEnd h :)

/-! ### The plan end of the bank switched in (R29, R38) -/

section
variable {a w : State} {b : BankName} {l : List QueuedTelegram} (setUp : PlanSetUp b l a w)
include setUp

/-- Each entry stays at its distance. -/
theorem PlanSetUp.distance {i : Nat} {e : Entry} (at_ : a.entryAt b i = some e) :
    ∃ f, w.entryAt b i = some f ∧ f = { e with point := f.point } := by
  cases point : e.point with
  | junction j =>
    obtain ⟨k, atW, -⟩ := setUp.junction i e j at_ point
    exact ⟨_, atW, rfl⟩
  | stop z => exact ⟨_, setUp.stop i e z at_ point, switchedEntry_place a e⟩

/-- The last entry stays the last, at its distance. -/
theorem PlanSetUp.last (n : Nat) : (∃ i f, (w.bank b).entries.getLast? = some (i, f) ∧ min 16777215 (f.distance + n) ≤ a.pth.p)
    ↔ ∃ i e, (a.bank b).entries.getLast? = some (i, e) ∧ min 16777215 (e.distance + n) ≤ a.pth.p := by
  have none_ : ∀ i, w.entryAt b i = none ↔ a.entryAt b i = none := fun i => by
    cases at_ : a.entryAt b i with
    | none => exact ⟨fun _ => rfl, fun _ => setUp.empty i at_⟩
    | some e =>
      obtain ⟨f, atW, -⟩ := setUp.distance at_
      rw [atW]
      exact ⟨nofun, nofun⟩
  simp only [getLast?_entries, none_]
  constructor
  · rintro ⟨i, f, ⟨atW, after⟩, le⟩
    cases at_ : a.entryAt b i with
    | none => rw [(none_ i).mpr at_] at atW; cases atW
    | some e =>
      obtain ⟨g, atG, same⟩ := setUp.distance at_
      obtain rfl := Option.some.inj (atW.symm.trans atG)
      rw [same] at le
      exact ⟨i, e, ⟨at_, after⟩, le⟩
  · rintro ⟨i, e, ⟨at_, after⟩, le⟩
    obtain ⟨f, atW, same⟩ := setUp.distance at_
    exact ⟨i, f, ⟨atW, after⟩, by rw [same]; exact le⟩

/-- The plan end's test at the switch-in (R29). -/
theorem PlanSetUp.endMarks (live : a.liveBank = some b) (unfired : a.pth.firedEnd = false) :
    w.endMarks.any (fun x => decide (x.1 ≤ w.pth.p)) = true ↔ ∃ i e, (a.bank b).entries.getLast? = some (i, e)
      ∧ min 16777215 (e.distance + a.cfgNat .tramLen) ≤ a.pth.p := by
  have firedW : w.pth.firedEnd = false := (firedEnd_of_outline setUp.outline).trans unfired
  have liveW : w.liveBank = some b := (liveBank_of_outline setUp.outline).trans live
  have tramLen : w.cfgNat .tramLen = a.cfgNat .tramLen := by rw [setUp.changes]; rfl
  rw [← setUp.last, State.endMarks, if_neg (by rw [firedW]; exact Bool.false_ne_true), State.liveEntries, liveW,
    position_of_outline setUp.outline, ← tramLen]
  cases (w.bank b).entries.getLast? with
  | none => exact ⟨nofun, nofun⟩
  | some x =>
    simp only [List.any_cons, List.any_nil, Bool.or_false, decide_eq_true_eq, Option.some.injEq]
    exact ⟨fun le => ⟨x.1, x.2, rfl, le⟩, fun ⟨_, _, same, le⟩ => by rw [same]; exact le⟩

end

/-! ### The request record carried or dropped (R30) -/

theorem target_of_pth {s t : State} (h : t.pth = s.pth) : t.target = s.target := by
  have live : t.liveBank = s.liveBank := liveBank_of_outline (outline_of_pth h)
  simp only [State.target, State.liveEntries, live, bank_of_pth h]

theorem carryRequest_spec {s w t : State} (stp : w.stp = s.stp) (carried : t = carryRequest (s.target.map fun x => x.2.id) w) :
    ∃ dropped, t.stp = { s.stp with request := t.stp.request }
      ∧ (s.stp.request = none ∨ s.target = none → dropped = [] ∧ t.stp.request = s.stp.request)
      ∧ (∀ r x, s.stp.request = some r → s.target = some x →
          if t.target.map (fun y => y.2.id) = some x.2.id then dropped = [] ∧ t.stp.request = some r
          else dropped = [(.requestDropped, .notice, .stop x.2.id)] ∧ t.stp.request = none)
      ∧ faultsRaised w.pth.p dropped w.flt t.flt := by
  have target : t.target = w.target := target_of_pth (by rw [carried]; simp)
  have kept : t = w → t.stp = { s.stp with request := t.stp.request } ∧ t.stp.request = s.stp.request
      ∧ faultsRaised w.pth.p [] w.flt t.flt := by
    rintro rfl
    rw [stp]
    exact ⟨rfl, rfl, rfl⟩
  rw [target]
  unfold carryRequest at carried
  rw [stp] at carried
  cases request : s.stp.request with
  | none =>
    rw [request] at carried
    obtain ⟨changes, same, raised⟩ := kept carried
    refine ⟨[], changes, fun _ => ⟨rfl, same.trans request⟩, fun r x isR => ?_, raised⟩
    cases isR
  | some r =>
    cases isTarget : s.target with
    | none =>
      rw [request, isTarget] at carried
      obtain ⟨changes, same, raised⟩ := kept carried
      refine ⟨[], changes, fun _ => ⟨rfl, same.trans request⟩, fun r x _ isX => ?_, raised⟩
      cases isX
    | some x =>
      rw [request, isTarget] at carried
      dsimp only [Option.map_some] at carried
      by_cases own : w.target.map (fun y => y.2.id) = some x.2.id
      · rw [if_pos own] at carried
        obtain ⟨changes, same, raised⟩ := kept carried
        refine ⟨[], changes, by simp, fun q y isR isY => ?_, raised⟩
        rw [← Option.some.inj isY, ← isR, if_pos own]
        exact ⟨rfl, same.trans request⟩
      · rw [if_neg own] at carried
        have raised := storeFault_raised .requestDropped .notice (.stop x.2.id) { w with stp.request := none } nofun
        refine ⟨[(.requestDropped, .notice, .stop x.2.id)], ?_, by simp, fun q y _ isY => ?_, ?_⟩
        · rw [carried, ← stp]
          rfl
        · rw [← Option.some.inj isY, if_neg own, carried]
          exact ⟨rfl, rfl⟩
        · rw [carried]
          exact raised

end Sys2Proof.Machine
end

section
/-! PROOF. A switch of plans makes switchMade (R28 to R30). -/

namespace Sys2Proof.Machine

/-! ### The plan set up, with its end (R29) -/

theorem firePlanEnd_spec (w : State) : (firePlanEnd w).pth = { w.pth with firedEnd := true, planEnd := true }
    ∧ (firePlanEnd w).loop = w.loop ∧ faultsRaised w.pth.p [(.planEnd, .restrict, .none)] w.flt (firePlanEnd w).flt :=
  ⟨rfl, rfl, storeFault_raised .planEnd .restrict .none { w with pth.firedEnd := true, pth.planEnd := true } nofun⟩

/-- The plan set up: its entries, and the plan-end condition (R29). -/
theorem setUpPlan_spec {a x : State} {b : BankName} (live : a.liveBank = some b) (unended : a.pth.planEnd = false)
    (unfired : a.pth.firedEnd = false) (made : x = setUpPlan b a) : ∃ l w, PlanSetUp b l a w
      ∧ x.pth = { w.pth with firedEnd := x.pth.planEnd, planEnd := x.pth.planEnd } ∧ x.loop = w.loop
      ∧ (x.pth.planEnd = true ↔ ∃ i e, (a.bank b).entries.getLast? = some (i, e)
          ∧ min 16777215 (e.distance + a.cfgNat .tramLen) ≤ a.pth.p)
      ∧ faultsRaised a.pth.p (if x.pth.planEnd = true then [(.planEnd, .restrict, .none)] else []) a.flt x.flt := by
  obtain ⟨l, setUp⟩ := planSetUp b a
  obtain ⟨w, isW⟩ : ∃ w, w = plannedEntries b a := ⟨_, rfl⟩
  rw [setUpPlan_eq, ← isW] at made
  rw [← isW] at setUp
  have ends := setUp.endMarks live unfired
  have p := position_of_outline setUp.outline
  have flt : w.flt = a.flt := by rw [setUp.changes]
  refine ⟨l, w, setUp, ?_⟩
  by_cases ended : w.endMarks.any (fun x => decide (x.1 ≤ w.pth.p)) = true
  · rw [if_pos ended] at made
    obtain ⟨pth, loop, raised⟩ := firePlanEnd_spec w
    rw [← made] at pth loop raised
    have planEnd : x.pth.planEnd = true := by rw [pth]
    rw [p, flt] at raised
    rw [planEnd, if_pos rfl]
    exact ⟨pth, loop, ⟨fun _ => ends.mp ended, fun _ => rfl⟩, raised⟩
  · rw [if_neg ended] at made
    subst made
    have planEnd : x.pth.planEnd = false := (planEnd_of_outline setUp.outline).trans unended
    have fired : x.pth.firedEnd = false := (firedEnd_of_outline setUp.outline).trans unfired
    refine ⟨?_, rfl, ⟨fun on => absurd on (by rw [planEnd]; exact Bool.false_ne_true), fun last => absurd (ends.mpr last) ended⟩, ?_⟩
    · rw [planEnd]
      conv_lhs => rw [show x.pth = { x.pth with firedEnd := x.pth.firedEnd, planEnd := x.pth.planEnd } from rfl]
      rw [fired, planEnd]
    · rw [planEnd, if_neg Bool.false_ne_true]
      exact flt

/-! ### The whole switch -/

/-- LOOP after a switch: the REQUESTs at the queue's end. -/
theorem switchPlans_loop (s : State) : ∃ l, (switchPlans s).loop = { s.loop with queue := s.loop.queue ++ l } := by
  obtain ⟨a, turned⟩ : ∃ a, a = turnBanks s := ⟨_, rfl⟩
  obtain ⟨-, -, -, unended, unfired, -⟩ := turned_flags turned
  obtain ⟨l, w, setUp, -, loop, -⟩ := setUpPlan_spec (turned_live turned) unended unfired rfl
  have loopA : a.loop = s.loop := by rw [turned]; simp
  refine ⟨l, ?_⟩
  rw [switchPlans, carryRequest_loop, ← turned, loop, setUp.loop, loopA]

theorem switchPlans_made (s : State) : switchMade s (switchPlans s) := by
  obtain ⟨a, turned⟩ : ∃ a, a = turnBanks s := ⟨_, rfl⟩
  obtain ⟨standby, position, rem, unended, unfired, noSwitch⟩ := turned_flags turned
  have changesA := turned_changes turned
  have bankA := turned_bank turned
  have otherA := turned_other turned
  have liveA := turned_live turned
  have atA := turned_entryAt turned
  obtain ⟨x, isX⟩ : ∃ x, x = setUpPlan s.pth.standby a := ⟨_, rfl⟩
  obtain ⟨l, w, setUp, pthX, loopX, ends, raised⟩ := setUpPlan_spec liveA unended unfired isX
  obtain ⟨t, isT⟩ : ∃ t, t = carryRequest (s.target.map fun x => x.2.id) x := ⟨_, rfl⟩
  have made : switchPlans s = t := by rw [isT, isX, turned]; rfl
  have pthT : t.pth = x.pth := by rw [isT, carryRequest_pth]
  have loopT : t.loop = x.loop := by rw [isT, carryRequest_loop]
  have stpX : x.stp = s.stp := by rw [isX, setUpPlan_stp, changesA]
  obtain ⟨dropped, stp, kept, carried, drops⟩ := carryRequest_spec stpX isT
  have cfg : ∀ q, t.cfgNat q = a.cfgNat q := fun q => by
    have ord : t.ord = a.ord := by rw [isT, carryRequest_ord, isX, setUpPlan_ord]
    rw [State.cfgNat, State.cfg, ord]
    rfl
  have bankT : ∀ c, t.bank c = w.bank c := fun c => by
    rw [bank_of_pth pthT]
    cases c
    · exact (congrArg Pth.bankA pthX :)
    · exact (congrArg Pth.bankB pthX :)
  have atT : ∀ c i, t.entryAt c i = w.entryAt c i := fun c i => by rw [State.entryAt, bankT, State.entryAt]
  have p : t.pth.p = a.pth.p := by rw [pthT, pthX]; exact position_of_outline setUp.outline
  have standbyT : t.pth.standby = otherBank s.pth.standby := by
    rw [pthT, pthX]
    exact (standby_of_outline setUp.outline).trans standby
  have loopA : a.loop = s.loop := by rw [changesA]
  have stateT : (t.bank s.pth.standby).state = .live := by
    rw [bankT, bankState_of_outline setUp.outline, bankA]
  have entryA : (a.bank s.pth.standby).entries = (s.bank s.pth.standby).entries := by rw [bankA]; rfl
  rw [made]
  refine ⟨⟨?_, standbyT, ?_, p.trans position, ?_, ?_, ?_⟩, ⟨l, ?_, setUp.ordered, fun q mem => ?_, fun i => ?_⟩, ?_,
    dropped, stp, kept, carried, ?_⟩
  · rw [State.liveBank, standbyT, otherBank_otherBank, if_pos stateT]
  · rw [standbyT, bankT, setUp.otherBank, otherA]
  · rw [pthT, pthX]
    exact (rem_of_outline setUp.outline).trans rem
  · rw [pthT, pthX]
    exact (pendingSwitch_of_outline setUp.outline).trans noSwitch
  · rw [pthT, pthX]
  · rw [loopT, loopX, setUp.loop, loopA]
  · obtain ⟨own, due⟩ := setUp.from_ q mem
    obtain ⟨e, j, at_, point, inside⟩ := mem_requestsAtOnce.mp due
    rw [p, ← atA]
    exact ⟨e, j, at_, point, own, inside⟩
  · split
    · next none_ => exact (atT _ _).trans (setUp.empty i ((atA i).trans none_))
    · next e at_ =>
      rw [← atA] at at_
      rw [atT]
      split
      · next j point =>
        obtain ⟨k, atW, switched⟩ := setUp.junction i e j at_ point
        rw [loopA] at switched
        exact ⟨_, atW, rfl, k, rfl, switched t p cfg⟩
      · next z point =>
        refine ⟨_, setUp.stop i e z at_ point, switchedEntry_place a e, ?_⟩
        rw [switchedEntry_stop point, p, cfg]
  · rw [pthT, ends, entryA, ← pthT, p, cfg]
  · have flt : a.flt = s.flt := by rw [changesA]
    rw [flt, ← p, ← pthT] at raised
    rw [← pthT] at drops
    exact faultsRaised_append drops raised

end Sys2Proof.Machine
end

section
/-! PROOF. PLAN_SWITCH, the switch at a count close, and PLAN_WITHDRAW: O16 (R26 to R31). -/

namespace Sys2Proof.Machine

/-! ### A switch does not depend on the ports -/

theorem junctionSwitchedIn_congr {t u : State} (p : u.pth.p = t.pth.p) (cfg : ∀ q, u.cfgNat q = t.cfgNat q) {b : BankName}
    {i : Nat} {e : Entry} {j k : Junction} {l before : List QueuedTelegram} :
    junctionSwitchedIn u b i e j k l before = junctionSwitchedIn t b i e j k l before := by
  simp only [junctionSwitchedIn, p, cfg]

theorem switchMade_congr {s r t u : State} (pthS : r.pth = s.pth) (loopS : r.loop.queue = s.loop.queue) (stpS : r.stp = s.stp)
    (fltS : r.flt = s.flt) (pth : u.pth = t.pth) (loop : u.loop.queue = t.loop.queue) (stp : u.stp = t.stp) (flt : u.flt = t.flt)
    (cfg : ∀ q, u.cfgNat q = t.cfgNat q) (made : switchMade s t) : switchMade r u := by
  have liveR : r.liveBank = s.liveBank := liveBank_of_outline (outline_of_pth pthS)
  have liveU : u.liveBank = t.liveBank := liveBank_of_outline (outline_of_pth pth)
  unfold switchMade
  simp only [liveR, liveU, target_of_pth pthS, target_of_pth pth, entryAt_of_pth pthS, entryAt_of_pth pth, bank_of_pth pthS,
    bank_of_pth pth, junctionSwitchedIn_congr (congrArg Pth.p pth) cfg, cfg, loop, loopS, pth, pthS, stp, stpS, flt, fltS]
  exact made

/-! ### The vehicle link at SETTLE's check -/

theorem settleCheck_port {u : State} {p : Port} (not : u.settleOutstanding p = false) : (settleCheck u).port p = u.port p := by
  cases on : u.exchangeInProgress with
  | true => rw [settleCheck, if_pos on]
  | false => exact ((((settleCompleted_settleCheck u).2 (exchange_eq_false_iff.mp on)).2 p).1 not).1

theorem settleOutstanding_of_none {u : State} {p : Port} (free : (u.port p).slot = none) : u.settleOutstanding p = false := by
  rw [State.settleOutstanding, free]

/-! ### PLAN_SWITCH taken (R26) -/

theorem handlePlanSwitch_refused {tag : Byte} {s : State} (refused : (s.port .vehicle).slot ≠ none
    ∨ (s.bank s.pth.standby).state ≠ .ready) : handlePlanSwitch tag (s.taken .vehicle) = (s.taken .vehicle,
      { status := if (s.port .vehicle).slot ≠ none then .busy else .refused, stage := .final
        results := .plan s.pth.standby (s.bank s.pth.standby).state }) := by
  have busy_iff : (s.taken .vehicle).slotBusy .vehicle = true ↔ (s.port .vehicle).slot ≠ none := by
    rw [slotBusy_taken, Option.isSome_iff_ne_none]
  unfold handlePlanSwitch
  by_cases busy : (s.port .vehicle).slot ≠ none
  · rw [if_pos (busy_iff.mpr busy), if_pos busy]
    rfl
  · rw [if_neg (mt busy_iff.mp busy), if_neg busy]
    exact if_pos (refused.resolve_left busy)

theorem handlePlanSwitch_free {tag : Byte} {s : State} (free : (s.port .vehicle).slot = none)
    (ready : (s.bank s.pth.standby).state = .ready) : handlePlanSwitch tag (s.taken .vehicle)
    = if s.liveBank = none then
        (startTransmitter (s.taken .vehicle) (settleCheck (switchPlans (s.taken .vehicle))),
          doneWith ((startTransmitter (s.taken .vehicle) (settleCheck (switchPlans (s.taken .vehicle)))).planResults s.pth.standby))
      else (enterSlot .vehicle tag .planSwitch { s.taken .vehicle with pth.pendingSwitch := true },
        acceptedWith (.plan s.pth.standby .ready)) := by
  have notBusy : ¬ (s.taken .vehicle).slotBusy .vehicle = true := by rw [slotBusy_taken, free]; exact Bool.false_ne_true
  unfold handlePlanSwitch
  rw [if_neg notBusy]
  refine (if_neg (not_not_intro ready)).trans ?_
  by_cases live : s.liveBank = none
  · rw [if_pos live]
    exact if_pos (Option.isNone_iff_eq_none.mpr live)
  · rw [if_neg live]
    refine (if_neg (mt Option.isNone_iff_eq_none.mp live)).trans ?_
    rw [← ready]
    rfl

/-- The switch at once (R26): the vehicle link holds no order before and after. -/
theorem switchedAtOnce {s r t : State} (taken : r = s.taken .vehicle) (free : (s.port .vehicle).slot = none)
    (made : t = startTransmitter r (settleCheck (switchPlans r))) : switchMade s t
      ∧ transmitterBegun s.loop.queue { s.loop with queue := t.loop.queue } t.loop ∧ t.slotOf .vehicle = none
      ∧ t.eff = s.eff ∧ t.aut = s.aut ∧ t.axl = s.axl ∧ t.snd = s.snd := by
  have loopR : r.loop = s.loop := by rw [taken]; rfl
  obtain ⟨l, loop⟩ := switchPlans_loop r
  have loopT : t.loop = startSending s.loop.queue { s.loop with queue := s.loop.queue ++ l } := by
    rw [made, startTransmitter, settleCheck_loop, loop, loopR]
  obtain ⟨w, isW⟩ : ∃ w, w = switchPlans r := ⟨_, rfl⟩
  have queue : t.loop.queue = w.loop.queue := by
    rw [loopT, startSending_queue, isW, loop, loopR]
  have freeW : (w.port .vehicle).slot = none := by
    rw [isW, port_of_ord (switchPlans_ord r), taken, taken_slot, free]
  have cfg : ∀ q, t.cfgNat q = w.cfgNat q := fun q => by
    have config : t.ord.config = w.ord.config := by
      rw [made, ← isW]
      simp [startTransmitter]
    rw [State.cfgNat, State.cfg, config]
    rfl
  refine ⟨?_, ?_, ?_, ?_, ?_, ?_, ?_⟩
  · refine switchMade_congr (s := r) (t := w) ?_ ?_ ?_ ?_ ?_ queue ?_ ?_ cfg (isW ▸ switchPlans_made r)
    · rw [taken]; rfl
    · rw [loopR]
    · rw [taken]; rfl
    · rw [taken]; rfl
    · rw [made, ← isW]; simp [startTransmitter]
    · rw [made, ← isW]; simp [startTransmitter]
    · rw [made, ← isW]; simp [startTransmitter]
  · rw [queue, isW, loop, loopR, loopT]
    exact startSending_begun ..
  · rw [State.slotOf, made, ← isW]
    exact (congrArg PortContext.slot (settleCheck_port (settleOutstanding_of_none freeW))).trans freeW
  · rw [made, taken]; simp [startTransmitter]
  · rw [made, taken]; simp [startTransmitter]
  · rw [made, taken]; simp [startTransmitter]
  · rw [made, taken]; simp [startTransmitter]

/-! ### The switch at a count close (R27) -/

theorem junctionActive_eq_false_iff {s : State} : s.junctionActive = false ↔ ∀ y ∈ s.liveEntries, ∀ j,
    y.2.point = .junction j → j.state ≠ .asked ∧ j.state ≠ .moving ∧ j.state ≠ .locked := by
  have active : ∀ x : JunctionState, isActive x = false ↔ x ≠ .asked ∧ x ≠ .moving ∧ x ≠ .locked := fun x => by
    cases x <;> simp [isActive]
  unfold State.junctionActive State.liveJunctionStates
  rw [List.any_eq_false]
  constructor
  · intro none_ y mem j point
    refine (active j.state).mp (Bool.eq_false_iff.mpr (none_ _ (List.mem_filterMap.mpr ⟨y, mem, ?_⟩)))
    rw [junction?_of_point point]
    rfl
  · intro none_ x mem
    obtain ⟨y, memY, isX⟩ := List.mem_filterMap.mp mem
    obtain ⟨j, junction, rfl⟩ := Option.map_eq_some_iff.mp isX
    exact Bool.eq_false_iff.mp ((active j.state).mpr (none_ y memY j (point_of_junction? junction)))

/-- The frames of a count close's picture (R196). -/
theorem pictureClose_outbound (w : State) (p : Port) : ((pictureClose w).port p).outbound = (w.port p).outbound
    ++ if w.ord.pictureCount < 4 then [] else [.picture (pictureClose w).picture] := by
  unfold pictureClose
  split
  · rw [List.append_nil]
    rfl
  · rw [sendPicture_outbound]
    rfl

/-- What a count close leaves once the switch conditions are examined: LOOP may begin, and each port its picture. -/
theorem countClose_of_examined {s u t : State} (examined : u = examineSwitch s.beforeSwitch) (made : t = countClose s) :
    t.pth = u.pth ∧ t.stp = u.stp ∧ t.loop = startSending s.loop.queue u.loop
      ∧ (u.settleOutstanding .vehicle = false → (t.port .vehicle).slot = (u.port .vehicle).slot
        ∧ (t.port .vehicle).outbound = (u.port .vehicle).outbound
          ++ if s.ord.pictureCount < 4 then [] else [.picture t.picture]) := by
  obtain ⟨c, isC⟩ : ∃ c, c = closeBeforeEffort s := ⟨_, rfl⟩
  have closed : c = startTransmitter s (settleCheck u) := by rw [isC, examined]; rfl
  obtain ⟨w, isW⟩ : ∃ w, w = updateSand (effClose c) := ⟨_, rfl⟩
  have ordW : w.ord = c.ord := by rw [isW, updateSand_ord, effClose_ord]
  have count : w.ord.pictureCount = s.ord.pictureCount := by
    have settings : (closeBeforeEffort s).ord.settings = (putConfigInForce s).ord.settings := by simp [closeBeforeEffort]
    rw [ordW, isC, pictureCount_of_settings settings]
    rfl
  have last : t = pictureClose w := by rw [made, isW, isC]; rfl
  refine ⟨?_, ?_, ?_, fun not => ?_⟩
  · rw [made, countClose_pth, ← isC, closed, startTransmitter, settleCheck_pth]
  · rw [made, countClose_stp, ← isC, closed, startTransmitter, settleCheck_stp]
  · rw [made, countClose_loop, ← isC, closed, startTransmitter, settleCheck_loop]
  · have port : w.port .vehicle = u.port .vehicle := by
      rw [port_of_ord ordW, closed, startTransmitter, ← settleCheck_port not]
      rfl
    have outbound := pictureClose_outbound w .vehicle
    rw [← last, port, count] at outbound
    refine ⟨?_, outbound⟩
    rw [last]
    exact ((after_pictureClose w).slots .vehicle).trans (congrArg PortContext.slot port)

end Sys2Proof.Machine
end

section
/-! PROOF. PLAN_SWITCH, the switch at a count close, and PLAN_WITHDRAW: O16 (R26 to R31). -/

namespace Sys2Proof.Machine

theorem beforeSwitch_port (s : State) (p : Port) : s.beforeSwitch.port p = s.port p := by
  have ports : s.beforeSwitch.ord.ports = s.ord.ports := by
    rw [State.beforeSwitch]
    simp
    rfl
  rw [State.port, ports]
  rfl

theorem beforeSwitch_pendingSwitch (s : State) : s.beforeSwitch.pth.pendingSwitch = s.pth.pendingSwitch := by
  obtain ⟨a, isA⟩ : ∃ a, a = axlClose (putConfigInForce s) := ⟨_, rfl⟩
  have pthA : a.pth = s.pth := by rw [isA, axlClose_pth, putConfigInForce_pth]
  obtain ⟨-, -, pending, -⟩ := advancePosition_spec a
  rw [State.beforeSwitch, ← isA, (beforeSwitch_of_advance rfl).1, pending, pthA]

/-- A pending switch that takes place, or stays pending, at a count close (R27). -/
theorem countClose_switch {s v t : State} {x : Slot} {holds : Prop} (pending : s.pth.pendingSwitch = true)
    (slot : (s.port .vehicle).slot = some x) (order : x.order = .planSwitch) (isV : v = s.beforeSwitch)
    (holds_iff : holds ↔ v.standstill = true ∧ (v.stp.dwell = .running ∨ v.stp.dwell = .dwell)
      ∧ ∀ y ∈ v.liveEntries, ∀ j, y.2.point = .junction j → j.state ≠ .asked ∧ j.state ≠ .moving ∧ j.state ≠ .locked)
    (made : t = countClose s) :
    (holds → (∃ w, switchMade v w ∧ t.pth = w.pth ∧ t.stp = w.stp
          ∧ transmitterBegun s.loop.queue { v.loop with queue := w.loop.queue } t.loop)
        ∧ (t.port .vehicle).slot = none
        ∧ (t.port .vehicle).outbound = (s.port .vehicle).outbound
            ++ completionReply x.tag 17 .done (.plan x.bank (t.bank x.bank).state)
              :: (if s.ord.pictureCount < 4 then [] else [.picture t.picture]))
      ∧ (¬ holds → t.pth = v.pth ∧ transmitterBegun s.loop.queue v.loop t.loop ∧ t.stp = v.stp
        ∧ (t.port .vehicle).slot = some x
        ∧ (t.port .vehicle).outbound = (s.port .vehicle).outbound
            ++ if s.ord.pictureCount < 4 then [] else [.picture t.picture]) := by
  have portV : v.port .vehicle = s.port .vehicle := by rw [isV, beforeSwitch_port]
  have condition : (v.pth.pendingSwitch = true ∧ v.standstill = true ∧ v.junctionActive = false
      ∧ (v.stp.dwell = .running ∨ v.stp.dwell = .dwell)) ↔ holds := by
    rw [holds_iff, junctionActive_eq_false_iff, isV, beforeSwitch_pendingSwitch]
    exact ⟨fun ⟨_, still, idle, dwell⟩ => ⟨still, dwell, idle⟩, fun ⟨still, dwell, idle⟩ => ⟨pending, still, idle, dwell⟩⟩
  obtain ⟨u, examined⟩ : ∃ u, u = examineSwitch s.beforeSwitch := ⟨_, rfl⟩
  obtain ⟨pth, stp, loop, port⟩ := countClose_of_examined examined made
  rw [← isV, examineSwitch] at examined
  constructor
  · intro holds
    rw [if_pos (condition.mpr holds), completeSwitch] at examined
    obtain ⟨w, isW⟩ : ∃ w, w = switchPlans v := ⟨_, rfl⟩
    have portW : w.port .vehicle = s.port .vehicle := by rw [isW, port_of_ord (switchPlans_ord v), portV]
    rw [← isW] at examined
    obtain ⟨l, loopW⟩ := switchPlans_loop v
    rw [← isW] at loopW
    obtain ⟨empty, outbound⟩ := completePlan_outbound (status := .done) (by rw [portW, slot]) order
    rw [← examined] at empty outbound
    have pthU : u.pth = w.pth := by rw [examined, completePlan_pth]
    obtain ⟨slotT, outboundT⟩ := port (settleOutstanding_of_none empty)
    refine ⟨⟨w, isW ▸ switchPlans_made v, pth.trans pthU, ?_, ?_⟩, slotT.trans empty, ?_⟩
    · rw [stp, examined, completePlan_stp]
    · rw [loop, examined, completePlan_loop, loopW]
      exact startSending_begun ..
    · rw [outboundT, outbound, portW, List.append_assoc, bank_of_pth (pth.trans pthU)]
      rfl
  · intro fails
    rw [if_neg (mt condition.mp fails)] at examined
    subst examined
    have not : u.settleOutstanding .vehicle = false := by
      rw [State.settleOutstanding, portV, slot]
      dsimp only
      rw [order]
      rfl
    obtain ⟨slotT, outboundT⟩ := port not
    refine ⟨pth, ?_, stp, ?_, ?_⟩
    · rw [loop]
      exact startSending_begun ..
    · rw [slotT, portV, slot]
    · rw [outboundT, portV]

/-- Settles O16: PLAN_SWITCH's rows, the pending switch at a count close, and PLAN_WITHDRAW. -/
theorem planSwitchTurnsTheBanks : Obligations.PlanSwitchTurnsTheBanks := by
  unfold Obligations.PlanSwitchTurnsTheBanks
  refine ⟨fun tag s ready => ?_, fun s x pending slot order => ⟨_, rfl, fun v holds isV holds_iff =>
    countClose_switch pending slot order isV holds_iff rfl⟩, fun tag s ready => ⟨fun x pending slot order => ?_, fun none_ => ?_⟩⟩
  · by_cases refused : (s.port .vehicle).slot ≠ none ∨ (s.bank s.pth.standby).state ≠ .ready
    · rw [if_pos refused]
      exact exec_final ready nofun (handlePlanSwitch_refused refused)
    · rw [if_neg refused]
      obtain ⟨free, isReady⟩ := not_or.mp refused
      have handled := handlePlanSwitch_free (tag := tag) (not_not.mp free) (not_not.mp isReady)
      by_cases live : s.liveBank = none
      · rw [if_pos live] at handled ⊢
        obtain ⟨t, made⟩ : ∃ t, t = startTransmitter (s.taken .vehicle) (settleCheck (switchPlans (s.taken .vehicle))) := ⟨_, rfl⟩
        obtain ⟨switched, begun, empty, kept⟩ := switchedAtOnce rfl (not_not.mp free) made
        rw [← made] at handled
        have results : t.planResults s.pth.standby = .plan s.pth.standby .live := by
          obtain ⟨⟨isLive, turned, -⟩, -⟩ := switched
          unfold State.liveBank at isLive
          rw [turned, otherBank_otherBank] at isLive
          rw [State.planResults]
          split at isLive
          · next state => rw [state]
          · cases isLive
        rw [results] at handled
        refine ⟨_, exec_final ready nofun handled, ?_, begun, ?_, (sent_slot ..).trans empty, kept⟩
        · exact switchMade_congr rfl rfl rfl rfl rfl rfl rfl rfl (fun _ => rfl) switched
        · rw [sent_outbound, List.getLast?_concat]
      · rw [if_neg live] at handled ⊢
        exact exec_accepted ready nofun handled
  · have held : (({ s.taken .vehicle with pth.pendingSwitch := false } : State).port .vehicle).slot = some x :=
      (taken_slot s .vehicle).trans slot
    have handled : handleOrder .vehicle tag .planWithdraw (s.taken .vehicle)
        = (completePlan .planSwitch .withdrawn { s.taken .vehicle with pth.pendingSwitch := false },
          planAnswer .done (completePlan .planSwitch .withdrawn { s.taken .vehicle with pth.pendingSwitch := false })) :=
      if_pos pending
    rw [completePlan_of_slot held order] at handled
    have two : ∀ a b : OutFrame, (s.port .vehicle).outbound ++ [a, b] = ((s.port .vehicle).outbound ++ [a]) ++ [b] := fun a b => by
      rw [List.append_assoc]
      rfl
    rw [two]
    exact exec_final ready nofun handled
  · refine exec_final ready nofun ?_
    exact if_neg (by rw [show (s.taken .vehicle).pth.pendingSwitch = false from none_]; exact Bool.false_ne_true)

end Sys2Proof.Machine
end

section
/-! PROOF. What telegrams offered leave of LOOP and of a bank with nothing due (R90, R109). -/

namespace Sys2Proof.Machine

/-- A bank none of whose junctions has a telegram due. -/
def State.bankQuiet (s : State) (c : BankName) : Prop :=
  ∀ i e j, s.entryAt c i = some e → e.point = .junction j → j.due = []

/-- From `s` to `t` LOOP has changed in its queue alone, and the bank `c` not at all if it had nothing due. -/
structure Offering (c : BankName) (s t : State) : Prop where
  loop : t.loop = { s.loop with queue := t.loop.queue }
  bank : s.bankQuiet c → t.bank c = s.bank c

variable {c : BankName}

theorem bankQuiet_of_bank {s t : State} (h : t.bank c = s.bank c) (quiet : s.bankQuiet c) : t.bankQuiet c :=
  fun i e j at_ => quiet i e j (by rw [State.entryAt, h] at at_; exact at_)

theorem Offering.refl (s : State) : Offering c s s := ⟨rfl, fun _ => rfl⟩

theorem Offering.trans {s t u : State} (first : Offering c s t) (second : Offering c t u) : Offering c s u :=
  ⟨second.loop.trans (by rw [first.loop]), fun quiet =>
    (second.bank (bankQuiet_of_bank (first.bank quiet) quiet)).trans (first.bank quiet)⟩

theorem Offering.of_blocks {s t : State} (loop : t.loop = s.loop) (bank : t.bank c = s.bank c) : Offering c s t :=
  ⟨by rw [loop], fun _ => bank⟩

theorem Offering.modJunction {s : State} {b : BankName} {i : Nat} {f : Junction → Junction} (away : s.bankQuiet c → b ≠ c) :
    Offering c s (s.modJunction b i f) :=
  ⟨by rw [State.modJunction, State.modEntry, setBank_loop], fun quiet => bank_setBank_ne _ _ (away quiet).symm⟩

theorem Offering.offered (t : Telegram) (b : BankName) (i : Nat) (s : State) {a : OfferAnswer} {x : Loop}
    (offer : offerTelegram t b i s.loop = (a, x)) : Offering c s { s with loop := x } := by
  refine ⟨?_, fun _ => by cases c <;> rfl⟩
  unfold offerTelegram at offer
  split at offer
  · cases offer; rfl
  · split at offer
    · cases offer; rfl
    · split at offer
      · cases offer; rfl
      · cases offer; rfl

theorem afterTaken_bank_ne {b : BankName} (ne : b ≠ c) (t : Telegram) (i : Nat) (s : State) :
    (afterTaken t b i s).bank c = s.bank c := by
  unfold Machine.afterTaken
  split
  · exact bank_setBank_ne _ _ ne.symm
  · rfl

theorem Offering.afterTaken {s u : State} {b : BankName} (first : Offering c s u) (away : s.bankQuiet c → b ≠ c) (t : Telegram)
    (i : Nat) : Offering c s (afterTaken t b i u) :=
  ⟨by rw [afterTaken_loop]; exact first.loop, fun quiet => (afterTaken_bank_ne (away quiet) ..).trans (first.bank quiet)⟩

/-- A bank with nothing due has no due head. -/
theorem away_of_dueHead {s : State} {b : BankName} {i : Nat} {t : Telegram} (head : s.dueHead b i = some t) :
    s.bankQuiet c → b ≠ c := by
  rintro quiet rfl
  unfold State.dueHead State.junctionAt at head
  obtain ⟨j, junction, first⟩ := Option.bind_eq_some_iff.mp head
  obtain ⟨e, at_, isJ⟩ := Option.bind_eq_some_iff.mp junction
  rw [quiet i e j at_ (point_of_junction? isJ)] at first
  cases first

theorem offering_offerHeads : ∀ (l : List (BankName × Nat)) (s : State), Offering c s (offerHeads l s).1
  | [], s => .refl s
  | (b, i) :: rest, s => by
    unfold offerHeads
    split
    · exact .refl s
    · split
      · exact offering_offerHeads rest s
      · next t head =>
        have away := away_of_dueHead (c := c) head
        have popped : ∀ {a} (x : Loop), offerTelegram t b i s.loop = (a, x) → Offering c s
            (({ s with loop := x } : State).modJunction b i fun j => { j with due := j.due.tail }) := fun x offer =>
          have same : ({ s with loop := x } : State).bank c = s.bank c := by cases c <;> rfl
          (Offering.offered t b i s offer).trans (.modJunction fun quiet => away (bankQuiet_of_bank same.symm quiet))
        dsimp only
        split
        · exact offering_offerHeads rest s
        · next x offer =>
          exact ((popped x offer).afterTaken away t i).trans (offering_offerHeads rest _)
        · next x offer => exact popped x offer

theorem offering_reofferWith : ∀ (n : Nat) (s : State), Offering c s (reofferWith n s)
  | 0, s => .refl s
  | n + 1, s => by
    have offered := offering_offerHeads (c := c) s.offeringOrder s
    unfold reofferWith
    split
    · next h => rw [h] at offered; exact offered.trans (offering_reofferWith n _)
    · next h => rw [h] at offered; exact offered

/-- A telegram made for an entry of another bank. -/
theorem offering_makeOffer {b : BankName} (ne : b ≠ c) (t : Telegram) (i : Nat) (s : State) : Offering c s (makeOffer t b i s) := by
  rcases makeOffer_cases t b i s with ⟨x, offer, h⟩ | ⟨x, offer, h⟩ | ⟨-, h⟩ <;> rw [h]
  · exact (Offering.offered t b i s offer).afterTaken (fun _ => ne) t i
  · exact (Offering.offered t b i s offer).trans (offering_reofferWith ..)
  · exact .modJunction fun _ => ne

/-- The live plan retired: LOOP's queue alone, and the other bank only where it had a telegram due (R104). -/
theorem offering_retireJunction {b : BankName} (ne : b ≠ c) (i : Nat) (s : State) : Offering c s (retireJunction b i s) := by
  have retired : ∀ t, Offering c s (makeOffer t b i (s.modJunction b i passedJunction)) := fun t =>
    (Offering.modJunction fun _ => ne).trans (offering_makeOffer ne t i _)
  unfold retireJunction
  split
  · exact .refl s
  · split
    · exact .refl s
    · split
      exacts [retired _, retired _, retired _, .modJunction fun _ => ne, .refl s, .refl s, .refl s, .refl s]

theorem offering_retireJunctions {b : BankName} (ne : b ≠ c) (s : State) : Offering c s (retireJunctions b s) := by
  have all : ∀ (l : List Nat) (s : State), Offering c s (l.foldl (fun s i => retireJunction b i s) s) := by
    intro l
    induction l with
    | nil => exact fun s => .refl s
    | cons i l ih => exact fun s => (offering_retireJunction ne i s).trans (ih _)
  exact all _ s

end Sys2Proof.Machine
end

section
/-! PROOF. The live plan retired at a change of live end (R32, R104, R131). -/

namespace Sys2Proof.Machine

@[simp] theorem retireJunction_outline (b : BankName) (i : Nat) (s : State) : (retireJunction b i s).outline = s.outline := by
  have retired : ∀ t, (makeOffer t b i (s.modJunction b i passedJunction)).outline = s.outline := fun t =>
    (makeOffer_outline ..).trans (modJunction_outline ..)
  unfold retireJunction
  split
  · rfl
  · split
    · rfl
    · split
      exacts [retired _, retired _, retired _, modJunction_outline .., rfl, rfl, rfl, rfl]

@[simp] theorem retireJunctions_outline (b : BankName) (s : State) : (retireJunctions b s).outline = s.outline :=
  foldl_keeps (g := State.outline) (fun t i => retireJunction_outline b i t) _ s

/-- The request record dropped with its NOTICE where a stop was the target (R131). -/
theorem dropRequest_spec (old : Option Nat) (s : State) : (dropRequest old s).stp.request = none
    ∧ ∀ r id, s.stp.request = some r → old = some id → ∃ f, (dropRequest old s).flt.queue.getLast? = some f
      ∧ f.kind = .requestDropped ∧ f.cls = .notice ∧ f.key = .stop id ∧ f.tag = none := by
  unfold dropRequest
  cases request : s.stp.request with
  | none => exact ⟨request, nofun⟩
  | some r =>
    cases old with
    | none => exact ⟨rfl, fun _ _ _ isOld => absurd isOld nofun⟩
    | some n =>
      refine ⟨rfl, fun _ id _ same => ⟨_, List.getLast?_concat, rfl, rfl, ?_, rfl⟩⟩
      rw [Option.some.inj same]
      rfl

/-- A state whose live bank is STALE and whose position is cleared, its junctions not yet retired (R32). -/
def stalePlan (b : BankName) (s : State) : State :=
  { s.setBank b { s.bank b with state := .stale } with pth.p := 0, pth.rem := 0, pth.planEnd := false }

theorem retireLive_dead {s : State} (dead : s.liveBank = none) :
    retireLive s = { s with pth.p := 0, pth.rem := 0, pth.planEnd := false } := by
  unfold retireLive
  rw [dead]

theorem retireLive_live {s : State} {b : BankName} (live : s.liveBank = some b) :
    retireLive s = dropRequest (s.target.map fun x => x.2.id) (retireJunctions b (stalePlan b s)) := by
  unfold retireLive
  rw [live]
  rfl

theorem otherBank_of_live {s : State} {b : BankName} (live : s.liveBank = some b) : b = otherBank s.pth.standby := by
  unfold State.liveBank at live
  split at live
  · exact (Option.some.inj live).symm
  · cases live

section
variable {g u : State} (retired : u = retireLive g)
include retired

/-- PTH after a retirement, but for the entries (R32). -/
theorem retireLive_fields : u.pth.p = 0 ∧ u.pth.rem = 0 ∧ u.pth.standby = g.pth.standby
    ∧ u.pth.pendingSwitch = g.pth.pendingSwitch ∧ u.liveBank = none
    ∧ ∀ b, g.liveBank = some b → (u.bank b).state = .stale := by
  cases live : g.liveBank with
  | none =>
    rw [retireLive_dead live] at retired
    subst retired
    exact ⟨rfl, rfl, rfl, rfl, live, nofun⟩
  | some b =>
    rw [retireLive_live live] at retired
    have pth : u.pth = (retireJunctions b (stalePlan b g)).pth := by rw [retired, dropRequest_pth]
    have outline : u.outline = (stalePlan b g).outline := (outline_of_pth pth).trans (retireJunctions_outline ..)
    have standby : u.pth.standby = g.pth.standby := (standby_of_outline outline).trans (setBank_pth_standby ..)
    have stale : (u.bank b).state = .stale := by
      rw [bankState_of_outline outline]
      cases b <;> rfl
    refine ⟨position_of_outline outline, rem_of_outline outline, standby, ?_, ?_, fun c same => Option.some.inj same ▸ stale⟩
    · exact (pendingSwitch_of_outline outline).trans (setBank_pth_pendingSwitch ..)
    · rw [State.liveBank, standby, ← otherBank_of_live live, stale]
      rfl

/-- LOOP after a retirement, and the standby bank. -/
theorem retireLive_offering : Offering g.pth.standby g u := by
  cases live : g.liveBank with
  | none =>
    rw [retired, retireLive_dead live]
    exact .of_blocks rfl (by cases g.pth.standby <;> rfl)
  | some b =>
    have ne : b ≠ g.pth.standby := by
      rw [otherBank_of_live live]
      exact otherBank_ne _
    have bank : (stalePlan b g).bank g.pth.standby = g.bank g.pth.standby := by
      rw [← bank_setBank_ne { g.bank b with state := .stale } g ne.symm]
      exact rfl
    have dropped : ∀ r, Offering g.pth.standby r (dropRequest (g.target.map fun x => x.2.id) r) := fun r =>
      .of_blocks (dropRequest_loop ..) (bank_of_pth (dropRequest_pth ..) _)
    have stale : Offering g.pth.standby g (stalePlan b g) := .of_blocks (setBank_loop ..) bank
    rw [retired, retireLive_live live]
    exact (stale.trans (offering_retireJunctions ne _)).trans (dropped _)

/-- The request record dropped (R131). -/
theorem retireLive_drops (live : g.liveBank ≠ none) : u.stp.request = none
    ∧ ∀ r y, g.stp.request = some r → g.target = some y → ∃ f, u.flt.queue.getLast? = some f ∧ f.kind = .requestDropped
      ∧ f.cls = .notice ∧ f.key = .stop y.2.id ∧ f.tag = none := by
  obtain ⟨b, isLive⟩ := Option.ne_none_iff_exists'.mp live
  have stp : (retireJunctions b (stalePlan b g)).stp = g.stp := (retireJunctions_stp ..).trans (setBank_stp ..)
  obtain ⟨gone, noted⟩ := dropRequest_spec (g.target.map fun x => x.2.id) (retireJunctions b (stalePlan b g))
  rw [retired, retireLive_live isLive]
  exact ⟨gone, fun q y request target => noted q y.2.id (by rw [stp, request]) (by rw [target]; rfl)⟩

end

end Sys2Proof.Machine
end

section
/-! PROOF. CLAIM: O41 (R7, R8, R27, R32, R131). -/

namespace Sys2Proof.Machine

/-! ### The plan retired, and a pending switch (R27, R32) -/

section
variable {g t : State} (made : t = startTransmitter g (settleCheck (retirePlan g)))
include made

theorem retired_blocks : t.aut = g.aut ∧ t.eff = g.eff ∧ t.axl = g.axl ∧ t.snd = g.snd ∧ t.ord.settings = g.ord.settings := by
  rw [made]
  simp [startTransmitter]

theorem retired_pth : t.pth = (retirePlan g).pth := by
  rw [made, startTransmitter, settleCheck_pth]

/-- The transmitter begins with what the retirement and the switch have queued (R111). -/
theorem retired_begins : transmitterBegun g.loop.queue { g.loop with queue := t.loop.queue } t.loop := by
  have queue : (retirePlan g).loop = { g.loop with queue := (retirePlan g).loop.queue } := by
    have retired := (retireLive_offering (g := g) rfl).loop
    rw [retirePlan_eq]
    split
    · obtain ⟨l, loop⟩ := switchPlans_loop (retireLive g)
      rw [completeSwitch, completePlan_loop, loop, retired]
    · exact retired
  have loop : t.loop = startSending g.loop.queue (retirePlan g).loop := by rw [made, startTransmitter, settleCheck_loop]
  rw [loop, startSending_queue, ← queue]
  exact startSending_begun ..

/-- A retirement with no switch pending. -/
theorem retired_alone (none_ : g.pth.pendingSwitch = false) {u : State} (retired : u = retireLive g) :
    t.pth = u.pth ∧ t.stp = u.stp ∧ t.flt = u.flt := by
  have plan : retirePlan g = u := by
    rw [retirePlan_eq, ← retired, if_neg]
    rw [(retireLive_fields retired).2.2.2.1, none_]
    exact Bool.false_ne_true
  rw [made, plan]
  simp [startTransmitter]

/-- A retirement with a switch pending, which then takes place (R27). -/
theorem retired_switch (pending : g.pth.pendingSwitch = true) {u : State} (retired : u = retireLive g) :
    switchMade u t ∧ ∀ x, (g.port .vehicle).slot = some x → x.order = .planSwitch → t.slotOf .vehicle = none
      ∧ (t.port .vehicle).outbound = (g.port .vehicle).outbound
        ++ [completionReply x.tag 17 .done (.plan x.bank (t.bank x.bank).state)] := by
  obtain ⟨w, isW⟩ : ∃ w, w = switchPlans u := ⟨_, rfl⟩
  have plan : retirePlan g = completePlan .planSwitch .done w := by
    rw [retirePlan_eq, ← retired, if_pos, completeSwitch, isW]
    rw [(retireLive_fields retired).2.2.2.1, pending]
  rw [plan] at made
  have portW : w.port .vehicle = g.port .vehicle := by
    rw [isW, port_of_ord (switchPlans_ord u), retired, port_of_ord (retireLive_ord g)]
  have pth : t.pth = w.pth := by rw [made]; simp [startTransmitter]
  have cfg : ∀ q, t.cfgNat q = w.cfgNat q := fun q => by
    have settings : t.ord.settings = w.ord.settings := by
      rw [made]
      simp [startTransmitter]
    have config : t.ord.config = w.ord.config := (congrArg Ord.config settings :)
    rw [State.cfgNat, State.cfg, config]
    rfl
  constructor
  · refine switchMade_congr rfl rfl rfl rfl pth ?_ ?_ ?_ cfg (isW ▸ switchPlans_made u)
    · rw [made, startTransmitter, startSending_queue, settleCheck_loop, completePlan_loop]
    · rw [made]; simp [startTransmitter]
    · rw [made]; simp [startTransmitter]
  · intro x slot order
    obtain ⟨empty, outbound⟩ := completePlan_outbound (status := .done) (by rw [portW, slot]) order
    have port : t.port .vehicle = (completePlan .planSwitch .done w).port .vehicle := by
      rw [made]
      exact settleCheck_port (settleOutstanding_of_none empty)
    rw [State.slotOf, port]
    refine ⟨empty, outbound.trans ?_⟩
    rw [portW, bank_of_pth pth]
    rfl

end

/-- PTH's position after a retirement, whether a switch was pending or not. -/
theorem retired_position {g t : State} (made : t = startTransmitter g (settleCheck (retirePlan g))) :
    t.pth.p = 0 ∧ t.pth.rem = 0 ∧ t.pth.pendingSwitch = false := by
  obtain ⟨u, retired⟩ : ∃ u, u = retireLive g := ⟨_, rfl⟩
  obtain ⟨p, rem, -, pendingU, dead, -⟩ := retireLive_fields retired
  cases pending : g.pth.pendingSwitch with
  | false =>
    obtain ⟨pth, -⟩ := retired_alone made pending retired
    rw [pth]
    exact ⟨p, rem, pendingU.trans pending⟩
  | true =>
    obtain ⟨⟨⟨-, -, -, p, rem, switched, -⟩, -⟩, -⟩ := retired_switch made pending retired
    rw [if_pos dead] at p rem
    exact ⟨p, rem, switched⟩

/-! ### Authority granted (R8) -/

/-- The grant before a change of live end. -/
theorem granted_changes {g s : State} {c : CabEnd}
    (granted : g = offerSettle .authority 10 (resetLever { s with aut := grantedAut c s.aut })) :
    g = { s with
      aut := { s.aut with
        authority := .live c, keyLost := false, handover := .stopped, silence := .running 1200 0
        gripHeld := false, vigilance := .stopped, lastLive := some c }
      eff := { s.eff with
        l := 0, selector := .neutral, taken := .forward, d := 0
        settleCount := max 10 s.eff.settleCount
        settleReason := if s.eff.settleCount < 10 then .authority else s.eff.settleReason } } := by
  rw [granted, offerSettle_changes]
  rfl

end Sys2Proof.Machine
end

section
/-! PROOF. CLAIM: O41 (R7, R8, R27, R32, R131). -/

namespace Sys2Proof.Machine

/-! ### CLAIM's rows (R7) -/

section
variable {p : Port} {c : CabEnd} {s : State} (desk : deskEnd p = some c)
include desk

theorem handleClaim_live (live : s.liveEnd = some c) : handleClaim p s = (s, plain .done) := by
  unfold handleClaim
  rw [desk]
  exact if_pos live

theorem handleClaim_refused (other : s.liveEnd ≠ some c)
    (refused : s.liveEnd ≠ none ∨ s.aut.keys.get c = false ∨ s.standstill = false) : handleClaim p s = (s, plain .refused) := by
  unfold handleClaim
  rw [desk]
  dsimp only
  rw [if_neg other]
  by_cases live : s.liveEnd ≠ none
  · exact if_pos (Option.isSome_iff_ne_none.mpr live)
  · rw [if_neg (mt Option.isSome_iff_ne_none.mp live)]
    rcases refused.resolve_left live with off | moving
    · rw [off]
      rfl
    · rw [moving]
      exact ite_self _

theorem handleClaim_granted (none_ : s.liveEnd = none) (on : s.aut.keys.get c = true) (still : s.standstill = true) :
    handleClaim p s = (grantAuthority c s, plain .done) := by
  unfold handleClaim
  rw [desk]
  dsimp only
  rw [none_, on, still]
  rfl

end

theorem sent_vehicle {p : Port} (other : p ≠ .vehicle) (t : State) (f : OutFrame) :
    (t.sent p f).port .vehicle = t.port .vehicle := by
  cases p with
  | end1 => rfl
  | end2 => rfl
  | vehicle => exact absurd rfl other

/-- Settles O41: CLAIM's rows; a grant keeps the plan, or retires it and lets a pending switch take place. -/
theorem claimGrantsAuthority : Obligations.ClaimGrantsAuthority := by
  unfold Obligations.ClaimGrantsAuthority
  intro p tag c s ready desk
  refine ⟨fun live => exec_final ready nofun (handleClaim_live desk live),
    fun other refused => exec_final ready nofun (handleClaim_refused desk other refused), fun none_ on still => ?_⟩
  have handled : handleOrder p tag .claim (s.taken p) = (grantAuthority c (s.taken p), plain .done) :=
    handleClaim_granted (s := s.taken p) desk none_ on still
  obtain ⟨g, granted⟩ : ∃ g, g = offerSettle .authority 10 (resetLever { s.taken p with aut := grantedAut c s.aut }) := ⟨_, rfl⟩
  have changes := granted_changes (s := s.taken p) granted
  have aut := (congrArg State.aut changes :)
  have eff := (congrArg State.eff changes :)
  have pth : g.pth = s.pth := (congrArg State.pth changes :)
  have loop : g.loop = s.loop := (congrArg State.loop changes :)
  have stp : g.stp = s.stp := (congrArg State.stp changes :)
  have flt : g.flt = s.flt := (congrArg State.flt changes :)
  have jct : g.jct = s.jct := (congrArg State.jct changes :)
  have axl : g.axl = s.axl := (congrArg State.axl changes :)
  have snd : g.snd = s.snd := (congrArg State.snd changes :)
  have ord : g.ord = (s.taken p).ord := (congrArg State.ord changes :)
  have settings : g.ord.settings = s.ord.settings := by rw [ord]; rfl
  have grant : grantAuthority c (s.taken p)
      = if s.directionEnd = c then g else startTransmitter g (settleCheck (retirePlan g)) := by
    have direction : (s.taken p).directionEnd = s.directionEnd := rfl
    rw [granted, grantAuthority, direction]
    by_cases same : s.directionEnd = c
    · rw [if_pos same, same]
      exact if_neg (by simp)
    · rw [if_neg same]
      exact if_pos (by simp [same])
  rw [grant] at handled
  by_cases same : s.directionEnd = c
  · rw [if_pos same] at handled
    simp only [if_pos same]
    refine ⟨_, exec_final ready nofun handled, aut, eff, ?_, axl, snd, (congrArg Ord.run settings :), (congrArg Ord.config settings :),
      pth, loop, stp, flt, jct⟩
    rw [sent_outbound, List.getLast?_concat]
  · rw [if_neg same] at handled
    simp only [if_neg same]
    obtain ⟨t, made⟩ : ∃ t, t = startTransmitter g (settleCheck (retirePlan g)) := ⟨_, rfl⟩
    obtain ⟨u, retired⟩ : ∃ u, u = retireLive g := ⟨_, rfl⟩
    obtain ⟨autT, effT, axlT, sndT, settingsT⟩ := retired_blocks made
    obtain ⟨p0, rem0, switched⟩ := retired_position made
    obtain ⟨-, -, standbyU, -, deadU, staleU⟩ := retireLive_fields retired
    have begins := retired_begins made
    have drops := retireLive_drops retired
    have standbyBank := (retireLive_offering retired).bank
    have liveG : g.liveBank = s.liveBank := liveBank_of_outline (outline_of_pth pth)
    rw [liveG, stp, target_of_pth pth] at drops
    rw [liveG] at staleU
    rw [loop] at begins
    rw [pth, bank_of_pth pth] at standbyBank
    rw [pth] at standbyU
    rw [← made] at handled
    have settings := settingsT.trans settings
    refine ⟨_, exec_final ready nofun handled, autT.trans aut, effT.trans eff, ?_, axlT.trans axl, sndT.trans snd,
      (congrArg Ord.run settings :), (congrArg Ord.config settings :), p0, rem0, switched, begins, fun live none_ => ?_,
      fun none_ => ?_, fun x pending slot order => ?_⟩
    · rw [sent_outbound, List.getLast?_concat]
    · obtain ⟨-, stpT, fltT⟩ := retired_alone made (pth ▸ none_) retired
      rw [sent_stp, sent_flt, stpT, fltT]
      exact drops live
    · obtain ⟨pthT, -⟩ := retired_alone made (pth ▸ none_) retired
      refine ⟨(liveBank_of_outline (outline_of_pth pthT)).trans deadU, fun b live => ?_⟩
      rw [sent_bank, bank_of_pth pthT]
      exact staleU b live
    · obtain ⟨switch, completes⟩ := retired_switch made (pth ▸ pending) retired
      have portG : (g.port .vehicle).slot = some x := by
        rw [port_of_ord ord]
        exact (slotOf_taken p s .vehicle).trans slot
      obtain ⟨empty, outbound⟩ := completes x portG order
      have other : p ≠ .vehicle := by
        rintro rfl
        cases desk
      rw [sent_vehicle other, sent_bank]
      refine ⟨empty, ?_, u, ?_, deadU, standbyU, fun quiet => standbyBank fun i e j at_ point => ?_, staleU, fun live => (drops live).1⟩
      · rw [outbound]
        exact List.mem_append_right _ (List.mem_singleton_self _)
      · exact switchMade_congr rfl rfl rfl rfl rfl rfl rfl rfl (fun _ => rfl) switch
      · rw [entryAt_of_pth pth] at at_
        exact quiet (i, e) (mem_entries.mpr at_) j point

end Sys2Proof.Machine
end

section
/-! PROOF. RESTART: what PTH and JCT make of the entries (R42, R105). -/

namespace Sys2Proof.Machine

/-! ### PTH at RESTART (R42) -/

theorem pthRestart_clearing {s : State} (clearing : (s.bank s.pth.standby).state = .clearing) :
    pthRestart s = clearBank s.pth.standby .empty { s with pth.pendingSwitch := false } := by
  have bank : ({ s with pth.pendingSwitch := false } : State).bank s.pth.standby = s.bank s.pth.standby := by
    cases s.pth.standby <;> rfl
  unfold pthRestart
  dsimp only
  rw [bank, clearing]

/-- A bank's state as RESTART leaves it (R42). -/
def restartedState (standby : Bool) (x : BankState) : BankState :=
  if standby then
    match x with
    | .clearing => .empty
    | .sealing _ _ => .filling
    | x => x
  else x

theorem pthRestart_kept {s : State} (clearing : (s.bank s.pth.standby).state ≠ .clearing) :
    pthRestart s = ({ s with pth.pendingSwitch := false } : State).setBank s.pth.standby
      { s.bank s.pth.standby with state := restartedState true (s.bank s.pth.standby).state } := by
  obtain ⟨v, isV⟩ : ∃ v : State, v = { s with pth.pendingSwitch := false } := ⟨_, rfl⟩
  have bank : v.bank s.pth.standby = s.bank s.pth.standby := by rw [isV]; cases s.pth.standby <;> rfl
  have same : ∀ b, v.setBank b (v.bank b) = v := fun b => by cases b <;> rfl
  unfold pthRestart
  dsimp only
  rw [← isV, bank]
  split
  · next h => exact absurd h clearing
  · next h => rw [h]; rfl
  · next h1 h2 =>
    have stays : restartedState true (s.bank s.pth.standby).state = (s.bank s.pth.standby).state := by
      unfold restartedState
      rw [if_pos rfl]
      split
      · next h => exact absurd h h1
      · next h => exact absurd h (h2 _ _)
      · rfl
    rw [stays]
    exact (same _).symm.trans (by rw [bank])

/-- What PTH's restart leaves: the position and pointer, the banks' states, the entries but of a bank being cleared, and the
telegrams that LOOP holds for them. -/
structure PathRestarted (s w : State) : Prop where
  changes : w = { s with pth := w.pth, loop := w.loop }
  pth : w.pth = { s.pth with pendingSwitch := false, bankA := w.pth.bankA, bankB := w.pth.bankB }
  loop : w.loop = { s.loop with queue := w.loop.queue }
  state : ∀ b, (w.bank b).state = restartedState (decide (b = s.pth.standby)) (s.bank b).state
  cleared : (s.bank s.pth.standby).state = .clearing → ∀ i, w.entryAt s.pth.standby i = none
  kept : ∀ b, (b ≠ s.pth.standby ∨ (s.bank b).state ≠ .clearing) →
    (∀ i, w.entryAt b i = s.entryAt b i) ∧ ∀ i, w.remade b i = s.remade b i

theorem bank_cases (b c : BankName) : b = c ∨ b = otherBank c := by
  cases b <;> cases c <;> simp [otherBank]

/-- The give-ups in a queue that an entry makes again, the newest first (R105). -/
def remadeFrom (tram : Nat) (l : List QueuedTelegram) (b : BankName) (i : Nat) : List Telegram :=
  ((l.filter fun q => !isRequest q.telegram && q.entryStands && q.bank == b && q.index == i).map fun q =>
    { q.telegram with tram }).reverse

theorem remade_eq (s : State) (b : BankName) (i : Nat) : s.remade b i = remadeFrom (s.cfgNat .tramId) s.loop.queue b i := rfl

theorem cfgNat_of_ord {s t : State} (ord : t.ord = s.ord) (q : Param) : t.cfgNat q = s.cfgNat q := by
  rw [State.cfgNat, State.cfg, ord]
  rfl

theorem remade_of_loop {s t : State} (queue : t.loop.queue = s.loop.queue) (ord : t.ord = s.ord) (b : BankName) (i : Nat) :
    t.remade b i = s.remade b i := by
  rw [remade_eq, remade_eq, queue, cfgNat_of_ord ord]

/-- The entries of another bank keep their telegrams. -/
theorem remadeFrom_forget {c b : BankName} (ne : b ≠ c) (tram i : Nat) (l : List QueuedTelegram) :
    remadeFrom tram (l.map fun q => if q.bank = c ∧ 0 ≤ q.index then { q with entryStands := false } else q) b i
      = remadeFrom tram l b i := by
  have same : ∀ l : List QueuedTelegram, ((l.map fun q => if q.bank = c ∧ 0 ≤ q.index then { q with entryStands := false } else q).filter
      fun q => !isRequest q.telegram && q.entryStands && q.bank == b && q.index == i)
      = l.filter fun q => !isRequest q.telegram && q.entryStands && q.bank == b && q.index == i := by
    intro l
    induction l with
    | nil => rfl
    | cons q l ih =>
      rw [List.map_cons, List.filter_cons, List.filter_cons, ih]
      by_cases own : q.bank = c
      · simp [own, Ne.symm ne]
      · simp [own]
  rw [remadeFrom, same, remadeFrom]

theorem pathRestarted (s : State) : PathRestarted s (pthRestart s) := by
  obtain ⟨v, isV⟩ : ∃ v : State, v = { s with pth.pendingSwitch := false } := ⟨_, rfl⟩
  have bankV : ∀ b, v.bank b = s.bank b := fun b => by rw [isV]; cases b <;> rfl
  by_cases clearing : (s.bank s.pth.standby).state = .clearing
  · have made := pthRestart_clearing clearing
    rw [← isV] at made
    obtain ⟨c, isC⟩ : ∃ c, c = s.pth.standby := ⟨_, rfl⟩
    rw [← isC] at made
    have own : (pthRestart s).bank c = { state := .empty, slots := List.replicate Config.bankSize none } := by
      rw [made, clearBank, forgetEntriesFrom_bank, bank_setBank]
    have other : (pthRestart s).bank (otherBank c) = s.bank (otherBank c) := by
      rw [made, clearBank, forgetEntriesFrom_bank, bank_setBank_other, bankV]
    refine ⟨pthRestart_changes s _ rfl, ?_, ?_, fun b => ?_, fun _ i => ?_, fun b standing => ?_⟩
    · rw [made, isV]
      cases c <;> rfl
    · rw [made, isV]
      cases c <;> rfl
    · rw [← isC] at clearing ⊢
      rcases bank_cases b c with rfl | rfl
      · rw [own, clearing, decide_eq_true rfl]
        rfl
      · rw [other, decide_eq_false (otherBank_ne c)]
        rfl
    · rw [← isC, State.entryAt, own]
      rw [List.getElem?_replicate]
      split <;> rfl
    · rw [← isC] at clearing standing
      rcases bank_cases b c with rfl | rfl
      · exact absurd (standing.resolve_left (· rfl)) (not_not_intro clearing)
      · refine ⟨fun i => by rw [State.entryAt, other, State.entryAt], fun i => ?_⟩
        have queue : (pthRestart s).loop.queue = s.loop.queue.map fun q =>
            if q.bank = c ∧ 0 ≤ q.index then { q with entryStands := false } else q := by
          rw [made, isV]
          cases c <;> rfl
        have ord : (pthRestart s).ord = s.ord := (congrArg State.ord (pthRestart_changes s _ rfl) :)
        rw [remade_eq, queue, remadeFrom_forget (otherBank_ne c), cfgNat_of_ord ord, remade_eq]
  · have made := pthRestart_kept clearing
    rw [← isV] at made
    obtain ⟨c, isC⟩ : ∃ c, c = s.pth.standby := ⟨_, rfl⟩
    rw [← isC] at made
    have own : (pthRestart s).bank c = { s.bank c with state := restartedState true (s.bank c).state } := by
      rw [made, bank_setBank]
    have other : (pthRestart s).bank (otherBank c) = s.bank (otherBank c) := by
      rw [made, bank_setBank_other, bankV]
    refine ⟨pthRestart_changes s _ rfl, ?_, ?_, fun b => ?_, fun h => absurd h clearing, fun b _ => ⟨fun i => ?_, fun i => ?_⟩⟩
    · rw [made, isV]
      cases c <;> rfl
    · rw [made, isV]
      cases c <;> rfl
    · rw [← isC]
      rcases bank_cases b c with rfl | rfl
      · rw [own, decide_eq_true rfl]
      · rw [other, decide_eq_false (otherBank_ne c)]
        rfl
    · rcases bank_cases b c with rfl | rfl
      · rw [State.entryAt, own, State.entryAt]
      · rw [State.entryAt, other, State.entryAt]
    · have ord : (pthRestart s).ord = s.ord := (congrArg State.ord (pthRestart_changes s _ rfl) :)
      refine remade_of_loop ?_ ord b i
      rw [made, isV]
      cases c <;> rfl

end Sys2Proof.Machine
end

section
/-! PROOF. RESTART: the telegrams that JCT makes due (R105). -/

namespace Sys2Proof.Machine

/-! ### Entries through a change of their junctions -/

theorem entryAt_modJunction (s : State) (b c : BankName) (i n : Nat) (f : Junction → Junction) :
    (s.modJunction b i f).entryAt c n = if c = b ∧ n = i then (s.entryAt c n).map (Entry.modJunction f) else s.entryAt c n :=
  entryAt_modEntry ..

theorem modJunction_comp (f g : Junction → Junction) (e : Entry) :
    Entry.modJunction g (Entry.modJunction f e) = Entry.modJunction (fun j => g (f j)) e := by
  cases point : e.point <;> simp [Entry.modJunction, point]

theorem modJunction_junction {e : Entry} {j : Junction} (point : e.point = .junction j) (f : Junction → Junction) :
    Entry.modJunction f e = { e with point := .junction (f j) } := by
  rw [Entry.modJunction, point]

theorem modJunction_stop {e : Entry} {z : Stop} (point : e.point = .stop z) (f : Junction → Junction) :
    Entry.modJunction f e = e := by
  rw [Entry.modJunction, point]

theorem modJunction_id (e : Entry) : Entry.modJunction (fun j => j) e = e := by
  cases point : e.point with
  | junction j => rw [modJunction_junction point, ← point]
  | stop z => exact modJunction_stop point _

/-! ### The discarded give-ups made again (R105, step 1) -/

/-- A junction with telegrams due before its own. -/
def Junction.dueBefore (l : List Telegram) (j : Junction) : Junction := { j with due := l ++ j.due }

theorem remakeTelegram_entryAt (q : QueuedTelegram) (s : State) (b : BankName) (i : Nat) : (remakeTelegram q s).entryAt b i
    = (s.entryAt b i).map (Entry.modJunction (Junction.dueBefore (remadeFrom (s.cfgNat .tramId) [q] b i))) := by
  have stays : (s.entryAt b i).map (Entry.modJunction (Junction.dueBefore [])) = s.entryAt b i := by
    cases s.entryAt b i with
    | none => rfl
    | some e => exact congrArg some (modJunction_id e)
  unfold remakeTelegram remadeFrom
  rw [List.filter_cons, List.filter_nil]
  by_cases request : isRequest q.telegram = true
  · rw [if_pos request, request]
    exact stays.symm
  · rw [if_neg request, Bool.eq_false_iff.mpr request]
    by_cases stands : q.entryStands = true
    · rw [if_pos stands, stands, entryAt_modJunction]
      by_cases own : b = q.bank ∧ i = q.index
      · obtain ⟨rfl, rfl⟩ := own
        rw [if_pos ⟨rfl, rfl⟩]
        simp
        rfl
      · rw [if_neg own, if_neg]
        · exact stays.symm
        · intro held
          simp only [Bool.and_eq_true, beq_iff_eq] at held
          exact own ⟨held.1.2.symm, held.2.symm⟩
    · rw [if_neg stands, Bool.eq_false_iff.mpr stands]
      exact stays.symm

theorem remakeTelegram_changes (q : QueuedTelegram) (s : State) : remakeTelegram q s = { s with pth := (remakeTelegram q s).pth }
    ∧ (remakeTelegram q s).outline = s.outline := by
  unfold remakeTelegram
  split
  · exact ⟨rfl, rfl⟩
  · split
    · refine ⟨?_, modJunction_outline ..⟩
      unfold State.modJunction State.modEntry
      cases q.bank <;> rfl
    · exact ⟨rfl, rfl⟩

theorem remadeFrom_cons (tram : Nat) (q : QueuedTelegram) (l : List QueuedTelegram) (b : BankName) (i : Nat) :
    remadeFrom tram (q :: l) b i = remadeFrom tram l b i ++ remadeFrom tram [q] b i := by
  unfold remadeFrom
  rw [show q :: l = [q] ++ l from rfl, List.filter_append, List.map_append, List.reverse_append]

/-- The discarded telegrams remade, one after another. -/
theorem remakeTelegrams (l : List QueuedTelegram) : ∀ s t : State, t = l.foldl (fun s q => remakeTelegram q s) s →
    t = { s with pth := t.pth } ∧ t.outline = s.outline
      ∧ ∀ b i, t.entryAt b i = (s.entryAt b i).map (Entry.modJunction (Junction.dueBefore (remadeFrom (s.cfgNat .tramId) l b i))) := by
  induction l with
  | nil =>
    rintro _ t rfl
    refine ⟨rfl, rfl, fun b i => ?_⟩
    cases t.entryAt b i with
    | none => rfl
    | some e => exact congrArg some (modJunction_id e).symm
  | cons q l ih =>
    intro s t made
    obtain ⟨changes, outline⟩ := remakeTelegram_changes q s
    have first := remakeTelegram_entryAt q s
    rw [List.foldl_cons] at made
    obtain ⟨r, isR⟩ : ∃ r, r = remakeTelegram q s := ⟨_, rfl⟩
    rw [← isR] at made changes outline first
    obtain ⟨later, outlineT, entries⟩ := ih r t made
    have tram : r.cfgNat .tramId = s.cfgNat .tramId := by rw [changes]; rfl
    refine ⟨by rw [later, changes], outlineT.trans outline, fun b i => ?_⟩
    rw [entries, first, tram, remadeFrom_cons _ q l, Option.map_map]
    refine congrArg (Option.map · _) (funext fun e => ?_)
    rw [Function.comp_apply, modJunction_comp]
    refine congrArg (Entry.modJunction · e) (funext fun j => ?_)
    rw [Junction.dueBefore, Junction.dueBefore, Junction.dueBefore, List.append_assoc]

end Sys2Proof.Machine
end

section
/-! PROOF. RESTART: the live junctions' exchanges ended, and restartMade (R105). -/

namespace Sys2Proof.Machine

/-! ### The live junctions (R105, steps 2 and 3) -/

theorem restartJunction_eq (id : Nat) (s : State) (j : Junction) : restartJunction id s j
    = if j.state = .asked ∨ j.state = .moving ∨ j.state = .locked then
        { j with
          state := .waiting, timer := .stopped
          due := j.due ++ [Telegram.mk (if j.state = .locked then .release else .cancel) (s.cfgNat .tramId) id j.number,
            Telegram.mk (.request j.leg) (s.cfgNat .tramId) id (j.number + 1)] }
      else j := by
  unfold restartJunction
  split
  · next state => rw [if_pos (.inl state), state]; rfl
  · next state => rw [if_pos (.inr (.inl state)), state]; rfl
  · next state => rw [if_pos (.inr (.inr state)), state]; rfl
  · next asked moving locked =>
    rw [if_neg]
    rintro (state | state | state)
    exacts [asked state, moving state, locked state]

/-- The junctions of the live plan restarted, before the due heads are offered. -/
def restartLive (s : State) : State :=
  match s.liveBank with
  | none => s
  | some b => (s.bank b).entries.foldl (fun t x => t.modJunction b x.1 (restartJunction x.2.id s)) s

theorem jctRestart_eq (removed : List QueuedTelegram) (s : State) :
    jctRestart removed s = reoffer (restartLive (removed.foldl (fun s q => remakeTelegram q s) s)) := rfl

section
variable {b : BankName} (f : Entry → Junction → Junction)

/-- Junctions changed one after another: the entry at an index that the list does not name stays. -/
theorem modJunctions_other {c : BankName} {i : Nat} : ∀ (l : List (Nat × Entry)) (t : State),
    (c = b → ∀ x ∈ l, x.1 ≠ i) → (l.foldl (fun t x => t.modJunction b x.1 (f x.2)) t).entryAt c i = t.entryAt c i
  | [], _, _ => rfl
  | x :: l, t, away => by
    rw [List.foldl_cons, modJunctions_other l _ fun own y mem => away own y (List.mem_cons_of_mem _ mem), entryAt_modJunction,
      if_neg]
    exact fun own => away own.1 x List.mem_cons_self own.2.symm

theorem modJunctions_named (l : List (Nat × Entry)) : ∀ t : State, (l.Pairwise fun x y => x.1 < y.1) → ∀ x ∈ l,
    (l.foldl (fun t x => t.modJunction b x.1 (f x.2)) t).entryAt b x.1
      = (t.entryAt b x.1).map (Entry.modJunction (f x.2)) := by
  induction l with
  | nil => exact fun _ _ x mem => absurd mem List.not_mem_nil
  | cons y l ih =>
    intro t rising x mem
    obtain ⟨after, rising⟩ := List.pairwise_cons.mp rising
    rw [List.foldl_cons]
    rcases List.mem_cons.mp mem with same | mem
    · rw [same, modJunctions_other f l _ fun _ z memZ => (after z memZ).ne', entryAt_modJunction, if_pos ⟨rfl, rfl⟩]
    · rw [ih _ rising x mem, entryAt_modJunction, if_neg fun own => (after x mem).ne' own.2]

omit f in
theorem modJunction_changes (t : State) (i : Nat) (g : Junction → Junction) :
    t.modJunction b i g = { t with pth := (t.modJunction b i g).pth } := by
  unfold State.modJunction State.modEntry
  cases b <;> rfl

theorem modJunctions_changes : ∀ (l : List (Nat × Entry)) (t u : State),
    u = l.foldl (fun t x => t.modJunction b x.1 (f x.2)) t → u = { t with pth := u.pth } ∧ u.outline = t.outline
  | [], t, u, made => by
    rw [List.foldl_nil] at made
    rw [made]
    exact ⟨rfl, rfl⟩
  | x :: l, t, u, made => by
    obtain ⟨v, isV⟩ : ∃ v, v = t.modJunction b x.1 (f x.2) := ⟨_, rfl⟩
    rw [List.foldl_cons, ← isV] at made
    obtain ⟨changes, outline⟩ := modJunctions_changes l v u made
    have first : v = { t with pth := v.pth } := by rw [isV]; exact modJunction_changes ..
    exact ⟨by rw [changes, first], outline.trans (by rw [isV]; exact modJunction_outline ..)⟩

end

theorem restartLive_spec {s u : State} (made : u = restartLive s) : u = { s with pth := u.pth } ∧ u.outline = s.outline
    ∧ ∀ c i, u.entryAt c i = if s.liveBank = some c then
        (s.entryAt c i).map fun e => Entry.modJunction (restartJunction e.id s) e else s.entryAt c i := by
  unfold restartLive at made
  cases live : s.liveBank with
  | none =>
    rw [live] at made
    subst made
    exact ⟨rfl, rfl, fun c i => (if_neg nofun).symm⟩
  | some b =>
    rw [live] at made
    obtain ⟨changes, outline⟩ := modJunctions_changes (fun e => restartJunction e.id s) _ s u made
    refine ⟨changes, outline, fun c i => ?_⟩
    rw [made]
    by_cases own : b = c
    · subst own
      rw [if_pos rfl]
      cases at_ : s.entryAt b i with
      | none =>
        rw [modJunctions_other (fun e => restartJunction e.id s), at_]
        · rfl
        · rintro - x mem rfl
          rw [mem_entries.mp mem] at at_
          cases at_
      | some e =>
        have named := modJunctions_named (b := b) (fun e => restartJunction e.id s) _ s (entriesFrom_pairwise 0 _) (i, e)
          (mem_entries.mpr at_)
        exact named.trans (by rw [at_]; rfl)
    · rw [if_neg (fun same => own (Option.some.inj same))]
      exact modJunctions_other (fun e => restartJunction e.id s) _ s fun same => absurd same.symm own

/-! ### The whole of PTH and JCT (R42, R105) -/

/-- PTH's restart, then the discarded telegrams remade and the live junctions restarted, make restartMade. -/
theorem restartMade_of {s w r u : State} (path : PathRestarted s w) (pthR : r.pth = w.pth) (cfgR : ∀ q, r.cfgNat q = s.cfgNat q)
    (queue : r.loop.queue = [])
    (made : u = restartLive (w.loop.queue.foldl (fun s q => remakeTelegram q s) r)) : restartMade s u := by
  obtain ⟨v, isV⟩ : ∃ v, v = w.loop.queue.foldl (fun s q => remakeTelegram q s) r := ⟨_, rfl⟩
  rw [← isV] at made
  obtain ⟨changesV, outlineV, entriesV⟩ := remakeTelegrams _ r v isV
  obtain ⟨changesU, outlineU, entriesU⟩ := restartLive_spec made
  have outlineR := outline_of_pth pthR
  have outline : u.outline = w.outline := (outlineU.trans outlineV).trans outlineR
  have tram : ∀ q, v.cfgNat q = s.cfgNat q := fun q => by
    rw [changesV]
    exact cfgR q
  have tramR : r.cfgNat .tramId = w.cfgNat .tramId := by
    rw [cfgR, path.changes]
    rfl
  have live : v.liveBank = s.liveBank := by
    rw [liveBank_of_outline (outlineV.trans outlineR)]
    have standby : w.pth.standby = s.pth.standby := by rw [path.pth]
    have other : (w.bank (otherBank s.pth.standby)).state = (s.bank (otherBank s.pth.standby)).state := by
      rw [path.state, decide_eq_false (otherBank_ne _)]
      rfl
    rw [State.liveBank, standby, other, State.liveBank]
  have entries : ∀ b i, u.entryAt b i = (w.entryAt b i).map fun e => Entry.modJunction
      (fun j => (if s.liveBank = some b then restartJunction e.id v else id) (j.dueBefore (w.remade b i))) e := fun b i => by
    rw [entriesU, live, entriesV, entryAt_of_pth pthR, tramR, ← remade_eq]
    split
    · rw [Option.map_map]
      refine congrArg (Option.map · _) (funext fun e => ?_)
      have same : (Entry.modJunction (Junction.dueBefore (w.remade b i)) e).id = e.id := by
        cases point : e.point <;> simp [Entry.modJunction, point]
      rw [Function.comp_apply, same, modJunction_comp]
    · rfl
  refine ⟨?_, ?_, fun b => ?_, fun b i => ⟨?_, ?_⟩⟩
  · rw [changesU, changesV]
    exact queue
  · have path := path.pth
    have kept := pth_of_outline outline
    rw [kept, path]
  · rw [bankState_of_outline outline, path.state]
    unfold restartedState
    by_cases own : b = s.pth.standby
    · rw [decide_eq_true own]
      refine (if_pos rfl).trans (Eq.trans ?_ (if_pos own).symm)
      cases (s.bank b).state <;> rfl
    · rw [decide_eq_false own, if_neg Bool.false_ne_true, if_neg own]
  · rintro rfl clearing
    rw [entries, path.cleared clearing, Option.map_none]
  · intro standing
    obtain ⟨kept, remade⟩ := path.kept b standing
    rw [entries, kept, remade]
    refine ⟨fun none_ => by rw [none_, Option.map_none], fun e at_ => ⟨fun z point => ?_, ?_⟩⟩
    · rw [at_, Option.map_some, modJunction_stop point]
    · intro j k giveUp request point isGiveUp isRequest isK
      rw [at_, Option.map_some, modJunction_junction point, isK]
      refine congrArg (fun j => some { e with point := Waypoint.junction j }) ?_
      by_cases isLive : s.liveBank = some b
      · rw [if_pos isLive, restartJunction_eq, tram, isGiveUp, isRequest]
        by_cases active : j.state = .asked ∨ j.state = .moving ∨ j.state = .locked
        · exact (if_pos active).trans (if_pos ⟨isLive, active⟩).symm
        · exact (if_neg active).trans (if_neg fun both => active both.2).symm
      · rw [if_neg isLive, if_neg fun both => isLive both.1]
        rfl

end Sys2Proof.Machine
end

section
/-! PROOF. RESTART: O37 (R42, R105, R198, R199). -/

namespace Sys2Proof.Machine

/-! ### The due heads offered again leave every entry -/

theorem isSome_of_offeredAgain {u v : State} (offered : offeredAgain u v) (b : BankName) (i : Nat) :
    (v.entryAt b i).isSome = (u.entryAt b i).isSome := by
  obtain ⟨-, -, others, taken⟩ := offered _ rfl
  by_cases named : ∃ q ∈ takenHeads u.loop.queue u.dueHeads, q.bank = b ∧ q.index = i
  · obtain ⟨q, mem, rfl, rfl⟩ := named
    obtain ⟨e, j, k, atU, -, atV, -⟩ := taken q mem
    rw [atU, atV]
    rfl
  · rw [others b i fun q mem bank index => named ⟨q, mem, bank, index⟩]

/-- A state that no taken REQUEST gives a junction was the junction's before. -/
theorem state_of_offeredAgain {u v : State} (offered : offeredAgain u v) {b : BankName} {i : Nat} {e : Entry} {j : Junction}
    (at_ : v.entryAt b i = some e) (point : e.point = .junction j) (other : j.state ≠ .asked) :
    ∃ f k, u.entryAt b i = some f ∧ f.point = .junction k ∧ k.state = j.state := by
  obtain ⟨-, -, others, taken⟩ := offered _ rfl
  by_cases named : ∃ q ∈ takenHeads u.loop.queue u.dueHeads, q.bank = b ∧ q.index = i
  · obtain ⟨q, mem, rfl, rfl⟩ := named
    obtain ⟨f, k, m, atU, pointU, atV, isM⟩ := taken q mem
    obtain rfl := Option.some.inj (at_.symm.trans atV)
    obtain rfl := Waypoint.junction.inj point
    refine ⟨f, k, atU, pointU, ?_⟩
    by_cases request : isRequest q.telegram = true
    · rw [if_pos request] at isM
      exact absurd (by rw [isM]) other
    · rw [if_neg request] at isM
      rw [isM]
  · rw [others b i fun q mem bank index => named ⟨q, mem, bank, index⟩] at at_
    exact ⟨e, j, at_, point, rfl⟩

/-! ### The entries after a RESTART -/

section
variable {s u : State} (made : restartMade s u)
include made

theorem isSome_of_restartMade {b : BankName} (standing : b ≠ s.pth.standby ∨ (s.bank b).state ≠ .clearing) (i : Nat) :
    (u.entryAt b i).isSome = (s.entryAt b i).isSome := by
  obtain ⟨-, -, -, entries⟩ := made
  obtain ⟨none_, some_⟩ := (entries b i).2 standing
  cases at_ : s.entryAt b i with
  | none => rw [none_ at_]
  | some e =>
    obtain ⟨stops, junctions⟩ := some_ e at_
    cases point : e.point with
    | stop z => rw [stops z point]
    | junction j =>
      rw [junctions j _ _ _ point rfl rfl rfl]
      rfl

/-- No live junction stays MOVING or LOCKED (R105). -/
theorem idle_of_restartMade {b : BankName} (live : s.liveBank = some b) {i : Nat} {e : Entry} {j : Junction}
    (at_ : u.entryAt b i = some e) (point : e.point = .junction j) : j.state ≠ .moving ∧ j.state ≠ .locked := by
  have standing : b ≠ s.pth.standby := by
    rw [otherBank_of_live live]
    exact otherBank_ne _
  obtain ⟨-, -, -, entries⟩ := made
  obtain ⟨none_, some_⟩ := (entries b i).2 (.inl standing)
  cases atS : s.entryAt b i with
  | none => rw [none_ atS] at at_; cases at_
  | some f =>
    obtain ⟨stops, junctions⟩ := some_ f atS
    cases pointF : f.point with
    | stop z =>
      obtain rfl := Option.some.inj (at_.symm.trans (stops z pointF))
      rw [point] at pointF
      cases pointF
    | junction k =>
      obtain rfl := Option.some.inj (at_.symm.trans (junctions k _ _ _ pointF rfl rfl rfl))
      obtain rfl := Waypoint.junction.inj point
      by_cases active : k.state = .asked ∨ k.state = .moving ∨ k.state = .locked
      · rw [if_pos ⟨live, active⟩]
        exact ⟨nofun, nofun⟩
      · rw [if_neg fun both => active both.2]
        exact ⟨fun moving => active (.inr (.inl moving)), fun locked => active (.inr (.inr locked))⟩

end

/-! ### The blocks at RESTART (R198, R199) -/

/-- JCT's part of a RESTART: the telegrams made due, and the due heads offered into the empty queue (R90, R105). -/
theorem jctRestart_spec {a w r : State} (path : PathRestarted a w) (pth : r.pth = w.pth) (cfg : ∀ q, r.cfgNat q = a.cfgNat q)
    (queue : r.loop.queue = []) : ∃ u, restartMade a u ∧ offeredAgain u (jctRestart w.loop.queue r)
      ∧ (jctRestart w.loop.queue r).outline = w.outline
      ∧ (jctRestart w.loop.queue r).loop = { r.loop with queue := (jctRestart w.loop.queue r).loop.queue } := by
  obtain ⟨v, isV⟩ : ∃ v, v = w.loop.queue.foldl (fun s q => remakeTelegram q s) r := ⟨_, rfl⟩
  obtain ⟨u, isU⟩ : ∃ u, u = restartLive v := ⟨_, rfl⟩
  obtain ⟨changesV, outlineV, -⟩ := remakeTelegrams _ r v isV
  obtain ⟨changesU, outlineU, -⟩ := restartLive_spec isU
  have loopU : u.loop = r.loop := by rw [changesU, changesV]
  have offers : jctRestart w.loop.queue r = reoffer u := by rw [jctRestart_eq, ← isV, isU]
  rw [offers]
  refine ⟨u, restartMade_of path pth cfg queue (by rw [isU, isV]), offeredAgain_reoffer fun q _ _ y mem => ?_, ?_, ?_⟩
  · rw [loopU, queue] at mem
    exact absurd mem List.not_mem_nil
  · exact (reofferWith_outline ..).trans ((outlineU.trans outlineV).trans (outline_of_pth pth))
  · rw [← loopU]
    exact (offering_reofferWith (c := .bankA) offeringFuel u).loop

/-- A port at RESTART (R198). -/
theorem ordRestart_port (w : State) (p : Port) : (ordRestart w).port p = { w.port p with
    queue := [], headTicks := 0, slot := none, preface := none
    outbound := (w.port p).outbound ++ w.interruptedReplies (w.port p) } := by
  cases p <;> rfl

end Sys2Proof.Machine
end

section
/-! PROOF. RESTART: O37 (R42, R105, R198, R199). -/

namespace Sys2Proof.Machine

/-- A RESTART that is ready is handled (R182, R198). -/
theorem exec_restart {s : State} {tag : Byte} (ready : s.ready .vehicle tag .restart) :
    exec (.restart .vehicle tag) s = .next (handleRestart .vehicle tag (s.taken .vehicle)) := by
  refine congrArg Host.Outcome.next ?_
  rw [takeRestart, consumed_atHead ready.1]
  dsimp only
  rw [taken_failedCheck, failedCheck_ready ready]

section
variable {a w x y z t : State} (pathW : w = pthRestart a) (ordX : x = ordRestart w) (effY : y = effRestart (autRestart x))
  (loopZ : z = loopRestart y) (madeT : t = sndRestart (jctRestart w.loop.queue z))
include pathW ordX effY loopZ madeT

omit pathW in
/-- What the blocks after PTH and ORD leave of the state (R198, R199). -/
theorem restart_blocks : t.aut = (autRestart w).aut ∧ t.eff = (effRestart (autRestart w)).eff ∧ t.ord = x.ord
    ∧ z.pth = w.pth ∧ z.loop = { w.loop with queue := [], transmitter := .gap 0 } := by
  have blocks : x.aut = w.aut ∧ x.eff = w.eff ∧ x.pth = w.pth ∧ x.loop = w.loop := by rw [ordX]; exact ⟨rfl, rfl, rfl, rfl⟩
  obtain ⟨aut, eff, pth, loop⟩ := blocks
  have autT : ∀ x : State, x.aut = w.aut → (autRestart x).aut = (autRestart w).aut := fun x same => by
    simp only [autRestart, vacate, resetLever, setLever, same]
  have effT : ∀ x : State, x.eff = w.eff → (effRestart (autRestart x)).eff = (effRestart (autRestart w)).eff := fun x same => by
    simp only [effRestart, autRestart, vacate, resetLever, setLever, offerSettle_changes, same]
  refine ⟨?_, ?_, ?_, ?_, ?_⟩
  · rw [madeT, sndRestart_aut, jctRestart_aut, loopZ, loopRestart_aut, effY, effRestart_aut, autT x aut]
  · rw [madeT, sndRestart_eff, jctRestart_eff, loopZ, loopRestart_eff, effY, effT x eff]
  · rw [madeT, sndRestart_ord, jctRestart_ord, loopZ, loopRestart_ord, effY, effRestart_ord]
    rfl
  · rw [loopZ, loopRestart_pth, effY, effRestart_pth, ← pth]
    rfl
  · have loopY : y.loop = w.loop := by
      rw [effY, effRestart_loop, ← loop]
      rfl
    rw [loopZ, ← loopY]
    rfl

/-- PTH, JCT and LOOP through a RESTART. -/
theorem restart_path : ∃ u v, restartMade a u ∧ offeredAgain u v ∧ t.pth = v.pth ∧ t.loop.queue = v.loop.queue
    ∧ t.outline = w.outline ∧ t.loop = { a.loop with queue := t.loop.queue, transmitter := .gap 0 } := by
  obtain ⟨-, -, ord, pth, loop⟩ := restart_blocks ordX effY loopZ madeT
  have path : PathRestarted a w := pathW ▸ pathRestarted a
  have cfg : ∀ q, z.cfgNat q = a.cfgNat q := fun q => by
    have ordZ : z.ord = x.ord := by
      rw [loopZ, loopRestart_ord, effY, effRestart_ord]
      rfl
    have config : z.ord.config = a.ord.config := by
      rw [ordZ, ordX, path.changes]
      rfl
    rw [State.cfgNat, State.cfg, config]
    rfl
  obtain ⟨u, made, offered, outline, loopR⟩ := jctRestart_spec path pth cfg (by rw [loop])
  refine ⟨u, jctRestart w.loop.queue z, made, offered, ?_, ?_, ?_, ?_⟩
  · rw [madeT, sndRestart_pth]
  · rw [madeT, sndRestart_loop]
  · rw [← outline, madeT]
    exact outline_of_pth (sndRestart_pth _)
  · have loopA := path.loop
    rw [madeT, sndRestart_loop, loopR, loop, loopA]

end

/-- The frames of a port at RESTART (R198). -/
theorem restart_outbound {w : State} {b : BankName} {k : BankState} (standby : w.pth.standby = b) (state : (w.bank b).state = k)
    (c : PortContext) : ∃ done, w.interruptedReplies c = done ++ (c.queue.map fun q => finalReply q.tag q.order .interrupted
        (if isPlanOrder q.order = true then .plan b k else .none))
      ∧ (c.slot = none → done = [])
      ∧ ∀ x, c.slot = some x → ∃ r, done = [completionReply x.tag (deferredCode x.order) .interrupted r] := by
  have unchecked : ∀ o, w.uncheckedResults o = if isPlanOrder o = true then .plan b k else .none := fun o => by
    rw [State.uncheckedResults, State.planResults, standby, state]
  refine ⟨c.slot.toList.map fun x => completionReply x.tag (deferredCode x.order) .interrupted (w.interruptedResults x), ?_,
    fun none_ => by rw [none_]; rfl, fun x slot => ?_⟩
  · refine congrArg (_ ++ ·) (List.map_congr_left fun q _ => ?_)
    rw [unchecked]
    rfl
  · exact ⟨w.interruptedResults x, by rw [slot]; rfl⟩

end Sys2Proof.Machine
end

section
/-! PROOF. RESTART: O37 (R42, R105, R198, R199). -/

namespace Sys2Proof.Machine

/-- AUT, EFF and SND after a RESTART (R17, R62, R85, R161). -/
theorem restart_values {w t : State} (aut : t.aut = (autRestart w).aut) (eff : t.eff = (effRestart (autRestart w)).eff) :
    (t.aut.authority = .vacant ∧ t.aut.keys = w.aut.keys ∧ t.aut.lastLive = w.aut.lastLive ∧ t.aut.keyLost = false
        ∧ t.aut.gripHeld = false ∧ t.aut.handover = .stopped ∧ t.aut.silence = .stopped ∧ t.aut.vigilance = .stopped)
      ∧ (t.eff.e = w.eff.e ∧ t.eff.held = true ∧ t.eff.rollback = false ∧ t.eff.l = 0 ∧ t.eff.d = 0
        ∧ t.eff.selector = .neutral ∧ t.eff.taken = .forward ∧ t.eff.settleCount = max 10 w.eff.settleCount
        ∧ t.eff.settleReason = (if w.eff.settleCount < 10 then .restart else w.eff.settleReason)) := by
  rw [aut, eff, effRestart, offerSettle_changes]
  exact ⟨⟨rfl, rfl, rfl, rfl, rfl, rfl, rfl, rfl⟩, rfl, rfl, rfl, rfl, rfl, rfl, rfl, rfl, rfl⟩

theorem entries_eq_nil {s : State} {b : BankName} (none_ : ∀ i, s.entryAt b i = none) : (s.bank b).entries = [] := by
  refine List.eq_nil_iff_forall_not_mem.mpr fun x mem => ?_
  have held := mem_entries.mp mem
  rw [none_] at held
  cases held

/-- Settles O37: REFUSED while moving; else every block by its restart rule. -/
theorem restartInterruptsEverything : Obligations.RestartInterruptsEverything := by
  unfold Obligations.RestartInterruptsEverything
  intro tag s ready
  obtain ⟨a, isA⟩ : ∃ a, a = (s.taken .vehicle).sent .vehicle (finalReply tag .restart .done .none) := ⟨_, rfl⟩
  rw [exec_restart ready]
  refine ⟨fun moving => ?_, fun still => ?_⟩
  · rw [handleRestart, if_pos (by rw [show (s.taken .vehicle).standstill = false from moving]; rfl)]
    rfl
  obtain ⟨w, pathW⟩ : ∃ w, w = pthRestart a := ⟨_, rfl⟩
  obtain ⟨x, ordX⟩ : ∃ x, x = ordRestart w := ⟨_, rfl⟩
  obtain ⟨y, effY⟩ : ∃ y, y = effRestart (autRestart x) := ⟨_, rfl⟩
  obtain ⟨z, loopZ⟩ : ∃ z, z = loopRestart y := ⟨_, rfl⟩
  obtain ⟨t, madeT⟩ : ∃ t, t = sndRestart (jctRestart w.loop.queue z) := ⟨_, rfl⟩
  have loopY : y.loop = w.loop := by
    rw [effY, effRestart_loop, ordX]
    rfl
  have restarted : handleRestart .vehicle tag (s.taken .vehicle) = restartBlocks a := by
    rw [handleRestart, if_neg (by rw [show (s.taken .vehicle).standstill = true from still]; exact Bool.false_ne_true), isA]
    rfl
  have blocks : restartBlocks a = t := by
    rw [madeT, loopZ, ← loopY, effY, ordX, pathW]
    rfl
  obtain ⟨aut, eff, ord, -, -⟩ := restart_blocks ordX effY loopZ madeT
  obtain ⟨u, v, made, offered, pth, queue, outline, loop⟩ := restart_path pathW ordX effY loopZ madeT
  have path : PathRestarted a w := pathW ▸ pathRestarted a
  obtain ⟨values, drive⟩ := restart_values aut eff
  have changes := restartBlocks_changes a t blocks.symm
  have pthA : a.pth = s.pth := by rw [isA]; rfl
  have loopA : a.loop = s.loop := by rw [isA]; rfl
  have autW : w.aut = s.aut := by rw [path.changes, isA]; rfl
  have effW : w.eff = s.eff := by rw [path.changes, isA]; rfl
  have standbyW : w.pth.standby = s.pth.standby := by rw [path.pth, pthA]
  have portW : ∀ p, w.port p = a.port p := port_of_ord (by rw [path.changes])
  have portT : ∀ p, t.port p = x.port p := port_of_ord ord
  have bankA : ∀ b, a.bank b = s.bank b := bank_of_pth pthA
  have madeS : restartMade s u := by
    rw [isA] at made
    exact made
  rw [restarted, blocks]
  rw [autW] at values
  rw [effW] at drive
  rw [loopA] at loop
  have stateT : ∀ b, (t.bank b).state = restartedState (decide (b = s.pth.standby)) (s.bank b).state := fun b => by
    rw [bankState_of_outline outline, path.state, pthA, bankA]
  have atT : ∀ b i, t.entryAt b i = v.entryAt b i := entryAt_of_pth pth
  have live : t.liveBank = s.liveBank := by
    have standby : t.pth.standby = s.pth.standby := (standby_of_outline outline).trans standbyW
    have other : (t.bank (otherBank s.pth.standby)).state = (s.bank (otherBank s.pth.standby)).state := by
      rw [stateT, decide_eq_false (otherBank_ne _)]
      rfl
    rw [State.liveBank, standby, other, State.liveBank]
  refine ⟨t, rfl, fun p => ?_, fun p => ?_, values, drive, fun c => ?_, loop, ⟨live, ?_, ?_, ?_⟩, fun m n sealing => ?_,
    fun clearing => ?_, ⟨u, v, madeS, offered, pth, queue⟩, fun ⟨i, e⟩ mem j point => ?_, ?_⟩
  · rw [portT, ordX, ordRestart_port]
    exact ⟨rfl, rfl, rfl⟩
  · obtain ⟨outboundA, slotA, queueA⟩ : (a.port p).outbound = (s.port p).outbound
          ++ (if p = .vehicle then [finalReply tag .restart .done .none] else [])
        ∧ (a.port p).slot = (s.port p).slot ∧ (a.port p).queue = ((s.taken .vehicle).port p).queue := by
      rw [isA]
      cases p with
      | vehicle => exact ⟨rfl, rfl, rfl⟩
      | end1 => exact ⟨(List.append_nil _).symm, rfl, rfl⟩
      | end2 => exact ⟨(List.append_nil _).symm, rfl, rfl⟩
    obtain ⟨done, replies, none_, some_⟩ := restart_outbound standbyW (bankState_of_outline outline s.pth.standby).symm (a.port p)
    rw [slotA] at none_ some_
    refine ⟨done, ?_, none_, some_⟩
    rw [portT, ordX, ordRestart_port, portW, replies, outboundA, queueA, List.append_assoc _ done]
  · rw [madeT]
    cases c <;> exact ⟨rfl, rfl, rfl⟩
  · rw [position_of_outline outline, path.pth, pthA]
  · rw [rem_of_outline outline, path.pth, pthA]
  · rw [pendingSwitch_of_outline outline, path.pth]
  · refine ⟨?_, fun i => ?_⟩
    · rw [stateT, decide_eq_true rfl, sealing]
      rfl
    · rw [atT, isSome_of_offeredAgain offered, isSome_of_restartMade madeS (.inr (by rw [sealing]; nofun))]
  · refine ⟨?_, entries_eq_nil fun i => ?_⟩
    · rw [stateT, decide_eq_true rfl, clearing]
      rfl
    · have gone : u.entryAt s.pth.standby i = none := (madeS.2.2.2 _ i).1 rfl clearing
      have none_ := isSome_of_offeredAgain offered s.pth.standby i
      rw [gone] at none_
      rw [atT]
      exact Option.not_isSome_iff_eq_none.mp (Bool.eq_false_iff.mp none_)
  · have isLive : ∃ b, t.liveBank = some b ∧ t.entryAt b i = some e := by
      unfold State.liveEntries at mem
      split at mem
      · next b live => exact ⟨b, live, mem_entries.mp mem⟩
      · exact absurd mem List.not_mem_nil
    obtain ⟨b, liveT, at_⟩ := isLive
    rw [live] at liveT
    rw [atT] at at_
    by_cases asked : j.state = .asked
    · rw [asked]
      exact ⟨nofun, nofun⟩
    · obtain ⟨f, k, atU, pointU, same⟩ := state_of_offeredAgain offered at_ point asked
      rw [← same]
      exact idle_of_restartMade madeS liveT atU pointU
  · have kept : t.axl = a.axl ∧ t.stp = a.stp ∧ t.flt = a.flt ∧ t.jct = a.jct ∧ t.ord.run = a.ord.run
        ∧ t.ord.config = a.ord.config ∧ t.ord.waiting = a.ord.waiting ∧ t.ord.pictureCount = a.ord.pictureCount :=
      ⟨(congrArg State.axl changes :), (congrArg State.stp changes :), (congrArg State.flt changes :),
        (congrArg State.jct changes :), (congrArg (·.ord.run) changes :), (congrArg (·.ord.config) changes :),
        (congrArg (·.ord.waiting) changes :), (congrArg (·.ord.pictureCount) changes :)⟩
    rw [isA] at kept
    exact kept

end Sys2Proof.Machine
end
